-- ==== Sys2Proof/Word.lean ====
section
/-! DEFINITION. The word types of the KW8C and the finite numberings the manual uses.
Only what the manual treats as bits is a bit vector; counts, powers, currents, distances and times are naturals. -/

namespace Sys2Proof

/-- One byte of host memory or of a link packet. -/
abbrev Byte := BitVec 8
/-- A 16-bit quantity: a check (R8), a fire tag (R111), a two-byte packet field (R85). -/
abbrev Half := BitVec 16
/-- A 32-bit register or counter (R1, R10). -/
abbrev Word := BitVec 32
/-- A 64-bit host address (R2), or a 64-bit cell time (R101). -/
abbrev Addr := BitVec 64

/-- Ports are numbered 0 to 7 (00_scope, Numbering). -/
abbrev Port := Fin 8
/-- Order slots are numbered 0 to 31. -/
abbrev SlotNo := Fin 32
/-- Trigger programs are numbered 0 to 3. -/
abbrev ProgNo := Fin 4
/-- Strobe lines are numbered 0 to 3. -/
abbrev LineNo := Fin 4
/-- Buffers are numbered 0 to 127. -/
abbrev BufNo := Fin 128

end Sys2Proof
end

