-- ==== Sys2Proof/Config.lean ====
section
/-! DEFINITION. The fixed figures of the part (identity, times, levels) and the free values: values the manual does not
state for a case it lets run. A free value is an opaque constant applied to a counter of State, so no proof can see it. -/

namespace Sys2Proof.Config

/-- IDENT's read value: family 0x4B57, part 0x08, revision 0x03 (section 1.1, R1). -/
def ident : Word := 0x4B570803#32
/-- The signature word of a Control Page (R3). -/
def signature : Word := 0x4B573843#32
/-- The page format of a Control Page (R3). -/
def pageFormat : Word := 1#32

/-! Times, in microseconds. -/
/-- 50 ms: no completion of a read of host memory within it is a failure (R3, R13, R25, R49). -/
def readLimit : Nat := 50000
/-- 250 ms between refreshes of the header report and of the port report parts (R6, R28). -/
def refreshPeriod : Nat := 250000
/-- 100 ms re-check period in RUN (R33). -/
def recheckPeriod : Nat := 100000
/-- 500 ms hold of a CYCLE (R57). -/
def cycleHold : Nat := 500000
/-- 50 ms charge time (R68). -/
def chargeTime : Nat := 50000
/-- 20 ms of SETTLING (R69). -/
def settlingTime : Nat := 20000
/-- 10 ms limit timer (R71). -/
def limitTime : Nat := 10000
/-- 1000 ms retry wait (R81). -/
def retryTime : Nat := 1000000
/-- 60 s steady timer (R81). -/
def steadyTime : Nat := 60000000
/-- 10 s cool-down timer (R172). -/
def cooldownTime : Nat := 10000000
/-- 250 ms ASK interval (R89). -/
def askTime : Nat := 250000
/-- 2000 ms greeting wait (R88). -/
def greetingTime : Nat := 2000000
/-- 100 ms silence timer of TALK (R92). -/
def silenceTime : Nat := 100000
/-- 20 ms hush wait (R96). -/
def hushTime : Nat := 20000
/-- 100 ms error windows (R98). -/
def windowTime : Nat := 100000
/-- 100 ms added to the exposure for the RESERVED timer (R123). -/
def reservedExtra : Nat := 100000
/-- 500 ms silence timer of a FILLING buffer (R127). -/
def fillingTime : Nat := 500000
/-- 200 ms staging timer (R135). -/
def stagingTime : Nat := 200000
/-- 3000 ms stuck timer (R135). -/
def stuckTime : Nat := 3000000
/-- 5000 ms ready limit of a probe (R153). -/
def readyTime : Nat := 5000000
/-- A raw line level must stand 1 µs, here in nanoseconds, to become the filtered level (R102). -/
def filterNs : Nat := 1000

/-! Levels. -/
/-- The SHORT level, 3000 mA (R72). -/
def shortCurrent : Nat := 3000
/-- The greatest magnitude of an offset trim, 63 mA (R67). -/
def trimLimit : Int := 63

/-! Free values. -/
/-- FREE VALUE: is the path field of a PROBE or LEARN result HUSHED, when the probe ended before it took either path?
R163 and R158 say the field is written; no rule says with what (log 14). -/
opaque unsetPathHushed : Nat → Bool
/-- FREE VALUE: the reason code (1 to 18) of a SNAP skipped PROBE; R55 gives reasons for the other four skips (log 15). -/
opaque probeSkipReason : Nat → Fin 18

end Sys2Proof.Config
end

