-- ==== Sys2Proof/Syntax.lean ====
section
/-! DEFINITION. The commands: one constructor per row of spec/opcode_table.json, in the table's order.
The KW8C is a block, not a processor: a command is a register write, the completion of a read of host memory, a packet
from a camera, an edge of a cell line, the expiry of one of the part's own timers, or the carrying out of an order. -/

namespace Sys2Proof

/-- The sweep areas of section 1.5: CELL_SHEET, PORT_SHEET 0 to 7, ORDERS and POOL. -/
inductive Area where
  | cellSheet
  | portSheet (p : Port)
  | orders
  | pool
deriving DecidableEq, Repr

/-- The payload fields of a HELLO packet, as received (R85). The lens kind is its code; low and high limits per axis. -/
structure HelloPacket where
  serial : Word
  camClass : Byte
  lensCode : Byte
  maxPower : Half
  standbyPower : Half
  motionPower : Half
  focusLow : Half
  focusHigh : Half
  irisLow : Half
  irisHigh : Half
  zoomLow : Half
  zoomHigh : Half
deriving DecidableEq, Repr

/-- The payload fields of a LENS_STATE packet, as received (R85). -/
structure LensPacket where
  presence : Byte
  focus : Half
  iris : Half
  zoom : Half
  moving : Byte
deriving DecidableEq, Repr

/-- One port's raw readings of one 100 µs measurement (R70): current in mA before the trim, and port voltage in mV. -/
structure Reading where
  current : Int
  voltage : Nat
deriving DecidableEq, Repr

/-- The bus's answer to a read of host memory: the number of the read it answers, as the bus names it (log 42), and what it brings. -/
structure Completion (α : Type) where
  read : Nat
  data : α
deriving DecidableEq, Repr

/-- The commands of the block. A docstring names the row's rule and says what its operands are. -/
inductive Instr where
  /-- POWER_ON_RESET (R182). The operands are the raw levels of ENC_IN, TRIG_IN and MOTION (R102). -/
  | powerOnReset (enc trig motion : Bool)
  /-- LINE_RESET (R182): the filtered RST_N has stood low for 1 µs. -/
  | lineReset
  /-- LINE_RESET_RELEASE (R182), with the raw levels the filters take (R102). -/
  | lineResetRelease (enc trig motion : Bool)
  /-- REGISTER_WRITE_OTHER (R1): a write of `size` bytes at an offset of the 4 KiB window. -/
  | registerWriteOther (offset : BitVec 12) (size : Nat) (value : Word)
  /-- SERVICE_WRITE (R16). -/
  | serviceWrite (value : Word)
  /-- PAGE_TAKE (R3): PAGE_HI is written with `hi`, the pair it makes being non-zero. -/
  | pageTake (hi : Word)
  /-- PAGE_RELEASE (R5): PAGE_HI is written with zero, the pair it makes being zero. -/
  | pageRelease
  /-- PAGE_HEADER_READ_COMPLETE (R4) of the read of that number: the signature and format read, or none for a completion
  error. -/
  | pageHeaderReadComplete (reply : Completion (Option (Word × Word)))
  /-- PAGE_HEADER_READ_TIMEOUT (R3). -/
  | pageHeaderReadTimeout
  /-- NOTICE_CELL_SHEET (R11). -/
  | noticeCellSheet
  /-- NOTICE_PORT_SHEET (R11): NOTICE bit 1 + p. -/
  | noticePortSheet (p : Port)
  /-- NOTICE_ORDERS (R11). -/
  | noticeOrders
  /-- NOTICE_POOL (R11). -/
  | noticePool
  /-- ATTENTION_CLEAR (R14): the value written. -/
  | attentionClear (value : Word)
  /-- ATTENTION_MASK_WRITE (R15): the value written. -/
  | attentionMaskWrite (value : Word)
  /-- SWEEP_START (R11): the memory reads allow the area's sweep to begin. -/
  | sweepStart (a : Area)
  /-- SWEEP_RECORD_READ (R12): the area's read of that number completes with these bytes of the request part. -/
  | sweepRecordRead (a : Area) (bytes : Completion (List Byte))
  /-- SWEEP_READ_FAIL (R13): the area's read of that number returns a completion error. -/
  | sweepReadFail (a : Completion Area)
  /-- SWEEP_READ_TIMEOUT (R13). -/
  | sweepReadTimeout (a : Area)
  /-- POOL_REBUILD_HAND_READ (R24): the rebuild's hand read of that number completes. -/
  | poolRebuildHandRead (hand : Completion Byte)
  /-- POOL_REBUILD_READ_FAIL (R25): a completion error of the read of that number, or (`error` none) no completion within
  50 ms. -/
  | poolRebuildReadFail (error : Option Nat)
  /-- HEADER_REFRESH (R6). -/
  | headerRefresh
  /-- PORT_REPORT_REFRESH (R28). -/
  | portReportRefresh
  /-- START (R30), taken from a slot. -/
  | start (slot : SlotNo)
  /-- HALT (R31), taken from a slot. -/
  | halt (slot : SlotNo)
  /-- HALT_TEARDOWN_DONE (R31). -/
  | haltTeardownDone
  /-- ARM (R105). -/
  | arm (slot : SlotNo)
  /-- DISARM (R105). -/
  | disarm (slot : SlotNo)
  /-- CANCEL (R45). -/
  | cancel (slot : SlotNo)
  /-- CABLE_LOAD (R49). -/
  | cableLoad (slot : SlotNo)
  /-- CABLE_LOAD_READ_COMPLETE (R151): the 128 bytes that the read of that number returns for the slot's load. -/
  | cableLoadReadComplete (slot : SlotNo) (bytes : Completion (List Byte))
  /-- CABLE_LOAD_TIMEOUT (R49): a completion error of the read of that number, or (`error` none) no completion within
  50 ms. -/
  | cableLoadTimeout (slot : SlotNo) (error : Option Nat)
  /-- CABLE_SAVE (R50). -/
  | cableSave (slot : SlotNo)
  /-- CLEAR_BREAKS (R48). -/
  | clearBreaks (slot : SlotNo)
  /-- CLEAR_FAULTS (R46). -/
  | clearFaults (slot : SlotNo)
  /-- CLEAR_STOP (R47). -/
  | clearStop (slot : SlotNo)
  /-- CLEAR_LOCKOUT (R46). -/
  | clearLockout (slot : SlotNo)
  /-- CHECK_TEST (R35). -/
  | checkTest (slot : SlotNo)
  /-- SNAP (R55). -/
  | snap (slot : SlotNo)
  /-- CYCLE (R57). -/
  | cycle (slot : SlotNo)
  /-- PROBE (R163). -/
  | probe (slot : SlotNo)
  /-- LEARN (R164). -/
  | learn (slot : SlotNo)
  /-- SWEEP (R144). -/
  | sweep (slot : SlotNo)
  /-- CYCLE_HOLD_END (R57). -/
  | cycleHoldEnd (p : Port)
  /-- CELL_RECHECK (R33). -/
  | cellRecheck
  /-- TRIM_COMPLETE (R67): the 16 readings of the port's current channel, in mA. -/
  | trimComplete (p : Port) (readings : Vector Int 16)
  /-- INRUSH_VOLTAGE_REACHED (R68): the port voltage and the measured supply voltage, in mV. -/
  | inrushVoltageReached (p : Port) (portVoltage supply : Nat)
  /-- CHARGE_TIME_EXPIRY (R68). -/
  | chargeTimeExpiry (p : Port)
  /-- SETTLING_END (R69). -/
  | settlingEnd (p : Port)
  /-- CURRENT_MEASUREMENT (R70): the readings of all eight ports. -/
  | currentMeasurement (readings : Vector Reading 8)
  /-- LIMIT_TIMER_EXPIRY (R71). -/
  | limitTimerExpiry (p : Port)
  /-- WAKE_SETTLE_END (R75). -/
  | wakeSettleEnd (p : Port)
  /-- RETRY_TIMER_END (R81). -/
  | retryTimerEnd (p : Port)
  /-- STEADY_TIMER_END (R81). -/
  | steadyTimerEnd (p : Port)
  /-- FAULT_ACTION_APPLIED (R169): the oldest action sent by the Fault Unit arrives. -/
  | faultActionApplied
  /-- COOLDOWN_EXPIRY (R172). -/
  | cooldownExpiry (p : Port)
  /-- HELLO (R90): a packet of that kind whose CRC passes. -/
  | hello (p : Port) (h : HelloPacket)
  /-- FRAME_OPEN (R124). -/
  | frameOpen (p : Port) (tag width height : Half) (depth : Byte)
  /-- FRAME_DATA (R125). -/
  | frameData (p : Port) (tag : Half) (offset : Word) (data : List Byte)
  /-- FRAME_CLOSE (R126). -/
  | frameClose (p : Port) (tag : Half) (total : Word) (status : Byte)
  /-- LENS_STATE (R137). -/
  | lensState (p : Port) (l : LensPacket)
  /-- IDLE (R87). -/
  | idle (p : Port) (voltage : Half)
  /-- HUSHED (R97). -/
  | hushed (p : Port)
  /-- BAD_PACKET (R86). -/
  | badPacket (p : Port)
  /-- ASK_INTERVAL (R89). -/
  | askInterval (p : Port)
  /-- GREETING_WAIT_EXPIRY (R89). -/
  | greetingWaitExpiry (p : Port)
  /-- SILENCE_TIMER_EXPIRY (R92). -/
  | silenceTimerExpiry (p : Port)
  /-- HUSH_SENT (R96). -/
  | hushSent (p : Port)
  /-- HUSH_WAIT_EXPIRY (R96). -/
  | hushWaitExpiry (p : Port)
  /-- WINDOW_END (R99). -/
  | windowEnd
  /-- MOTION_CHANGE (R98): the raw line has stood at `level` for `stoodNs` nanoseconds (R102). -/
  | motionChange (level : Bool) (stoodNs : Nat)
  /-- ENCODER_EDGE (R103): the raw line has stood at `level` for `stoodNs` nanoseconds (R102). -/
  | encoderEdge (level : Bool) (stoodNs : Nat)
  /-- TRIG_EDGE (R106): the raw line has stood at `level` for `stoodNs` nanoseconds (R102). -/
  | trigEdge (level : Bool) (stoodNs : Nat)
  /-- TIMER_SOURCE_EVENT (R106). -/
  | timerSourceEvent (i : ProgNo)
  /-- STEP_REACHED (R107). -/
  | stepReached (i : ProgNo)
  /-- STROBE_END (R113). -/
  | strobeEnd (l : LineNo)
  /-- RESERVED_TIMEOUT (R123). -/
  | reservedTimeout (b : BufNo)
  /-- FILLING_SILENCE_EXPIRY (R127). -/
  | fillingSilenceExpiry (b : BufNo)
  /-- STAGING_TIMER_EXPIRY (R140). -/
  | stagingTimerExpiry (p : Port)
  /-- STUCK_TIMER_EXPIRY (R142). -/
  | stuckTimerExpiry (p : Port)
  /-- PROBE_READY_TIMEOUT (R154). -/
  | probeReadyTimeout (p : Port)
  /-- PULSE_SET_END (R156): for each of the 16 pulses, its samples in 1/256 of the pulse amplitude, tick by tick. -/
  | pulseSetEnd (p : Port) (samples : Vector (List Int) 16)
  /-- PCIE_CONFIGURATION_WRITE (R184): message enable, and the address and data of the first vector granted. -/
  | pcieConfigurationWrite (enable : Bool) (vector : Option (Addr × Word))
  /-- DOWNLINK_PACKET_SENT (R84): the packet being sent on the port, other than HUSH, has been sent. -/
  | downlinkPacketSent (p : Port)
  /-- PAGE_RELEASE_END (R2). -/
  | pageReleaseEnd
  /-- SUPPLY_LOSS (R182). -/
  | supplyLoss
deriving DecidableEq, Repr

end Sys2Proof
end

