-- ==== Sys2Proof/Machine/State.lean ====
section
/-! DEFINITION. The state of the KW8C: everything the spec gives the part, grouped by the block that owns it, and the
queue of the commands that are waiting. State is plain data. Timers are held as the clock value at which they end. -/

namespace Sys2Proof.Machine

/-! ## Reasons to stop -/

/-- No rule of the spec stops the part: every command of the table has an effect, be it none, in every state (NOTES.md,
Stops). So no fault is declared. -/
inductive Fault
deriving DecidableEq, Repr

/-- Why exec has no meaning for a command. -/
inductive Refusal where
  /-- Raised by an arm of exec whose command has no meaning yet; safe. No arm raises it in this model. -/
  | notModelled (mnemonic : String)
deriving DecidableEq, Repr

/-! ## Outcome and reason codes (00_scope; code table of section 1.9) -/

/-- An outcome value; `none` is 0, no outcome yet. -/
inductive Verdict where
  | none | taken | done | refused | cancelled | aborted
deriving DecidableEq, Repr

/-- A reason code; `none` is 0. -/
inductive Reason where
  | none | badCheck | nonzeroSpare | badValue | wrongMode | serviceOnly | queueFull | busyTarget | notCancellable
  | noRegion | noReference | breaksActive | unsteady | overShare | powerLost | halted | linkLost | timeout
  | cancelledByOrder
deriving DecidableEq, Repr

/-- The taken hand and the take outcome of a sheet, as its report shows them (R7, R21, R26). -/
structure TakeReport where
  hand : Byte
  verdict : Verdict
  reason : Reason
  field : Nat
deriving DecidableEq, Repr

/-! ## Page Interface -/

/-- The page-taken state (R2). -/
inductive PageTaken where
  | absent | taking | held
deriving DecidableEq, Repr

/-- The states of service (R16); `opened` is OPEN. -/
inductive Service where
  | closed | armed | opened
deriving DecidableEq, Repr

/-- The state of a sweep area (R11). SWEEPING holds the sweep-again flag, the number of the record being dealt with, and
the time at which its outstanding read fails; no read is outstanding while an order taken by the sweep is carried out. -/
inductive AreaState where
  | idle
  | pending
  | sweeping (again : Bool) (next : Nat) (readBy : Option Nat)
deriving DecidableEq, Repr

/-- The Page Interface (R1 to R19). -/
structure PageIf where
  lo : Word
  hi : Word
  taken : PageTaken
  addr : Addr
  headerReadBy : Option Nat
  releasing : Bool
  hiOwed : Bool
  attention : BitVec 14
  mask : BitVec 14
  service : Service
  areas : Vector AreaState 11
  headerCount : Word
  mirrorCounts : Vector Word 16
  readErrors : Word
deriving DecidableEq, Repr

/-- What the part reads from its PCIe configuration (R184). -/
structure Pcie where
  enable : Bool
  vector : Option (Addr × Word)
deriving DecidableEq, Repr

/-- What the part has issued on the bus, in order (R10, R17, R184): posted writes, reads, each with its number (log 42), and
interrupt messages. -/
inductive Traffic where
  | write (a : Addr) (bytes : List Byte)
  | read (n : Nat) (a : Addr) (size : Nat)
  | message (a : Addr) (data : Word)
deriving DecidableEq, Repr

/-- Who reads host memory: a take's header read (R3), a sweep area (R12), a rebuild (R24), a CABLE_LOAD (R49). -/
inductive Channel where
  | header
  | area (a : Area)
  | hand
  | load (n : SlotNo)
deriving DecidableEq, Repr

/-- The numbers by which a completion names its read, as the bus does (R2, R5, R13; log 42): the number the next read gets,
and of each channel the number of its latest read. -/
structure Reads where
  next : Nat
  header : Nat
  areas : Vector Nat 11
  hand : Nat
  loads : Vector Nat 32
deriving DecidableEq, Repr

/-! ## Cell Controller -/

/-- The cell modes (R20). -/
inductive Mode where
  | setup | configure | run
deriving DecidableEq, Repr

/-- The causes of the last mode change (R20). -/
inductive Cause where
  | pageTake | start | halt | cellCheck
deriving DecidableEq, Repr

/-- The nine port fault kinds, in the order of the reaction table rows (R22). -/
inductive FaultKind where
  | short | overload | inrushTimeout | overClass | noCamera | linkLost | lensStuck | flicker | breakFound
deriving DecidableEq, Repr

/-- The actions of a reaction row (R22). -/
inductive Action where
  | nothing | cut | cutRetry | cutLock
deriving DecidableEq, Repr

/-- The routes of a reaction row (R22). -/
inductive Route where
  | nothing | attention | attentionStop
deriving DecidableEq, Repr

/-- One row of the reaction table. -/
structure Reaction where
  action : Action
  route : Route
deriving DecidableEq, Repr

/-- The encoder's counted edge (R22, R103). -/
inductive Edge where
  | rise | fall | both
deriving DecidableEq, Repr

/-- A trigger program's source (R104). -/
inductive Source where
  | timer | encoder | lineRise | lineFall
deriving DecidableEq, Repr

/-- A step of a trigger program (R104). Sets have member n at bit n. -/
structure ProgStep where
  offset : Nat
  ports : Byte
  exposure : Nat
  strobes : Byte
  width : Nat
deriving DecidableEq, Repr

/-- A trigger program record (R104). -/
structure ProgRec where
  source : Source
  period : Nat
  spacing : Nat
  steps : List ProgStep
deriving DecidableEq, Repr

/-- The content of a Cell Sheet (R22), field by field. -/
structure CellSheet where
  budget : Nat
  loopDefault : Nat
  velocityDefault : Nat
  poolAddr : Addr
  bufCount : Nat
  caps : Vector Nat 8
  reactions : Vector Reaction 9
  autoProbe : Bool
  flickerThreshold : Nat
  window : Nat
  echoThreshold : Nat
  openLevel : Nat
  shortLevel : Nat
  edge : Edge
  divider : Nat
  programs : Vector ProgRec 4
deriving DecidableEq, Repr

/-- A power want (R26). -/
inductive Want where
  | off | on | standby
deriving DecidableEq, Repr

/-- A pixel depth (R26). -/
inductive Depth where
  | bits8 | bits12
deriving DecidableEq, Repr

/-- A contrast region (R26). -/
structure Region where
  x : Nat
  y : Nat
  w : Nat
  h : Nat
deriving DecidableEq, Repr

/-- Focus, iris and zoom, each optional: a lens want, a set of positions, or the targets of a move (R135). -/
structure Axes where
  focus : Option Nat
  iris : Option Nat
  zoom : Option Nat
deriving DecidableEq, Repr

/-- The content of a Port Sheet's request part (R26). -/
structure PortSheet where
  want : Want
  declared : Nat
  wakeSettle : Nat
  exposure : Nat
  depth : Depth
  members : Byte
  hold : Bool
  lens : Axes
  region : Option Region
deriving DecidableEq, Repr

/-- The Cell Controller's cell-wide state (R37). The Port Sheet copies stand with their ports. -/
structure CellCtl where
  mode : Mode
  cause : Option Cause
  sheet : Option CellSheet
  standing : Bool
  take : TakeReport
  storedCheck : Option Half
  recheckAt : Option Nat
deriving DecidableEq, Repr

/-! ## Order Unit -/

/-- The parameters of a SWEEP order (R144). -/
structure SweepParams where
  first : Nat
  last : Nat
  count : Nat
  exposure : Nat
  goBest : Bool
deriving DecidableEq, Repr

/-- An order as taken from a slot: its kind, target and parameters (R42). -/
inductive Order where
  | start
  | halt
  | arm (i : ProgNo)
  | disarm (i : ProgNo)
  | cancel (target : SlotNo)
  | cableLoad (p : Port) (a : Addr)
  | cableSave (p : Port) (a : Addr)
  | clearBreaks (port : Option Port) (activeToo : Bool)
  | clearFaults (p : Port)
  | clearStop
  | snap (p : Port) (exposure : Nat)
  | cycle (p : Port)
  | probe (p : Port) (trace requireRef : Bool)
  | learn (p : Port) (force : Bool)
  | sweep (p : Port) (params : SweepParams)
  | clearLockout (p : Port)
  | checkTest
deriving DecidableEq, Repr

/-- The slot states (R38). -/
inductive SlotState where
  | idle | queued | running | done | refused | cancelled | aborted
deriving DecidableEq, Repr

/-- An order slot (R38, R40): its taken hand, its state, the order now in it, and what its answer shows. -/
structure Slot where
  takenHand : Byte
  state : SlotState
  offerPending : Bool
  stopMark : Bool
  order : Option Order
  reason : Reason
  field : Nat
  results : List Byte
  answerCount : Word
  loadBy : Option Nat
deriving DecidableEq, Repr

/-- An entry of a port work queue (R51). -/
inductive QEntry where
  | order (s : SlotNo)
  | probe
deriving DecidableEq, Repr

/-! ## Power Manager -/

/-- The twelve power states (R59). -/
inductive PowerState where
  | off | waiting | queued | inrush | settling | on | limit | standby | waking | retryWait | held | lockedOut
deriving DecidableEq, Repr

/-- A port power record (R59), with its timers. `retryEnded`: the retry wait ended while a probe held the port (R77). -/
structure PortPower where
  state : PowerState
  rating : Option Nat
  base : Nat
  motion : Nat
  full : Nat
  retry : Nat
  steadyAt : Option Nat
  retryAt : Option Nat
  retryEnded : Bool
  limitAt : Option Nat
  chargeAt : Option Nat
  settleAt : Option Nat
  wakeAt : Option Nat
  trim : Int
  trimClamped : Bool
  current : Nat
  voltage : Nat
  camVoltage : Option Nat
  owed : Bool
deriving DecidableEq, Repr

/-- The kinds of budget claim (R62). -/
inductive ClaimKind where
  | powerUp | wake | lensMotion
deriving DecidableEq, Repr

/-- A budget claim (R62). `rating` is the declared power a POWER_UP amount was computed on (R66). -/
structure PowerClaim where
  port : Port
  kind : ClaimKind
  amount : Nat
  rating : Nat
deriving DecidableEq, Repr

/-- The inrush stage (R67). -/
inductive InrushStage where
  | free
  | trimming (p : Port)
  | charging (p : Port)
deriving DecidableEq, Repr

/-- The Power Manager's cell-wide state (R61, R62, R66, R67). -/
structure Budget where
  inForce : Nat
  waitList : List PowerClaim
  inrush : List Port
  stage : InrushStage
deriving DecidableEq, Repr

/-! ## Link Controller -/

/-- The five link states (section 5.3). -/
inductive LinkState where
  | dark | wake | talk | hushing | hush
deriving DecidableEq, Repr

/-- Lens kinds (R85, R135). -/
inductive LensKind where
  | none | focus | focusIris | focusIrisZoom
deriving DecidableEq, Repr

/-- A camera identity (R91). -/
structure Identity where
  serial : Word
  camClass : Nat
  lensKind : LensKind
  maxPower : Nat
  standbyPower : Nat
  motionPower : Nat
deriving DecidableEq, Repr

/-- A downlink packet (R84). -/
inductive Packet where
  | fire (tag : Half) (exposure : Nat)
  | setup (exposure : Nat) (depth : Depth)
  | lensMove (targets : Axes)
  | sleep
  | wake
  | hush
  | resume
  | ask
deriving DecidableEq, Repr

/-- A port's link (R84 to R100). `sending` is the packet on the cable, `waiting` those behind it. -/
structure PortLink where
  state : LinkState
  askAt : Option Nat
  greetAt : Option Nat
  silenceAt : Option Nat
  hushAt : Option Nat
  sending : Option Packet
  waiting : List Packet
  owedSetup : Bool
  owedSleep : Bool
  identity : Option Identity
  cameraChanged : Bool
  motionHistory : List Nat
  restHistory : List Nat
  motionWindow : Nat
  restWindow : Nat
  crcMotion : Word
  crcRest : Word
deriving DecidableEq, Repr

/-! ## Lens Controller -/

/-- The seven lens states (R135). -/
inductive LensState where
  | absent | unknown | idle | staged | waitPower | moving | stuck
deriving DecidableEq, Repr

/-- Who a staged want or a move serves (R135). -/
inductive Server where
  | sheet | sweep
deriving DecidableEq, Repr

/-- A low and a high limit. -/
structure Limits where
  low : Nat
  high : Nat
deriving DecidableEq, Repr

/-- The move in progress: its targets, its server, and whether it is a sweep's go-to-best move (R135, R142). -/
structure Move where
  targets : Axes
  server : Server
  best : Bool
deriving DecidableEq, Repr

/-- A lens record (R135). `kindLimits` is the kind with its limits from the latest HELLO. `fromSweep` is the position
source SWEEP. `stagingMark` is set when the staging timer has expired. -/
structure LensRec where
  kind : Option LensKind
  focusLimits : Limits
  irisLimits : Limits
  zoomLimits : Limits
  state : LensState
  pos : Axes
  staged : Axes
  stagedBy : Server
  held : Axes
  move : Option Move
  lastWant : Axes
  stagingAt : Option Nat
  stagingMark : Bool
  stuckAt : Option Nat
  fromSweep : Bool
  clamped : Bool
deriving DecidableEq, Repr

/-- Where a focus sweep stands (R145, R146): choosing its step's move, moving, deciding its fire, waiting for its frame,
or making its go-to-best move. -/
inductive SweepPhase where
  | choose | moving | deciding | frame | best
deriving DecidableEq, Repr

/-- A recorded sweep step (R145). -/
structure SweepStep where
  position : Nat
  buffer : Option Nat
  contrast : Option Nat
deriving DecidableEq, Repr

/-- The focus sweep running on a port (R144 to R148). `focus` is the position its step fired at, `shot` the tag and
buffer of its step's fire. -/
structure SweepRun where
  slot : SlotNo
  params : SweepParams
  index : Nat
  phase : SweepPhase
  focus : Nat
  shot : Option (Half × Nat)
  steps : List SweepStep
deriving DecidableEq, Repr

/-- The SNAP running on a port (R55): its tag and buffer once fired, and whether FRAME_OPEN has come. -/
structure SnapRun where
  slot : SlotNo
  shot : Option (Half × Nat)
  opened : Bool
deriving DecidableEq, Repr

/-- The CYCLE running on a port (R57): the power state found, and the end of the hold. -/
structure CycleRun where
  slot : SlotNo
  found : PowerState
  holdEnd : Nat
deriving DecidableEq, Repr

/-! ## Probe Engine and Cable Table -/

/-- Cable record states (R150). -/
inductive CableState where
  | absent | declared | learned
deriving DecidableEq, Repr

/-- Joint kinds (R150). -/
inductive JointKind where
  | connector | coupler | chainEntry | chainExit
deriving DecidableEq, Repr

/-- A joint (R150). -/
structure Joint where
  position : Nat
  kind : JointKind
deriving DecidableEq, Repr

/-- Echo polarity (R159). -/
inductive Polarity where
  | pos | neg
deriving DecidableEq, Repr

/-- An echo (R159). -/
structure Echo where
  ticks : Nat
  polarity : Polarity
  amplitude : Nat
deriving DecidableEq, Repr

/-- A cable record (R150). -/
structure CableRec where
  state : CableState
  length : Option Nat
  velocity : Option Nat
  loop : Option Nat
  joints : List Joint
  baseline : List Echo
  powered : Bool
  serial : Option Word
  learnTime : Option Addr
deriving DecidableEq, Repr

/-- What a probe runs for (section 9.2). -/
inductive ProbeJob where
  | order (slot : SlotNo) (trace : Bool)
  | learn (slot : SlotNo)
  | auto
deriving DecidableEq, Repr

/-- The phases a probe rests in (R153). It rests in ENDING only after a failed hush, until the action of the LINK_LOST is
reported applied (R171; log 54); else ENDING is passed through within one event. -/
inductive ProbePhase where
  | classing | draining | hushing | claiming | pulsing | ending
deriving DecidableEq, Repr

/-- The paths of a probe (R163). -/
inductive ProbePath where
  | dark | hushed
deriving DecidableEq, Repr

/-- A probe's trace claim (R156). -/
inductive TraceClaim where
  | unasked
  | waiting
  | got (b : Nat)
  | omitted
deriving DecidableEq, Repr

/-- The probe running on a port, with the settings fixed at its beginning (R153). -/
structure ProbeRun where
  job : ProbeJob
  phase : ProbePhase
  window : Nat
  echoThreshold : Nat
  openLevel : Nat
  shortLevel : Nat
  velocity : Nat
  length : Option Nat
  joints : List Joint
  baseline : List Echo
  beganPowered : Bool
  readyBy : Option Nat
  trace : TraceClaim
  path : Option ProbePath
  sets : List (List Echo)
deriving DecidableEq, Repr

/-! ## Break Finder and Fault Unit -/

/-- Break record kinds (R175). -/
inductive BreakKind where
  | openCircuit | shortCircuit | step | flicker
deriving DecidableEq, Repr

/-- A break log record (R175). `active` distinguishes ACTIVE from RESOLVED. -/
structure BreakRec where
  number : Nat
  active : Bool
  port : Port
  kind : BreakKind
  ticks : Option Nat
  distance : Option Nat
  joint : Option Nat
  amplitude : Option Nat
  flexing : Bool
  motion : Bool
  sightings : Nat
  first : Addr
  last : Addr
deriving DecidableEq, Repr

/-- A port's faults (R167). -/
structure PortFaults where
  counts : Vector Nat 9
  latched : Vector Bool 9
  last : Option FaultKind
  cooldownAt : Option Nat
deriving DecidableEq, Repr

/-- An action sent to the Power Manager and not yet applied (R169), with the auto-probe enable that stood when its fault was raised
(R23, R171). -/
structure SentAction where
  port : Port
  kind : FaultKind
  action : Action
  autoProbe : Bool
deriving DecidableEq, Repr

/-- The Fault Unit's and Break Finder's cell-wide state (section 10). -/
structure FaultUnit where
  stopLatch : Bool
  dropped : Word
  sent : List SentAction
  log : List BreakRec
  logFull : Word
deriving DecidableEq, Repr

/-! ## Trigger Unit -/

/-- A program's state (section 6.3). -/
inductive ProgState where
  | disarmed | armed | running
deriving DecidableEq, Repr

/-- A program engine (section 6.3): the record taken at the ARM, the run, the overruns, the timer and the target. -/
structure Program where
  state : ProgState
  record : ProgRec
  runStart : Nat
  nextStep : Nat
  overruns : Word
  nextEvent : Option Nat
  target : Option Word
deriving DecidableEq, Repr

/-- The Trigger Unit's cell-wide state, less cell time, which is the clock (R101 to R114). -/
structure Trigger where
  enc : Bool
  trig : Bool
  motion : Bool
  seenHigh : Bool
  seenLow : Bool
  windowAt : Nat
  encCount : Word
  remainder : Nat
  programs : Vector Program 4
  nextTag : Half
  strobes : Vector (Option Nat) 4
deriving DecidableEq, Repr

/-- The five skip reasons, in the order of report field 24 (R28, R109). -/
inductive Skip where
  | notReady | probe | lens | busy | noBuffer
deriving DecidableEq, Repr

/-! ## Pool Manager -/

/-- Tracker states (R115). -/
inductive BufState where
  | out | given | reserved | filling
deriving DecidableEq, Repr

/-- Buffer kinds (R115). -/
inductive BufKind where
  | frame | trace
deriving DecidableEq, Repr

/-- Delivery outcomes (R129). -/
inductive FrameOutcome where
  | complete | truncatedLong | truncatedLate | spoiled
deriving DecidableEq, Repr

/-- The settings copied at a give (R117); dedication none is OPEN. -/
structure Settings where
  addr : Addr
  length : Nat
  dedication : Option Port
deriving DecidableEq, Repr

/-- The stamp of an accepted fire (R111, R123). -/
structure Stamp where
  port : Port
  tag : Half
  step : Option (ProgNo × Nat)
  time : Addr
  exposure : Nat
  lens : Axes
  moving : Bool
  sweepStep : Option Nat
deriving DecidableEq, Repr

/-- The delivery summary (R133). -/
structure Summary where
  kind : BufKind
  outcome : FrameOutcome
  shot : Option (Port × Half × ProgNo × Nat)
  sweepStep : Option Nat
  lens : Axes
  moving : Bool
  crcErrors : Nat
  width : Nat
  height : Nat
  time : Addr
  exposure : Nat
  bytes : Nat
  contrast : Option Nat
deriving DecidableEq, Repr

/-- A tracker entry (R115). `data` holds the bytes written within the buffer length, latest first, for the contrast sum. -/
structure Entry where
  state : BufState
  loaded : Bool
  hand : Byte
  settings : Option Settings
  owner : Option Port
  kind : BufKind
  stamp : Option Stamp
  openTime : Addr
  width : Nat
  height : Nat
  depth : Depth
  bytes : Nat
  crcErrors : Nat
  region : Option Region
  data : List (Nat × Byte)
  pending : FrameOutcome
  reservedBy : Option Nat
  silenceBy : Option Nat
  giveResult : Byte
  giveField : Nat
  summary : Option Summary
  count : Word
deriving DecidableEq, Repr

/-- The pool layout (section 2.3). -/
structure Layout where
  addr : Addr
  count : Nat
deriving DecidableEq, Repr

/-- Who made a buffer claim (section 7.3). -/
inductive Requester where
  | step (i : ProgNo) (step : Nat)
  | snap (s : SlotNo)
  | sweep (s : SlotNo) (index : Nat)
  | trace
deriving DecidableEq, Repr

/-- A waiting claim's standing: live; dropped with its decision (R111); or its SNAP or sweep already ended by a loss
(R54), so that a skip still counts (R110) and a buffer is handed back. -/
inductive ClaimStatus where
  | live | dropped | orphan
deriving DecidableEq, Repr

/-- A claim waiting for the end of the POOL sweep it asked for (R121). `begun`: that sweep has begun. -/
structure BufClaim where
  port : Port
  requester : Requester
  exposure : Nat
  begun : Bool
  status : ClaimStatus
deriving DecidableEq, Repr

/-- The hand read a rebuild has outstanding (R24, R25). -/
structure Rebuild where
  next : Nat
  readBy : Nat
deriving DecidableEq, Repr

/-- The Pool Manager's state (R115). -/
structure Pool where
  layout : Option Layout
  entries : List Entry
  claims : List BufClaim
  handErrors : Word
  rebuild : Option Rebuild
  rebuildOwed : Option Layout
deriving DecidableEq, Repr

/-! ## Ports -/

/-- Everything the blocks hold for one port. -/
structure PortState where
  sheet : Option PortSheet
  take : TakeReport
  reportCount : Word
  power : PortPower
  link : PortLink
  lens : LensRec
  cable : CableRec
  faults : PortFaults
  met : Bool
  quiet : Nat
  queue : List QEntry
  snap : Option SnapRun
  cycle : Option CycleRun
  sweep : Option SweepRun
  probe : Option ProbeRun
  fires : Word
  skips : Vector Word 5
  delivered : Word
  stray : Word
deriving DecidableEq, Repr

/-- The state of the part, and the queue of the commands that are waiting, first in, first out. -/
structure State where
  pending : List Instr
  powered : Bool
  resetHeld : Bool
  clock : Nat
  page : PageIf
  pcie : Pcie
  reads : Reads
  cell : CellCtl
  slots : Vector Slot 32
  handed : Option SlotNo
  budget : Budget
  ports : Vector PortState 8
  trigger : Trigger
  pool : Pool
  faults : FaultUnit
  traffic : List Traffic
  cableOut : List (Port × List Byte)
  free : Nat
deriving DecidableEq, Repr

/-! ## Reset values -/

/-- No axis present. -/
def Axes.none : Axes := { focus := .none, iris := .none, zoom := .none }

/-- The take report before any take (R37). -/
def TakeReport.reset : TakeReport := { hand := 0, verdict := .none, reason := .none, field := 0 }

/-- The Page Interface after a reset (R19). -/
def PageIf.reset : PageIf where
  lo := 0
  hi := 0
  taken := .absent
  addr := 0
  headerReadBy := none
  releasing := false
  hiOwed := false
  attention := 0
  mask := 0
  service := .closed
  areas := Vector.replicate 11 .idle
  headerCount := 0
  mirrorCounts := Vector.replicate 16 0
  readErrors := 0

/-- PCIe configuration defaults (R184). -/
def Pcie.reset : Pcie := { enable := false, vector := none }

/-- No read issued. Numbers go on through every reset, so that a late completion is never another read's (log 42). -/
def Reads.reset : Reads :=
  { next := 0, header := 0, areas := Vector.replicate 11 0, hand := 0, loads := Vector.replicate 32 0 }

/-- The Cell Controller after a reset (R37). -/
def CellCtl.reset : CellCtl where
  mode := .setup
  cause := none
  sheet := none
  standing := false
  take := TakeReport.reset
  storedCheck := none
  recheckAt := none

/-- A slot after a reset (R58). -/
def Slot.reset : Slot where
  takenHand := 0
  state := .idle
  offerPending := false
  stopMark := false
  order := none
  reason := .none
  field := 0
  results := []
  answerCount := 0
  loadBy := none

/-- A port power record after a reset (R82). -/
def PortPower.reset : PortPower where
  state := .off
  rating := none
  base := 0
  motion := 0
  full := 0
  retry := 0
  steadyAt := none
  retryAt := none
  retryEnded := false
  limitAt := none
  chargeAt := none
  settleAt := none
  wakeAt := none
  trim := 0
  trimClamped := false
  current := 0
  voltage := 0
  camVoltage := none
  owed := false

/-- The budget after a reset (R82). -/
def Budget.reset : Budget := { inForce := 0, waitList := [], inrush := [], stage := .free }

/-- A port's link after a reset (R100). -/
def PortLink.reset : PortLink where
  state := .dark
  askAt := none
  greetAt := none
  silenceAt := none
  hushAt := none
  sending := none
  waiting := []
  owedSetup := false
  owedSleep := false
  identity := none
  cameraChanged := false
  motionHistory := []
  restHistory := []
  motionWindow := 0
  restWindow := 0
  crcMotion := 0
  crcRest := 0

/-- A lens record after a reset (R149). -/
def LensRec.reset : LensRec where
  kind := none
  focusLimits := { low := 0, high := 0 }
  irisLimits := { low := 0, high := 0 }
  zoomLimits := { low := 0, high := 0 }
  state := .unknown
  pos := Axes.none
  staged := Axes.none
  stagedBy := .sheet
  held := Axes.none
  move := none
  lastWant := Axes.none
  stagingAt := none
  stagingMark := false
  stuckAt := none
  fromSweep := false
  clamped := false

/-- An ABSENT cable record, which holds no other field (R150, R166). -/
def CableRec.absent : CableRec where
  state := .absent
  length := none
  velocity := none
  loop := none
  joints := []
  baseline := []
  powered := false
  serial := none
  learnTime := none

/-- A port's faults after a reset (R181). -/
def PortFaults.reset : PortFaults where
  counts := Vector.replicate 9 0
  latched := Vector.replicate 9 false
  last := none
  cooldownAt := none

/-- The Fault Unit and Break Finder after a power-on reset (R181). -/
def FaultUnit.reset : FaultUnit := { stopLatch := false, dropped := 0, sent := [], log := [], logFull := 0 }

/-- A program engine after a reset (R114). -/
def Program.reset : Program where
  state := .disarmed
  record := { source := .timer, period := 0, spacing := 0, steps := [] }
  runStart := 0
  nextStep := 0
  overruns := 0
  nextEvent := none
  target := none

/-- The Trigger Unit after a reset, its filters set from the raw levels (R102, R114). The MOTION marks of the first
window are set from the line at its start (R100). -/
def Trigger.reset (enc trig motion : Bool) : Trigger where
  enc := enc
  trig := trig
  motion := motion
  seenHigh := motion
  seenLow := !motion
  windowAt := Config.windowTime
  encCount := 0
  remainder := 0
  programs := Vector.replicate 4 Program.reset
  nextTag := 0
  strobes := Vector.replicate 4 none

/-- The Pool Manager after a reset (R134). -/
def Pool.reset : Pool :=
  { layout := none, entries := [], claims := [], handErrors := 0, rebuild := none, rebuildOwed := none }

/-- A port after a reset that leaves its cable record as given (R166). -/
def PortState.reset (cable : CableRec) : PortState where
  sheet := none
  take := TakeReport.reset
  reportCount := 0
  power := PortPower.reset
  link := PortLink.reset
  lens := LensRec.reset
  cable := cable
  faults := PortFaults.reset
  met := false
  quiet := 0
  queue := []
  snap := none
  cycle := none
  sweep := none
  probe := none
  fires := 0
  skips := Vector.replicate 5 0
  delivered := 0
  stray := 0

/-- The part right after a power-on reset (R182, and the reset tables of every chapter), its cell lines low (log 3), with
no command waiting and nothing issued on the bus or the cables. -/
def State.reset : State where
  pending := []
  powered := true
  resetHeld := false
  clock := 0
  page := PageIf.reset
  pcie := Pcie.reset
  reads := Reads.reset
  cell := CellCtl.reset
  slots := Vector.replicate 32 Slot.reset
  handed := none
  budget := Budget.reset
  ports := Vector.replicate 8 (PortState.reset CableRec.absent)
  trigger := Trigger.reset false false false
  pool := Pool.reset
  faults := FaultUnit.reset
  traffic := []
  cableOut := []
  free := 0

end Sys2Proof.Machine
end

