-- ==== Sys2Proof/Machine/Ops.lean ====
section
/-! DEFINITION. The shared operations every block uses: one event and its internal agenda, per-port updates, timers,
the bus, the attention flags with their interrupt message, the downlink of a port, and the claims' bookkeeping. -/

namespace Sys2Proof.Machine

/-! ## Vectors -/

/-- Replace the entry at `i` by its image under `f`. -/
def modAt {α : Type} {n : Nat} (v : Vector α n) (i : Fin n) (f : α → α) : Vector α n :=
  v.set i.val (f (v.get i)) i.isLt

/-- Replace the entry at `i`. -/
def putAt {α : Type} {n : Nat} (v : Vector α n) (i : Fin n) (x : α) : Vector α n :=
  v.set i.val x i.isLt

/-- Replace the list entry at position `b`, if there is one. -/
def modNth {α : Type} : List α → Nat → (α → α) → List α
  | [], _, _ => []
  | x :: xs, 0, f => f x :: xs
  | x :: xs, b + 1, f => x :: modNth xs b f

/-! ## One event -/

/-- What one block tells another within an event, to be dealt with before the event is over: the head of a queue may
begin (R52), a frame gap is reported (R139), a lens move has ended (R155), the staged want is tested (R140), the sweep goes on
(R145), the probe goes on (R154, R155), a change of power held back by a probe that has ended is made (R77). -/
inductive Task where
  | begin (p : Port)
  | gap (p : Port)
  | moveEnded (p : Port)
  | lens (p : Port)
  | sweep (p : Port)
  | probe (p : Port)
  | owed (p : Port)
deriving DecidableEq, Repr

/-- The state in the course of one event, the agenda of what is still to be told, and the ports whose report part the
event is to rewrite (R28). Agenda and marks live only within one exec. -/
structure Event extends State where
  agenda : List Task
  touched : List Port

/-- Put a task at the end of the agenda. -/
def tell (t : Task) (e : Event) : Event := { e with agenda := e.agenda ++ [t] }

/-- Mark port p's report part to be rewritten with ATTENTION.PORT p at the end of this event (R28). -/
def touch (p : Port) (e : Event) : Event :=
  if p ∈ e.touched then e else { e with touched := e.touched ++ [p] }

/-- The state of port p. -/
def Event.port (e : Event) (p : Port) : PortState := e.ports.get p

/-- Change port p. -/
def modPort (p : Port) (f : PortState → PortState) (e : Event) : Event :=
  { e with ports := modAt e.ports p f }

/-- Change port p's power record. -/
def modPower (p : Port) (f : PortPower → PortPower) (e : Event) : Event :=
  modPort p (fun q => { q with power := f q.power }) e

/-- Change port p's link. -/
def modLink (p : Port) (f : PortLink → PortLink) (e : Event) : Event :=
  modPort p (fun q => { q with link := f q.link }) e

/-- Change port p's lens record. -/
def modLens (p : Port) (f : LensRec → LensRec) (e : Event) : Event :=
  modPort p (fun q => { q with lens := f q.lens }) e

/-- Change port p's faults. -/
def modFaults (p : Port) (f : PortFaults → PortFaults) (e : Event) : Event :=
  modPort p (fun q => { q with faults := f q.faults }) e

/-- Change order slot s. -/
def modSlot (s : SlotNo) (f : Slot → Slot) (e : Event) : Event :=
  { e with slots := modAt e.slots s f }

/-- Change program i. -/
def modProgram (i : ProgNo) (f : Program → Program) (e : Event) : Event :=
  { e with trigger := { e.trigger with programs := modAt e.trigger.programs i f } }

/-- Change tracker entry b. -/
def modEntry (b : Nat) (f : Entry → Entry) (e : Event) : Event :=
  { e with pool := { e.pool with entries := modNth e.pool.entries b f } }

/-- The eight ports in ascending number. -/
def allPorts : List Port := [0, 1, 2, 3, 4, 5, 6, 7]

/-- The 32 slots in ascending number. -/
def allSlots : List SlotNo := List.finRange 32

/-- Do `f` for each of the ports given, in order. -/
def forPorts (ps : List Port) (f : Port → Event → Event) (e : Event) : Event :=
  ps.foldl (fun acc p => f p acc) e

/-! ## Time -/

/-- Cell time, a 64-bit count of microseconds that wraps (R101). -/
def cellTime (s : State) : Addr := BitVec.ofNat 64 s.clock

/-- The time a timer of `d` microseconds started now ends. -/
def timer (d : Nat) (e : Event) : Option Nat := some (e.clock + d)

/-- Has a timer that is running reached its end? -/
def due (t : Option Nat) (s : State) : Bool :=
  match t with
  | some d => decide (d ≤ s.clock)
  | none => false

/-! ## The bus -/

/-- The n bytes of a number, least significant first (00_scope, Byte order and layouts). -/
def leBytes : Nat → Nat → List Byte
  | 0, _ => []
  | n + 1, v => BitVec.ofNat 8 v :: leBytes n (v / 256)

/-- The number n bytes spell, least significant first. -/
def leNat : List Byte → Nat
  | [] => 0
  | b :: bs => b.toNat + 256 * leNat bs

/-- Put something on the bus, after all that was issued before it (R17). -/
def issue (t : Traffic) (e : Event) : Event := { e with traffic := e.traffic ++ [t] }

/-- The place of an area among the eleven (section 1.5). -/
def Area.index : Area → Fin 11
  | .cellSheet => 0
  | .portSheet p => ⟨1 + p.val, by omega⟩
  | .orders => 9
  | .pool => 10

/-- The number of a channel's latest read (log 42). -/
def readNumber (c : Channel) (s : State) : Nat :=
  match c with
  | .header => s.reads.header
  | .area a => s.reads.areas.get (Area.index a)
  | .hand => s.reads.hand
  | .load n => s.reads.loads.get n

/-- The numbers once a channel has issued a read: it takes the next number. -/
def Reads.issued (c : Channel) (r : Reads) : Reads :=
  match c with
  | .header => { r with next := r.next + 1, header := r.next }
  | .area a => { r with next := r.next + 1, areas := putAt r.areas (Area.index a) r.next }
  | .hand => { r with next := r.next + 1, hand := r.next }
  | .load n => { r with next := r.next + 1, loads := putAt r.loads n r.next }

/-- A channel reads `size` bytes of host memory. -/
def issueRead (c : Channel) (a : Addr) (size : Nat) (e : Event) : Event :=
  issue (.read e.reads.next a size) { e with reads := e.reads.issued c }

/-- Does a completion of read n belong to the channel's latest read? The completion of an earlier one is discarded: that read
was abandoned or has failed (R2, R5, R13, R24; log 42). -/
def answers (c : Channel) (n : Nat) (s : State) : Bool := n == readNumber c s

/-- Has a channel's read failed: by a completion error of that read, or (`error` none) by its limit of 50 ms (R13, R25, R49)? -/
def readFailed (c : Channel) (error : Option Nat) (limit : Option Nat) (s : State) : Bool :=
  match error with
  | some n => answers c n s
  | none => due limit s

/-- Is the page HELD? Writes aimed at the page are issued only then (R17). -/
def held (s : State) : Bool := s.page.taken == .held

/-- Rewrite a part-written area whose report count stands at `count`: count + 1, then the fields, then count + 2 (R10). -/
def rewriteArea (a : Addr) (count : Word) (body : List Byte) (e : Event) : Event :=
  issue (.write a (leBytes 4 (count + 2).toNat))
    (issue (.write (a + 4) body) (issue (.write a (leBytes 4 (count + 1).toNat)) e))

/-! ## Attention (R14, R15) -/

/-- The flags of the ATTENTION register. -/
def flagPort (p : Port) : BitVec 14 := 1#14 <<< p.val
def flagOrders : BitVec 14 := 0x100#14
def flagPool : BitVec 14 := 0x200#14
def flagBreaks : BitVec 14 := 0x400#14
def flagCell : BitVec 14 := 0x800#14
def flagStop : BitVec 14 := 0x1000#14
def flagPage : BitVec 14 := 0x2000#14

/-- The interrupt message, when messages are enabled and a vector is granted (R15, R184). -/
def message (e : Event) : Event :=
  match e.pcie.enable, e.pcie.vector with
  | true, some (a, d) => issue (.message a d) e
  | _, _ => e

/-- Take new flags and mask; a change of flags AND mask from zero to non-zero sends one message (R15). -/
def setAttention (flags mask : BitVec 14) (e : Event) : Event :=
  let e' := { e with page := { e.page with attention := flags, mask := mask } }
  if e.page.attention &&& e.page.mask = 0 ∧ flags &&& mask ≠ 0 then message e' else e'

/-- Set flags; setting a flag already set leaves it set (R14). -/
def raiseFlags (bits : BitVec 14) (e : Event) : Event :=
  setAttention (e.page.attention ||| bits) e.page.mask e

/-- Set flags for a change shown in the page: nothing is signalled while the page is not HELD (R168, R180). -/
def attend (bits : BitVec 14) (e : Event) : Event :=
  if held e.toState then raiseFlags bits e else e

/-! ## Sweep areas (R11) -/

/-- The state of an area. -/
def areaState (a : Area) (s : State) : AreaState := s.page.areas.get (Area.index a)

/-- Set the state of an area. -/
def setArea (a : Area) (st : AreaState) (e : Event) : Event :=
  { e with page := { e.page with areas := putAt e.page.areas (Area.index a) st } }

/-- What a notice, or a block's own request for a sweep (R12), makes of an area's state (R11). -/
def noticed : AreaState → AreaState
  | .idle => .pending
  | .pending => .pending
  | .sweeping _ n r => .sweeping true n r

/-- A notice of the area, or a block's own request for a sweep. It acts only while the page is HELD (R3, R11). -/
def notice (a : Area) (e : Event) : Event :=
  if held e.toState then setArea a (noticed (areaState a e.toState)) e else e

/-! ## State changes that the port report shows at once (R28) -/

/-- A probe that classes its port is told of each change of power or link state (R154). -/
def tellProbe (p : Port) (e : Event) : Event :=
  if (e.port p).probe.isSome then tell (.probe p) e else e

/-- Move port p to a power state. -/
def setPower (p : Port) (st : PowerState) (e : Event) : Event :=
  if (e.port p).power.state = st then e
  else tellProbe p (touch p (modPower p (fun w => { w with state := st }) e))

/-- Move port p's link to a state. -/
def setLink (p : Port) (st : LinkState) (e : Event) : Event :=
  if (e.port p).link.state = st then e
  else tellProbe p (touch p (modLink p (fun l => { l with state := st }) e))

/-- Move port p's lens to a state. -/
def setLens (p : Port) (st : LensState) (e : Event) : Event :=
  if (e.port p).lens.state = st then e
  else touch p (modLens p (fun l => { l with state := st }) e)

/-! ## What blocks ask of each other -/

/-- Does a probe run on port p? From its beginning at the head of the queue to its end (R77, R109). -/
def probeRuns (p : Port) (e : Event) : Bool := (e.port p).probe.isSome

/-- Does a CYCLE hold run on port p (R57)? -/
def cycleRuns (p : Port) (e : Event) : Bool := (e.port p).cycle.isSome

/-- The power want of a port; without a copy it is OFF (section 2.4). -/
def wantOf (q : PortState) : Want :=
  match q.sheet with
  | some s => s.want
  | none => .off

/-- The hold-frames flag of a port; without a copy it is clear (section 2.4). -/
def holdsFrames (q : PortState) : Bool :=
  match q.sheet with
  | some s => s.hold
  | none => false

/-- The states in which a port is powered: those with a non-zero base allotment (R60, R153). -/
def PowerState.powered : PowerState → Bool
  | .queued | .inrush | .settling | .on | .limit | .standby | .waking => true
  | .off | .waiting | .retryWait | .held | .lockedOut => false

/-- A port's switch is closed in INRUSH, SETTLING, ON, LIMIT, STANDBY and WAKING (R59). -/
def PowerState.switchClosed : PowerState → Bool
  | .inrush | .settling | .on | .limit | .standby | .waking => true
  | .queued | .off | .waiting | .retryWait | .held | .lockedOut => false

/-- STOP_OUT is active exactly while the stop latch is set (R170). -/
def stopOut (s : State) : Bool := s.faults.stopLatch

/-- The STOP_OUT contact is closed while inactive; an unpowered part presents it open (R170, R182). -/
def stopContactClosed (s : State) : Bool := s.powered && !stopOut s

/-- A strobe line is active while cell time is less than its end time (R113). -/
def strobeActive (l : LineNo) (s : State) : Bool :=
  match s.trigger.strobes.get l with
  | some t => decide (s.clock < t)
  | none => false

/-- Is the entry in flight for port p: in RESERVED or FILLING with that owner (R115)? -/
def Entry.inFlight (p : Port) (x : Entry) : Bool :=
  (x.state == .reserved || x.state == .filling) && x.owner == some p

/-- The number of port p's buffers in flight (R115). -/
def inFlight (p : Port) (s : State) : Nat := s.pool.entries.countP (Entry.inFlight p)

/-- Is a fire decision for port p in progress (R139)? One rests between events only while its claim waits,
and a decision dropped is over, its end no gap of its own (log 62). -/
def decides (p : Port) (s : State) : Bool :=
  s.pool.claims.any fun c => c.port == p && c.requester != .trace && c.status != .dropped

/-- A frame gap: no buffer of p in flight and no fire decision for p in progress (R139). -/
def frameGap (p : Port) (s : State) : Bool := inFlight p s == 0 && !decides p s

/-! ## The downlink (R84) -/

/-- The link state in which a packet kind is accepted (R84). -/
def Packet.acceptedIn : Packet → LinkState
  | .fire _ _ | .setup _ _ | .lensMove _ | .sleep | .wake | .hush => .talk
  | .resume => .hush
  | .ask => .wake

/-- Put a packet behind those waiting; with none being sent, its sending begins at once (R84). -/
def enqueue (k : Packet) (l : PortLink) : PortLink :=
  match l.sending with
  | none => { l with sending := some k }
  | some _ => { l with waiting := l.waiting ++ [k] }

/-- Is a packet of this kind accepted for sending on port p now (R84)? -/
def accepts (p : Port) (k : Packet) (e : Event) : Bool := (e.port p).link.state == k.acceptedIn

/-- Give port p's downlink a packet; a packet the link state does not admit is refused and nothing is sent (R84). -/
def give (p : Port) (k : Packet) (e : Event) : Event :=
  if accepts p k e then modLink p (enqueue k) e else e

/-- The next waiting packet begins to be sent (R84). -/
def nextPacket (l : PortLink) : PortLink :=
  match l.waiting with
  | [] => { l with sending := none }
  | k :: ks => { l with sending := some k, waiting := ks }

end Sys2Proof.Machine
end

