-- ==== Sys2Proof/Machine/Flags.lean ====
section
/-! DEFINITION. The code values software sees (section 1.9 and the field lists of each chapter) and the CRC-16 that
checks every record and every link packet (R8, R83). -/

namespace Sys2Proof.Machine

/-! ## CRC-16 (R8) -/

/-- One bit into the CRC: polynomial x^16 + x^12 + x^5 + 1, most significant bit first. -/
def crcBit (c : Half) (b : Bool) : Half :=
  if c.msb != b then (c <<< 1) ^^^ 0x1021#16 else c <<< 1

/-- One byte into the CRC, most significant bit first. -/
def crcByte (c : Half) (x : Byte) : Half :=
  [7, 6, 5, 4, 3, 2, 1, 0].foldl (fun acc i => crcBit acc (x.getLsbD i)) c

/-- The CRC over bytes in address order: initial value all ones, no final inversion (R8). -/
def crc16 (bytes : List Byte) : Half := bytes.foldl crcByte 0xFFFF#16

/-! ## Code values -/

/-- Outcome values (section 1.9, Code values). -/
def Verdict.code : Verdict → Nat
  | .none => 0 | .taken => 1 | .done => 2 | .refused => 3 | .cancelled => 4 | .aborted => 5

/-- Reason values (section 1.9, Code values). -/
def Reason.code : Reason → Nat
  | .none => 0 | .badCheck => 1 | .nonzeroSpare => 2 | .badValue => 3 | .wrongMode => 4 | .serviceOnly => 5
  | .queueFull => 6 | .busyTarget => 7 | .notCancellable => 8 | .noRegion => 9 | .noReference => 10
  | .breaksActive => 11 | .unsteady => 12 | .overShare => 13 | .powerLost => 14 | .halted => 15
  | .linkLost => 16 | .timeout => 17 | .cancelledByOrder => 18

/-- The reasons in the order of their codes 1 to 18. -/
def reasons : Vector Reason 18 := #v[.badCheck, .nonzeroSpare, .badValue, .wrongMode, .serviceOnly, .queueFull,
  .busyTarget, .notCancellable, .noRegion, .noReference, .breaksActive, .unsteady, .overShare, .powerLost, .halted,
  .linkLost, .timeout, .cancelledByOrder]

/-- Cell mode in the header report (section 1.3); SETUP never appears there (R20). -/
def Mode.code : Mode → Nat
  | .setup => 0 | .configure => 1 | .run => 2

/-- Cause of the last mode change in the header report (section 1.3). -/
def Cause.code : Cause → Nat
  | .pageTake => 1 | .start => 2 | .halt => 3 | .cellCheck => 4

/-- Slot states (section 1.9). -/
def SlotState.code : SlotState → Nat
  | .idle => 0 | .queued => 1 | .running => 2 | .done => 3 | .refused => 4 | .cancelled => 5 | .aborted => 6

/-- A final state stays until the slot's next new record is taken (R38). -/
def SlotState.final : SlotState → Bool
  | .done | .refused | .cancelled | .aborted => true
  | .idle | .queued | .running => false

/-- The outcome an answer shows: 0 in IDLE, QUEUED and RUNNING, else that of the final state (R40). -/
def SlotState.verdict : SlotState → Verdict
  | .done => .done | .refused => .refused | .cancelled => .cancelled | .aborted => .aborted
  | .idle | .queued | .running => .none

/-- Power states in report field 6 (R28). -/
def PowerState.code : PowerState → Nat
  | .off => 0 | .waiting => 1 | .queued => 2 | .inrush => 3 | .settling => 4 | .on => 5 | .limit => 6 | .standby => 7
  | .waking => 8 | .retryWait => 9 | .held => 10 | .lockedOut => 11

/-- Link states in report field 14 (R28). -/
def LinkState.code : LinkState → Nat
  | .dark => 0 | .wake => 1 | .talk => 2 | .hushing => 3 | .hush => 4

/-- Lens states in report field 18 (R28). -/
def LensState.code : LensState → Nat
  | .absent => 0 | .unknown => 1 | .idle => 2 | .staged => 3 | .waitPower => 4 | .moving => 5 | .stuck => 6

/-- Lens kinds (R85). -/
def LensKind.code : LensKind → Nat
  | .none => 0 | .focus => 1 | .focusIris => 2 | .focusIrisZoom => 3

/-- The lens kind of a HELLO's code, if it is one (R85). -/
def lensKindOf : Nat → Option LensKind
  | 0 => some .none | 1 => some .focus | 2 => some .focusIris | 3 => some .focusIrisZoom | _ => none

/-- A kind's place among the nine fault kinds (R22). -/
def FaultKind.index : FaultKind → Fin 9
  | .short => 0 | .overload => 1 | .inrushTimeout => 2 | .overClass => 3 | .noCamera => 4 | .linkLost => 5
  | .lensStuck => 6 | .flicker => 7 | .breakFound => 8

/-- A reason's place among the five skip counts (R28, field 24). -/
def Skip.index : Skip → Fin 5
  | .notReady => 0 | .probe => 1 | .lens => 2 | .busy => 3 | .noBuffer => 4

/-- Buffer record states (section 1.9). -/
def BufState.code : BufState → Nat
  | .out => 0 | .given => 1 | .reserved => 2 | .filling => 3

/-- Buffer kinds (section 1.9). -/
def BufKind.code : BufKind → Nat
  | .frame => 0 | .trace => 1

/-- Delivery outcomes (section 1.9). -/
def FrameOutcome.code : FrameOutcome → Nat
  | .complete => 0 | .truncatedLong => 1 | .truncatedLate => 2 | .spoiled => 3

/-- Break record kinds (section 1.9). -/
def BreakKind.code : BreakKind → Nat
  | .openCircuit => 0 | .shortCircuit => 1 | .step => 2 | .flicker => 3

/-- Program states in the results of ARM and DISARM (R42). -/
def ProgState.code : ProgState → Nat
  | .disarmed => 0 | .armed => 1 | .running => 2

/-- Cable record states (R150). -/
def CableState.code : CableState → Nat
  | .absent => 0 | .declared => 1 | .learned => 2

/-- Joint kinds (R150). -/
def JointKind.code : JointKind → Nat
  | .connector => 0 | .coupler => 1 | .chainEntry => 2 | .chainExit => 3

/-- Polarities (R150). -/
def Polarity.code : Polarity → Nat
  | .pos => 0 | .neg => 1

/-- Pixel depths {8, 12}, an enumeration (R9, R26; log 6). -/
def Depth.code : Depth → Nat
  | .bits8 => 0 | .bits12 => 1

/-- The pixel depth of a packet field, 8 or 12 (R84, R85). -/
def Depth.bits : Depth → Nat
  | .bits8 => 8 | .bits12 => 12

/-- Probe paths (R163). -/
def ProbePath.code : ProbePath → Nat
  | .dark => 0 | .hushed => 1

/-- Actions of a reaction row (R22). -/
def Action.code : Action → Nat
  | .nothing => 0 | .cut => 1 | .cutRetry => 2 | .cutLock => 3

/-- Routes of a reaction row (R22). -/
def Route.code : Route → Nat
  | .nothing => 0 | .attention => 1 | .attentionStop => 2

/-- Counted edges (R22). -/
def Edge.code : Edge → Nat
  | .rise => 0 | .fall => 1 | .both => 2

/-- Program sources (R104). -/
def Source.code : Source → Nat
  | .timer => 0 | .encoder => 1 | .lineRise => 2 | .lineFall => 3

/-- A flag takes one byte, holding 0 or 1 (R9). -/
def flagCode (b : Bool) : Nat := if b then 1 else 0

/-- The refusal a buffer record's give result shows: 0x80 plus the reason (R116). -/
def giveRefusal (r : Reason) : Byte := BitVec.ofNat 8 (0x80 + r.code)

end Sys2Proof.Machine
end

