-- ==== Sys2Proof/Machine/Operands.lean ====
section
/-! DEFINITION. The packing rule R9 and the records it packs: how the part reads the Cell Sheet, the Port Sheets, the
order slots, the buffer records and the cable record, with their judgement by check, spares and values (R8), and how it
lays out the fields it writes. -/

namespace Sys2Proof.Machine

/-! ## Writing fields (R9) -/

/-- Append zero bytes until the length is a multiple of n: each field is aligned to its own size. -/
def padTo (n : Nat) (bs : List Byte) : List Byte := bs ++ List.replicate ((n - bs.length % n) % n) 0

/-- Append an unsigned quantity of n bytes, aligned to its size. -/
def putNum (n v : Nat) (bs : List Byte) : List Byte := padTo n bs ++ leBytes n v

/-- Append an optional quantity: its presence flag, then the value at its own alignment, zero when absent. -/
def putOpt (n : Nat) (v : Option Nat) (bs : List Byte) : List Byte :=
  putNum n (v.getD 0) (putNum 1 (flagCode v.isSome) bs)

/-- Append each of a list by `put`. -/
def putAll {α : Type} (put : α → List Byte → List Byte) (xs : List α) (bs : List Byte) : List Byte :=
  xs.foldl (fun acc x => put x acc) bs

/-- Append a list: its count, then room for `room` entries, those beyond the count as `zero` lays them out. -/
def putList {α : Type} (room : Nat) (zero : α) (put : α → List Byte → List Byte) (xs : List α) (bs : List Byte) : List Byte :=
  putAll put (xs ++ List.replicate (room - xs.length) zero) (putNum 1 xs.length bs)

/-- A fixed number of bytes: cut, or filled with zero bytes (spares at the end). -/
def fit (n : Nat) (bs : List Byte) : List Byte := bs.take n ++ List.replicate (n - bs.length) 0

/-! ## Reading fields (R8, R9) -/

/-- A reader's state: the offset, the bytes from there on, whether every spare so far was zero, the lowest-numbered field in
error, and whether the bytes now read belong to a field that is present. -/
structure Rd where
  pos : Nat
  rest : List Byte
  sparesOk : Bool
  bad : Option Nat
  live : Bool

/-- A reader of a packed record. -/
abbrev Read := StateM Rd

/-- Field f is in error (R8, Values); nothing is in error in an absent field. -/
def markBad (f : Nat) : Read Unit := modify fun r =>
  if r.live then { r with bad := some (match r.bad with | some g => min g f | none => f) } else r

/-- Mark field f when `ok` is false. -/
def demand (f : Nat) (ok : Bool) : Read Unit := if ok then pure () else markBad f

/-- Skip n bytes, which are spares. -/
def skipSpares (n : Nat) : Read Unit := modify fun r =>
  { r with pos := r.pos + n, rest := r.rest.drop n,
           sparesOk := r.sparesOk && (r.rest.take n).all (fun b => b == 0) }

/-- Skip the alignment gap before a field of size n. -/
def align (n : Nat) : Read Unit := do
  let r ← get
  skipSpares ((n - r.pos % n) % n)

/-- Read n bytes as an unsigned quantity at its alignment. In an absent field the bytes are spares. -/
def rawNum (n : Nat) : Read Nat := do
  align n
  let r ← get
  let v := leNat (r.rest.take n)
  set { r with pos := r.pos + n, rest := r.rest.drop n, sparesOk := r.sparesOk && (r.live || v == 0) }
  pure v

/-- Read a quantity of n bytes of field f, which must satisfy `ok`. -/
def num (f n : Nat) (ok : Nat → Bool) : Read Nat := do
  let v ← rawNum n
  demand f (ok v)
  pure v

/-- The range test lo to hi, both included. -/
def within (lo hi v : Nat) : Bool := decide (lo ≤ v) && decide (v ≤ hi)

/-- Read a quantity of n bytes of field f that lies in lo to hi. -/
def ranged (f n lo hi : Nat) : Read Nat := num f n (within lo hi)

/-- Read a flag of field f: a byte holding 0 or 1. -/
def flagField (f : Nat) : Read Bool := do
  let v ← ranged f 1 0 1
  pure (v == 1)

/-- Read an optional part of field f: the presence flag, then the part, whose bytes are spares when it is absent. A
presence byte that is neither 0 nor 1 is BAD_VALUE, and the part is then read as present (log 7). -/
def optional {α : Type} (f : Nat) (part : Read α) : Read (Option α) := do
  let v ← ranged f 1 0 1
  let r ← get
  set { r with live := r.live && v != 0 }
  let x ← part
  modify fun r' => { r' with live := r.live }
  pure (if v == 0 then none else some x)

/-- Read a list of field f: its count, then room for `room` entries; entries beyond the count are spares. -/
def listOf {α : Type} (f room : Nat) (entry : Read α) : Read (List α) := do
  let n ← ranged f 1 0 room
  let r ← get
  let xs ← (List.range room).mapM fun i => do
    modify fun r' => { r' with live := r.live && decide (i < n) }
    entry
  modify fun r' => { r' with live := r.live }
  pure (xs.take n)

/-- Judge a record (R8): the check over the bytes before it, then the spares, then the values. -/
def judge {α : Type} (checkAt : Nat) (bytes : List Byte) (reader : Read α) : Except (Reason × Nat) α :=
  let body := bytes.take checkAt
  if (crc16 body).toNat ≠ leNat ((bytes.drop checkAt).take 2) then .error (.badCheck, 0)
  else
    let (x, r) := reader.run { pos := 0, rest := body, sparesOk := true, bad := none, live := true }
    if (r.sparesOk && r.rest.all (fun b => b == 0)) = false then .error (.nonzeroSpare, 0)
    else match r.bad with
      | some f => .error (.badValue, f)
      | none => .ok x

/-- An exposure of 0 (the port's default) or 10 to 1,000,000 µs (R42, R104, R144). -/
def exposureOk (v : Nat) : Bool := v == 0 || within 10 1000000 v

/-! ## The Cell Sheet (R22, R104) -/

/-- One row of the reaction table; the three power faults cannot carry the action NONE (R22). -/
def readReaction (k : Nat) : Read Reaction := do
  let a ← ranged 7 1 0 3
  demand 7 (decide (3 ≤ k) || a != 0)
  let r ← ranged 7 1 0 2
  pure { action := match a with | 0 => .nothing | 1 => .cut | 2 => .cutRetry | _ => .cutLock
         route := match r with | 0 => .nothing | 1 => .attention | _ => .attentionStop }

/-- One step of a program; its strobe width keeps its relation with the strobe set (R104). -/
def readStep : Read ProgStep := do
  align 4
  let offset ← ranged 16 4 0 1000000
  let ports ← rawNum 1
  let exposure ← num 16 4 exposureOk
  let strobes ← ranged 16 1 0 15
  let width ← rawNum 2
  demand 16 (if strobes == 0 then width == 0 else width != 0)
  pure { offset, ports := BitVec.ofNat 8 ports, exposure, strobes := BitVec.ofNat 8 strobes, width }

/-- Are the steps in non-decreasing order of offset (R104)? -/
def ascending : List ProgStep → Bool
  | a :: b :: rest => decide (a.offset ≤ b.offset) && ascending (b :: rest)
  | _ => true

/-- One program record; any error in it is in error in field 16 (R104). -/
def readProgram : Read ProgRec := do
  align 4
  let s ← ranged 16 1 0 3
  let period ← rawNum 4
  demand 16 (if s == 0 then within 100 10000000 period else period == 0)
  let spacing ← rawNum 2
  demand 16 (if s == 1 then within 1 65535 spacing else spacing == 0)
  let steps ← listOf 16 8 readStep
  demand 16 (ascending steps)
  pure { source := match s with | 0 => .timer | 1 => .encoder | 2 => .lineRise | _ => .lineFall
         period, spacing, steps }

/-- The sixteen fields of the Cell Sheet, with their ranges and relations (R22). -/
def readCellSheet : Read CellSheet := do
  let budget ← ranged 1 2 10 1200
  let loopDefault ← ranged 2 2 0 10000
  let velocityDefault ← ranged 3 2 500 990
  let poolAddr ← num 4 8 (fun v => v % 64 == 0)
  let bufCount ← ranged 5 1 0 128
  demand 4 (bufCount == 0 || poolAddr != 0)
  let c0 ← ranged 6 1 0 128
  let c1 ← ranged 6 1 0 128
  let c2 ← ranged 6 1 0 128
  let c3 ← ranged 6 1 0 128
  let c4 ← ranged 6 1 0 128
  let c5 ← ranged 6 1 0 128
  let c6 ← ranged 6 1 0 128
  let c7 ← ranged 6 1 0 128
  let r0 ← readReaction 0
  let r1 ← readReaction 1
  let r2 ← readReaction 2
  let r3 ← readReaction 3
  let r4 ← readReaction 4
  let r5 ← readReaction 5
  let r6 ← readReaction 6
  let r7 ← readReaction 7
  let r8 ← readReaction 8
  let autoProbe ← flagField 8
  let flickerThreshold ← ranged 9 1 1 255
  let window ← ranged 10 2 256 8191
  let echoThreshold ← ranged 11 1 1 255
  let openLevel ← ranged 12 1 1 255
  let shortLevel ← ranged 13 1 1 255
  demand 11 (decide (echoThreshold ≤ openLevel) && decide (echoThreshold ≤ shortLevel))
  let edge ← ranged 14 1 0 2
  let divider ← ranged 15 2 1 256
  let p0 ← readProgram
  let p1 ← readProgram
  let p2 ← readProgram
  let p3 ← readProgram
  pure { budget, loopDefault, velocityDefault, poolAddr := BitVec.ofNat 64 poolAddr, bufCount
         caps := #v[c0, c1, c2, c3, c4, c5, c6, c7]
         reactions := #v[r0, r1, r2, r3, r4, r5, r6, r7, r8]
         autoProbe, flickerThreshold, window, echoThreshold, openLevel, shortLevel
         edge := match edge with | 0 => .rise | 1 => .fall | _ => .both
         divider, programs := #v[p0, p1, p2, p3] }

/-- Judge a Cell Sheet record of 1024 bytes by check, spares and values (R21). -/
def judgeCellSheet (bytes : List Byte) : Except (Reason × Nat) CellSheet :=
  judge 0x3FD (fit 0x400 bytes) readCellSheet

/-- Lay out a program step. -/
def putStep (s : ProgStep) (bs : List Byte) : List Byte :=
  putNum 2 s.width (putNum 1 s.strobes.toNat (putNum 4 s.exposure (putNum 1 s.ports.toNat (putNum 4 s.offset bs))))

/-- The step whose bytes are all zero. -/
def ProgStep.zero : ProgStep := { offset := 0, ports := 0, exposure := 0, strobes := 0, width := 0 }

/-- Lay out a program record. -/
def putProgram (r : ProgRec) (bs : List Byte) : List Byte :=
  putList 8 ProgStep.zero putStep r.steps
    (putNum 2 r.spacing (putNum 4 r.period (putNum 1 r.source.code (padTo 4 bs))))

/-- The request part of the Cell Sheet copy, from its first byte up to the byte before the check field: what the cell check
is computed over (R33). A sheet that was TAKEN had these bytes, its spares being zero (R8). -/
def CellSheet.bytes (c : CellSheet) : List Byte :=
  let head := putNum 1 c.bufCount (putNum 8 c.poolAddr.toNat
    (putNum 2 c.velocityDefault (putNum 2 c.loopDefault (putNum 2 c.budget []))))
  let table := putAll (fun r bs => putNum 1 r.route.code (putNum 1 r.action.code bs)) c.reactions.toList
    (putAll (putNum 1) c.caps.toList head)
  let probing := putNum 1 c.shortLevel (putNum 1 c.openLevel (putNum 1 c.echoThreshold
    (putNum 2 c.window (putNum 1 c.flickerThreshold (putNum 1 (flagCode c.autoProbe) table)))))
  fit 0x3FD (putAll putProgram c.programs.toList (putNum 2 c.divider (putNum 1 c.edge.code probing)))

/-- The cell check: the CRC over the copy (R33). -/
def CellSheet.check (c : CellSheet) : Half := crc16 c.bytes

/-! ## The Port Sheet (R26) -/

/-- The eleven fields of a Port Sheet. -/
def readPortSheet : Read PortSheet := do
  let want ← ranged 1 1 0 2
  let declared ← ranged 2 1 10 150
  let wakeSettle ← ranged 3 1 1 255
  let exposure ← ranged 4 4 10 1000000
  let depth ← ranged 5 1 0 1
  let members ← ranged 6 1 0 15
  let hold ← flagField 7
  let focus ← optional 8 (ranged 8 2 0 4095)
  let iris ← optional 9 (ranged 9 2 0 1023)
  let zoom ← optional 10 (ranged 10 2 0 4095)
  let region ← optional 11 do
    let x ← rawNum 2
    let y ← rawNum 2
    let w ← ranged 11 2 2 65535
    let h ← ranged 11 2 2 65535
    pure ({ x, y, w, h } : Region)
  pure { want := match want with | 0 => .off | 1 => .on | _ => .standby
         declared, wakeSettle, exposure
         depth := match depth with | 0 => .bits8 | _ => .bits12
         members := BitVec.ofNat 8 members, hold
         lens := { focus, iris, zoom }, region }

/-- Judge a Port Sheet's request part of 384 bytes (R26). -/
def judgePortSheet (bytes : List Byte) : Except (Reason × Nat) PortSheet :=
  judge 0x17D (fit 0x180 bytes) readPortSheet

/-! ## Order slots (R41, R42, R144, R163, R164) -/

/-- A port number from a byte below 8. -/
def portOf (v : Nat) : Port := Fin.ofNat 8 v

/-- A host address parameter: a multiple of 64, not zero (R42). -/
def readAddress : Read Addr := do
  let v ← num 3 8 (fun v => v % 64 == 0 && v != 0)
  pure (BitVec.ofNat 64 v)

/-- The kinds whose target is the cell: START, HALT, ARM, DISARM, CANCEL, CLEAR_BREAKS, CLEAR_STOP, CHECK_TEST (R41). -/
def cellKind (k : Nat) : Bool := [1, 2, 3, 4, 5, 8, 10, 17].contains k

/-- The parameters of each kind, fields 3 onward (R42, R144, R163, R164). Of a kind that does not exist none is read (log 8). -/
def readParams (k : Nat) (p : Port) : Read (Option Order) :=
  match k with
  | 1 => pure (some .start)
  | 2 => pure (some .halt)
  | 3 => do let v ← ranged 3 1 0 3; pure (some (.arm (Fin.ofNat 4 v)))
  | 4 => do let v ← ranged 3 1 0 3; pure (some (.disarm (Fin.ofNat 4 v)))
  | 5 => do let v ← ranged 3 1 0 31; pure (some (.cancel (Fin.ofNat 32 v)))
  | 6 => do let a ← readAddress; pure (some (.cableLoad p a))
  | 7 => do let a ← readAddress; pure (some (.cableSave p a))
  | 8 => do
    let q ← optional 3 (ranged 3 1 0 7)
    let activeToo ← flagField 4
    pure (some (.clearBreaks (q.map portOf) activeToo))
  | 9 => pure (some (.clearFaults p))
  | 10 => pure (some .clearStop)
  | 11 => do let v ← num 3 4 exposureOk; pure (some (.snap p v))
  | 12 => pure (some (.cycle p))
  | 13 => do
    let trace ← flagField 3
    let requireRef ← flagField 4
    pure (some (.probe p trace requireRef))
  | 14 => do let force ← flagField 3; pure (some (.learn p force))
  | 15 => do
    let first ← ranged 3 2 0 4095
    let last ← ranged 4 2 0 4095
    let count ← ranged 5 1 2 32
    let exposure ← num 6 4 exposureOk
    let goBest ← flagField 7
    pure (some (.sweep p { first, last, count, exposure, goBest }))
  | 16 => pure (some (.clearLockout p))
  | 17 => pure (some .checkTest)
  | _ => do
    modify fun r => { r with rest := [] }
    pure none

/-- Kind, target and parameters of an order slot. -/
def readOrder : Read (Option Order) := do
  let k ← ranged 1 1 1 17
  let t ← rawNum 1
  demand 2 (decide (t < 8) || t == 0xFF)
  demand 2 (if cellKind k then t == 0xFF else !(within 1 17 k && t == 0xFF))
  align 8
  readParams k (portOf t)

/-- Judge an order slot's request part of 96 bytes by tests 1 to 3 of R41. -/
def judgeOrder (bytes : List Byte) : Except (Reason × Nat) Order :=
  match judge 0x5D (fit 0x60 bytes) readOrder with
  | .error x => .error x
  | .ok (some o) => .ok o
  | .ok none => .error (.badValue, 1)

/-- The hand of a record: the last byte of its request part. -/
def handOf (size : Nat) (bytes : List Byte) : Byte := (bytes.drop (size - 1)).headD 0

/-! ## Buffer records (section 1.9, R117) -/

/-- The request part of a buffer record; it has no spare bytes. -/
def readSettings : Read Settings := do
  let addr ← rawNum 8
  let length ← ranged 2 4 4096 67108864
  let d ← num 3 1 (fun v => decide (v < 8) || v == 0xFF)
  pure { addr := BitVec.ofNat 64 addr, length, dedication := if d == 0xFF then none else some (portOf d) }

/-- Judge a buffer record's request part of 16 bytes (R117). -/
def judgeSettings (bytes : List Byte) : Except (Reason × Nat) Settings :=
  judge 0x0D (fit 0x10 bytes) readSettings

/-! ## The cable record (R150, R151) -/

/-- A joint entry; its kind is read beyond the list's range test. -/
def readJoint : Read Joint := do
  let position ← ranged 5 2 0 20000
  let k ← ranged 5 1 0 3
  pure { position, kind := match k with | 0 => .connector | 1 => .coupler | 2 => .chainEntry | _ => .chainExit }

/-- A baseline echo entry. -/
def readBaseEcho : Read Echo := do
  let ticks ← ranged 6 2 8 8191
  let pol ← ranged 6 1 0 1
  let amplitude ← ranged 6 1 1 255
  pure { ticks, polarity := if pol == 0 then .pos else .neg, amplitude }

/-- Are the numbers strictly increasing? -/
def increasing : List Nat → Bool
  | a :: b :: rest => decide (a < b) && increasing (b :: rest)
  | _ => true

/-- Chain pairing, read in list order: entries and exits alternate, and none is left open (R151). -/
def chainPaired (inChain : Bool) : List Joint → Bool
  | [] => !inChain
  | j :: js =>
    match j.kind with
    | .chainEntry => !inChain && chainPaired true js
    | .chainExit => inChain && chainPaired false js
    | .connector | .coupler => chainPaired inChain js

/-- The nine fields of a cable record, with their ranges and relations (R150, R151). -/
def readCable : Read CableRec := do
  let st ← ranged 1 1 0 2
  let length ← optional 2 (ranged 2 2 1 20000)
  demand 2 (st != 0 || length.isNone)
  let velocity ← optional 3 (ranged 3 2 500 990)
  demand 3 (st != 0 || velocity.isNone)
  let loop ← optional 4 (ranged 4 2 0 10000)
  demand 4 (st != 0 || loop.isNone)
  let joints ← listOf 5 6 readJoint
  demand 5 (st != 0 || joints.isEmpty)
  demand 5 (increasing (joints.map (·.position)))
  demand 5 (match length with | some n => joints.all (fun j => decide (j.position ≤ n)) | none => true)
  demand 5 (chainPaired false joints)
  let baseline ← listOf 6 8 readBaseEcho
  demand 6 (st != 0 || baseline.isEmpty)
  demand 6 (increasing (baseline.map (·.ticks)))
  demand 1 (st != 1 || baseline.isEmpty)
  demand 1 (st != 2 || !baseline.isEmpty)
  let powered ← flagField 7
  demand 7 (st != 0 || !powered)
  demand 7 (!powered || !baseline.isEmpty)
  let serial ← optional 8 (rawNum 4)
  demand 8 (st != 0 || serial.isNone)
  let learnTime ← optional 9 (rawNum 8)
  demand 9 (st != 0 || learnTime.isNone)
  pure { state := match st with | 0 => .absent | 1 => .declared | _ => .learned
         length, velocity, loop, joints, baseline, powered
         serial := serial.map (BitVec.ofNat 32), learnTime := learnTime.map (BitVec.ofNat 64) }

/-- Validate the 128 bytes of a cable record (R151); the byte at +0x7F is not tested. -/
def judgeCable (bytes : List Byte) : Except (Reason × Nat) CableRec :=
  judge 0x7D (fit 0x80 bytes) readCable

/-- Lay out an echo: ticks, polarity, amplitude. -/
def putEcho (x : Echo) (bs : List Byte) : List Byte :=
  putNum 1 x.amplitude (putNum 1 x.polarity.code (putNum 2 x.ticks bs))

/-- The echo whose bytes are all zero. -/
def Echo.zero : Echo := { ticks := 0, polarity := .pos, amplitude := 0 }

/-- Lay out a joint. -/
def putJoint (j : Joint) (bs : List Byte) : List Byte := putNum 1 j.kind.code (putNum 2 j.position bs)

/-- The 128 bytes CABLE_SAVE writes: every field, zero spares, the computed check, and a hand byte of 0 (R50, R152). -/
def CableRec.bytes (c : CableRec) : List Byte :=
  let upToLoop := putOpt 2 c.loop (putOpt 2 c.velocity (putOpt 2 c.length (putNum 1 c.state.code [])))
  let upToBase := putList 8 Echo.zero putEcho c.baseline
    (putList 6 { position := 0, kind := .connector } putJoint c.joints upToLoop)
  let body := fit 0x7D (putOpt 8 (c.learnTime.map (·.toNat)) (putOpt 4 (c.serial.map (·.toNat))
    (putNum 1 (flagCode c.powered) upToBase)))
  body ++ leBytes 2 (crc16 body).toNat ++ [0]

end Sys2Proof.Machine
end

