-- ==== Sys2Proof/Machine/Reports.lean ====
section
/-! DEFINITION. What the part writes into host memory: the header report, the port report parts, the order answers, the break
mirror and the buffer records, each under the report count rule (R10); and the order results packed by R9. -/

namespace Sys2Proof.Machine

/-! ## The header report (section 1.3, R6) -/

/-- Header bytes 0x0044 to 0x0063. -/
def headerBody (s : State) : List Byte :=
  [BitVec.ofNat 8 s.cell.mode.code,
   BitVec.ofNat 8 (match s.cell.cause with | some c => c.code | none => 0),
   BitVec.ofNat 8 (flagCode s.faults.stopLatch + 2 * flagCode (s.page.service == .opened)),
   0] ++
  leBytes 8 (cellTime s).toNat ++
  [s.cell.take.hand, BitVec.ofNat 8 s.cell.take.verdict.code, BitVec.ofNat 8 s.cell.take.reason.code,
   BitVec.ofNat 8 s.cell.take.field] ++
  leBytes 4 s.page.readErrors.toNat ++ leBytes 4 s.pool.handErrors.toNat ++
  leBytes 4 s.faults.logFull.toNat ++ leBytes 4 s.faults.dropped.toNat

/-- Write the header report; no writing is issued while the page is not HELD (R6, R17). -/
def writeHeader (e : Event) : Event :=
  if held e.toState then
    let e' := rewriteArea (e.page.addr + 0x40) e.page.headerCount (headerBody e.toState) e
    { e' with page := { e'.page with headerCount := e.page.headerCount + 2 } }
  else e

/-! ## The port report part (R28) -/

/-- The running slot: that of the head when it is an order that runs (R28, field 32; R52). -/
def runningSlot (p : Port) (s : State) : Option SlotNo :=
  match (s.ports.get p).queue with
  | .order n :: _ => if (s.slots.get n).state = .running then some n else none
  | _ => none

/-- The camera identity as an inner record, with zero bytes when it is absent. -/
def putIdentity (i : Option Identity) (bs : List Byte) : List Byte :=
  let head := padTo 4 (putNum 1 (flagCode i.isSome) bs)
  match i with
  | none => head ++ List.replicate 12 0
  | some x => putNum 2 x.motionPower (putNum 2 x.standbyPower (putNum 2 x.maxPower
      (putNum 1 x.lensKind.code (putNum 1 x.camClass (putNum 4 x.serial.toNat head)))))

/-- The 128 bytes of port p's report part from +0x180, the report count being `count`: fields 1 to 32 in order. -/
def portReport (p : Port) (count : Word) (s : State) : List Byte :=
  let q := s.ports.get p
  let a := putNum 1 q.take.field (putNum 1 q.take.reason.code (putNum 1 q.take.verdict.code
    (putNum 1 q.take.hand.toNat (putNum 4 count.toNat []))))
  let b := putNum 2 q.power.voltage (putNum 2 q.power.current (putNum 2 q.power.motion (putNum 2 q.power.base
    (putNum 1 q.power.state.code a))))
  let c := putNum 1 (flagCode q.power.trimClamped)
    (putNum 1 (BitVec.ofInt 8 q.power.trim).toNat (putOpt 2 q.power.camVoltage b))
  let d := putIdentity q.link.identity (putNum 1 q.link.state.code c)
  let f := putNum 1 q.lens.state.code (putNum 1 (flagCode q.lens.clamped) (putNum 1 (flagCode q.link.cameraChanged) d))
  let g := putOpt 2 q.lens.pos.zoom (putOpt 2 q.lens.pos.iris (putOpt 2 q.lens.pos.focus f))
  let h := putAll (putNum 4) (q.skips.toList.map (·.toNat)) (putNum 4 q.delivered.toNat (putNum 4 q.fires.toNat g))
  let i := putNum 4 q.stray.toNat (putNum 4 q.link.crcRest.toNat (putNum 4 q.link.crcMotion.toNat h))
  let j := putAll (putNum 1) (q.faults.latched.toList.map flagCode) (putAll (putNum 1) q.faults.counts.toList i)
  let k := putNum 1 q.queue.length (putOpt 1 (q.faults.last.map (fun x => x.index.val)) j)
  fit 128 (putOpt 1 ((runningSlot p s).map (·.val)) k)

/-- Where port p's Port Sheet begins. -/
def sheetAddr (p : Port) (s : State) : Addr := s.page.addr + BitVec.ofNat 64 (0x500 + p.val * 0x200)

/-- Write port p's report part, while the page is HELD (R28, R17). -/
def writePortReport (p : Port) (e : Event) : Event :=
  if held e.toState then
    let n := (e.port p).reportCount
    modPort p (fun q => { q with reportCount := n + 2 })
      (rewriteArea (sheetAddr p e.toState + 0x180) n ((portReport p (n + 1) e.toState).drop 4) e)
  else e

/-- The rewriting of a port report part with its ATTENTION.PORT p (R28). -/
def reportPort (p : Port) (e : Event) : Event := attend (flagPort p) (writePortReport p e)

/-! ## Order answers (section 1.9, R40) -/

/-- Answer bytes +0x64 to +0xFF of a slot. -/
def answerBody (x : Slot) : List Byte :=
  [x.takenHand, BitVec.ofNat 8 x.state.code, BitVec.ofNat 8 x.state.verdict.code, BitVec.ofNat 8 x.reason.code,
   BitVec.ofNat 8 x.field, 0, 0, 0] ++ fit 148 x.results

/-- Where slot n begins. -/
def slotAddr (n : SlotNo) (s : State) : Addr := s.page.addr + BitVec.ofNat 64 (0x1500 + n.val * 0x100)

/-- Write slot n's answer part, while the page is HELD (R40, R17). -/
def writeAnswer (n : SlotNo) (e : Event) : Event :=
  if held e.toState then
    let x := e.slots.get n
    modSlot n (fun y => { y with answerCount := x.answerCount + 2 })
      (rewriteArea (slotAddr n e.toState + 0x60) x.answerCount (answerBody x) e)
  else e

/-! ## The break mirror (section 1.9, R18) -/

/-- Mirror bytes +0x04 to +0x3F of record number n. -/
def mirrorBody (n : Nat) (r : Option BreakRec) : List Byte :=
  match r with
  | none => BitVec.ofNat 8 n :: List.replicate 59 0
  | some x =>
    [BitVec.ofNat 8 n, if x.active then 1 else 2, BitVec.ofNat 8 x.port.val, BitVec.ofNat 8 x.kind.code,
     BitVec.ofNat 8 (flagCode x.ticks.isSome + 2 * flagCode x.joint.isSome + 4 * flagCode x.amplitude.isSome),
     BitVec.ofNat 8 (flagCode x.flexing + 2 * flagCode x.motion),
     BitVec.ofNat 8 (x.joint.getD 0), BitVec.ofNat 8 (x.amplitude.getD 0)] ++
    leBytes 2 (x.ticks.getD 0) ++ [BitVec.ofNat 8 x.sightings, 0] ++ leBytes 4 (x.distance.getD 0) ++ leBytes 4 0 ++
    leBytes 8 x.first.toNat ++ leBytes 8 x.last.toNat ++ List.replicate 24 0

/-- Where mirror record n begins. -/
def mirrorAddr (n : Fin 16) (s : State) : Addr := s.page.addr + BitVec.ofNat 64 (0x3500 + n.val * 0x40)

/-- Rewrite mirror record n from the log, while the page is HELD (R18, R10). -/
def writeMirror (n : Fin 16) (e : Event) : Event :=
  if held e.toState then
    let c := e.page.mirrorCounts.get n
    let e' := rewriteArea (mirrorAddr n e.toState) c
      (mirrorBody n.val (e.faults.log.find? (fun r => r.number == n.val))) e
    { e' with page := { e'.page with mirrorCounts := putAt e'.page.mirrorCounts n (c + 2) } }
  else e

/-- Write 64 zero bytes into mirror record n (R4, R18). -/
def zeroMirror (n : Fin 16) (e : Event) : Event :=
  issue (.write (mirrorAddr n e.toState) (List.replicate 64 0)) e

/-- The 16 record numbers in ascending order. -/
def allNumbers : List (Fin 16) := List.finRange 16

/-- Do `f` for each record number given, in order. -/
def forNumbers (ns : List (Fin 16)) (f : Fin 16 → Event → Event) (e : Event) : Event :=
  ns.foldl (fun acc n => f n acc) e

/-! ## Buffer records (section 1.9, R116, R133) -/

/-- The presence byte of a delivery summary. -/
def Summary.presence (m : Summary) : Nat :=
  flagCode m.shot.isSome + 2 * flagCode m.lens.focus.isSome + 4 * flagCode m.lens.iris.isSome +
  8 * flagCode m.lens.zoom.isSome + 16 * flagCode m.contrast.isSome + 32 * flagCode m.sweepStep.isSome +
  128 * flagCode m.moving

/-- Bytes +0x14 to +0x3F of a buffer record's report part; without a delivery summary its fields are zero. The bytes
written are shown modulo 2^32 (log 53). -/
def bufferBody (x : Entry) : List Byte :=
  [BitVec.ofNat 8 x.state.code, x.hand, x.giveResult, BitVec.ofNat 8 x.giveField] ++
  (match x.summary with
   | none => List.replicate 40 0
   | some m =>
     [BitVec.ofNat 8 m.kind.code, BitVec.ofNat 8 m.outcome.code, BitVec.ofNat 8 m.presence] ++
     (match m.shot with
      | some (p, _, i, n) => [BitVec.ofNat 8 p.val, BitVec.ofNat 8 i.val, BitVec.ofNat 8 n]
      | none => [0, 0, 0]) ++
     [BitVec.ofNat 8 (m.sweepStep.getD 0), BitVec.ofNat 8 m.crcErrors] ++
     leBytes 2 (match m.shot with | some (_, t, _, _) => t.toNat | none => 0) ++
     leBytes 2 m.width ++ leBytes 2 m.height ++ leBytes 2 (m.lens.focus.getD 0) ++ leBytes 8 m.time.toNat ++
     leBytes 4 m.exposure ++ leBytes 4 m.bytes ++ leBytes 4 (m.contrast.getD 0) ++
     leBytes 2 (m.lens.iris.getD 0) ++ leBytes 2 (m.lens.zoom.getD 0))

/-- Where buffer record b begins under a layout. -/
def recordAddr (l : Layout) (b : Nat) : Addr := l.addr + BitVec.ofNat 64 (b * 0x40)

/-- Rewrite buffer record b's report part; it is issued in every page-taken state while a layout is held (R116). -/
def writeBuffer (b : Nat) (e : Event) : Event :=
  match e.pool.layout, e.pool.entries[b]? with
  | some l, some x =>
    modEntry b (fun y => { y with count := x.count + 2 }) (rewriteArea (recordAddr l b + 0x10) x.count (bufferBody x) e)
  | _, _ => e

/-! ## Order results (R42, R148, R163, R165) -/

/-- ARM, DISARM: the program's state and overrun count. -/
def armResults (g : Program) : List Byte := putNum 4 g.overruns.toNat (putNum 1 g.state.code [])

/-- SNAP: buffer number, fire tag, skip reason, each optional. -/
def snapResults (buffer : Option Nat) (tag : Option Half) (skip : Option Skip) : List Byte :=
  putOpt 1 (skip.map (fun k => k.index.val)) (putOpt 2 (tag.map (·.toNat)) (putOpt 1 buffer []))

/-- CYCLE: the power state found. -/
def cycleResults (st : PowerState) : List Byte := putNum 1 st.code []

/-- One flag. -/
def flagResult (b : Bool) : List Byte := putNum 1 (flagCode b) []

/-- The nine flags of a latched set. -/
def latchResults (v : Vector Bool 9) : List Byte := v.toList.map (fun b => BitVec.ofNat 8 (flagCode b))

/-- Lay out a sweep step entry: position and optional buffer number. -/
def putSweepStep (x : SweepStep) (bs : List Byte) : List Byte := putOpt 1 x.buffer (putNum 2 x.position bs)

/-- The best step: the highest recorded contrast, and of equal contrasts the lowest index (R146). -/
def bestStep : List SweepStep → Nat → Option (Nat × SweepStep × Nat) → Option (Nat × SweepStep × Nat)
  | [], _, best => best
  | x :: xs, i, best =>
    bestStep xs (i + 1) (match x.contrast, best with
      | none, _ => best
      | some c, none => some (i, x, c)
      | some c, some (j, y, d) => if d < c then some (i, x, c) else some (j, y, d))

/-- SWEEP: the steps, the best step with its contrast, and the final focus (R148). -/
def sweepResults (steps : List SweepStep) (focus : Option Nat) : List Byte :=
  let best := bestStep steps 0 none
  putOpt 2 focus (putOpt 4 (best.map (·.2.2)) (putOpt 1 (best.map (·.1))
    (putList 32 { position := 0, buffer := none, contrast := none } putSweepStep steps [])))

end Sys2Proof.Machine
end

