-- ==== Sys2Proof/Machine/Packets.lean ====
section
/-! DEFINITION. Link packets as bytes on the cable (R83 to R85): the downlink packets the part sends, the judgement of uplink
payload fields, and the reading of an uplink packet's bytes as the command it is. -/

namespace Sys2Proof.Machine

/-- The n bytes of a number, most significant first (R83). -/
def beBytes (n v : Nat) : List Byte := (leBytes n v).reverse

/-- The number that bytes spell, most significant first. -/
def beNat (bs : List Byte) : Nat := leNat bs.reverse

/-! ## Downlink (R83, R84) -/

/-- Kind values (R83). -/
def Packet.code : Packet → Byte
  | .fire _ _ => 0x01 | .setup _ _ => 0x02 | .lensMove _ => 0x03 | .sleep => 0x04 | .wake => 0x05 | .hush => 0x06
  | .resume => 0x07 | .ask => 0x08

/-- The fire tag field, present in FIRE alone among the downlink kinds (R83). -/
def Packet.tagBytes : Packet → List Byte
  | .fire tag _ => beBytes 2 tag.toNat
  | .setup _ _ | .lensMove _ | .sleep | .wake | .hush | .resume | .ask => []

/-- The payload of each kind (R84). -/
def Packet.payload : Packet → List Byte
  | .fire _ exposure => beBytes 4 exposure
  | .setup exposure depth => beBytes 4 exposure ++ beBytes 1 depth.bits
  | .lensMove t =>
    beBytes 1 (flagCode t.focus.isSome + 2 * flagCode t.iris.isSome + 4 * flagCode t.zoom.isSome) ++
    beBytes 2 (t.focus.getD 0) ++ beBytes 2 (t.iris.getD 0) ++ beBytes 2 (t.zoom.getD 0)
  | .sleep | .wake | .hush | .resume | .ask => []

/-- A downlink packet as sent: kind, tag, payload length, payload, and the CRC over all of them, high byte first (R83). -/
def Packet.bytes (k : Packet) : List Byte :=
  let body := k.code :: (k.tagBytes ++ beBytes 2 k.payload.length ++ k.payload)
  body ++ beBytes 2 (crc16 body).toNat

/-! ## Uplink payload fields (R85) -/

/-- The limits of one axis: ordered and within its range when the kind has it, zero when it does not. -/
def limitsOk (has : Bool) (top low high : Nat) : Bool :=
  if has then decide (low ≤ high) && decide (high ≤ top) else low == 0 && high == 0

/-- Which axes a lens kind has (R135). -/
def LensKind.hasFocus : LensKind → Bool
  | .none => false
  | .focus | .focusIris | .focusIrisZoom => true
/-- FOCUS_IRIS adds iris. -/
def LensKind.hasIris : LensKind → Bool
  | .none | .focus => false
  | .focusIris | .focusIrisZoom => true
/-- FOCUS_IRIS_ZOOM adds zoom. -/
def LensKind.hasZoom : LensKind → Bool
  | .none | .focus | .focusIris => false
  | .focusIrisZoom => true

/-- Do a HELLO's fields keep their ranges? -/
def helloOk (h : HelloPacket) : Bool :=
  match lensKindOf h.lensCode.toNat with
  | none => false
  | some k =>
    decide (h.maxPower.toNat ≤ 1200) && decide (h.standbyPower.toNat ≤ 1200) && decide (h.motionPower.toNat ≤ 1200) &&
    limitsOk k.hasFocus 4095 h.focusLow.toNat h.focusHigh.toNat &&
    limitsOk k.hasIris 1023 h.irisLow.toNat h.irisHigh.toNat &&
    limitsOk k.hasZoom 4095 h.zoomLow.toNat h.zoomHigh.toNat

/-- The pixel depth of a packet's depth field. -/
def depthOf (v : Nat) : Option Depth :=
  if v = 8 then some .bits8 else if v = 12 then some .bits12 else none

/-- Do a FRAME_OPEN's fields keep their ranges? -/
def frameOpenOk (width height : Half) (depth : Byte) : Bool :=
  width != 0 && height != 0 && (depthOf depth.toNat).isSome

/-- Does a FRAME_DATA carry 1 to 1024 data bytes? -/
def frameDataOk (data : List Byte) : Bool := within 1 1024 data.length

/-- One axis of a LENS_STATE: in range when present, zero when absent. -/
def axisOk (present : Bool) (top v : Nat) : Bool := if present then decide (v ≤ top) else v == 0

/-- Do a LENS_STATE's fields keep their ranges? A presence byte with a bit above bit 2 does not (log 52). -/
def lensStateOk (l : LensPacket) : Bool :=
  decide (l.presence.toNat < 8) && decide (l.moving.toNat ≤ 1) &&
  axisOk (l.presence.getLsbD 0) 4095 l.focus.toNat &&
  axisOk (l.presence.getLsbD 1) 1023 l.iris.toNat &&
  axisOk (l.presence.getLsbD 2) 4095 l.zoom.toNat

/-- The positions a LENS_STATE carries. -/
def lensAxes (l : LensPacket) : Axes where
  focus := if l.presence.getLsbD 0 then some l.focus.toNat else none
  iris := if l.presence.getLsbD 1 then some l.iris.toNat else none
  zoom := if l.presence.getLsbD 2 then some l.zoom.toNat else none

/-! ## Reading an uplink packet (R83, R85) -/

/-- Bytes i to i + n − 1 as a big-endian number. -/
def fieldAt (i n : Nat) (bs : List Byte) : Nat := beNat ((bs.drop i).take n)

/-- The fields of an uplink payload of a kind whose length is right, as a command. -/
def commandOf (p : Port) (kind tag : Nat) (pay : List Byte) : Instr :=
  let half (i : Nat) : Half := BitVec.ofNat 16 (fieldAt i 2 pay)
  let byte (i : Nat) : Byte := BitVec.ofNat 8 (fieldAt i 1 pay)
  match kind, pay.length with
  | 0x41, 24 => .hello p
    { serial := BitVec.ofNat 32 (fieldAt 0 4 pay), camClass := byte 4, lensCode := byte 5
      maxPower := half 6, standbyPower := half 8, motionPower := half 10
      focusLow := half 12, focusHigh := half 14, irisLow := half 16, irisHigh := half 18
      zoomLow := half 20, zoomHigh := half 22 }
  | 0x42, 5 => .frameOpen p (BitVec.ofNat 16 tag) (half 0) (half 2) (byte 4)
  | 0x43, n => if within 5 1028 n then
      .frameData p (BitVec.ofNat 16 tag) (BitVec.ofNat 32 (fieldAt 0 4 pay)) (pay.drop 4) else .badPacket p
  | 0x44, 5 => .frameClose p (BitVec.ofNat 16 tag) (BitVec.ofNat 32 (fieldAt 0 4 pay)) (byte 4)
  | 0x45, 8 => .lensState p { presence := byte 0, focus := half 1, iris := half 3, zoom := half 5, moving := byte 7 }
  | 0x46, 2 => .idle p (half 0)
  | 0x47, 0 => .hushed p
  | _, _ => .badPacket p

/-- Does an uplink kind carry a fire tag (R83)? -/
def tagged (kind : Nat) : Bool := [0x42, 0x43, 0x44].contains kind

/-- The command that received bytes are: a packet whose CRC and form pass, else a bad packet (R83, R85, R86). -/
def uplinkCommand (p : Port) (bs : List Byte) : Instr :=
  let body := bs.take (bs.length - 2)
  if bs.length < 5 then .badPacket p
  else if (crc16 body).toNat ≠ beNat (bs.drop (bs.length - 2)) then .badPacket p
  else
    let kind := fieldAt 0 1 body
    let at' := if tagged kind then 3 else 1
    let pay := body.drop (at' + 2)
    if fieldAt at' 2 body ≠ pay.length then .badPacket p
    else commandOf p kind (fieldAt 1 2 body) pay

end Sys2Proof.Machine
end

