-- ==== Sys2Proof/WellFormed.lean ====
section
/-! DEFINITION. When a command is one that the table's row describes: the checks on its operands that need no state. exec is total
and gives an ill-formed command a meaning too (log 34). -/

namespace Sys2Proof

/-- The size of the request part that a read of an area returns (R12). -/
def Area.readSize : Area → Nat
  | .cellSheet => 0x400
  | .portSheet _ => 0x180
  | .orders => 0x60
  | .pool => 0x10

/-- A write of REGISTER_WRITE_OTHER: 1, 2 or 4 bytes within the window, and an aligned 32-bit write only at an offset that has
no command of its own (R1). -/
def otherWrite (offset size : Nat) : Bool :=
  (size == 1 || size == 2 || size == 4) && decide (offset + size ≤ 4096) &&
  !(size == 4 && [0x04, 0x0C, 0x10, 0x14, 0x18].contains offset)

/-- The raw level has stood for 1 µs (R102). -/
def stood (ns : Nat) : Bool := decide (Config.filterNs ≤ ns)

/-- Every pulse of a set gives as many samples, and no more than the greatest probe window (R22, R156). -/
def samplesOk (samples : Vector (List Int) 16) : Bool :=
  samples.toList.all fun l => l.length == (samples.get 0).length && decide (l.length ≤ 8191)

/-- Is the command well formed? -/
def Instr.wellFormed : Instr → Bool
  | .registerWriteOther offset size _ => otherWrite offset.toNat size
  | .sweepRecordRead a bytes => bytes.data.length == a.readSize
  | .cableLoadReadComplete _ bytes => bytes.data.length == 128
  | .hello _ h => Machine.helloOk h
  | .frameOpen _ _ w h d => Machine.frameOpenOk w h d
  | .frameData _ _ _ data => Machine.frameDataOk data
  | .lensState _ l => Machine.lensStateOk l
  | .motionChange _ ns => stood ns
  | .encoderEdge _ ns => stood ns
  | .trigEdge _ ns => stood ns
  | .pulseSetEnd _ samples => samplesOk samples
  | _ => true

end Sys2Proof
end

