-- ==== Sys2Proof/Decode.lean ====
section
/-! DEFINITION. The decoder of the table's words. No row of spec/opcode_table.json gives bits: the commands are writes, reads,
packets, edges and expiries, and none is spelled by a word. -/

namespace Sys2Proof

/-- The command that a word of nbits bits spells by the table's bits: none does. -/
def decodeTableWord (nbits w : Nat) : Option Instr :=
  match nbits, w with
  | _, _ => none

end Sys2Proof
end

