-- ==== Sys2Proof/Machine/Lens.lean ====
section
/-! DEFINITION. The lens record (R135): wants and positions by axis, the grant of a LENS_MOTION claim (R141), and the marks
of a focus sweep that other blocks read. -/

namespace Sys2Proof.Machine

/-! ## Wants -/

/-- No axis is present. -/
def Axes.isEmpty (a : Axes) : Bool := a.focus.isNone && a.iris.isNone && a.zoom.isNone

/-- The axes of `a`, and those of `b` where `a` holds none. -/
def Axes.over (a b : Axes) : Axes where
  focus := a.focus.or b.focus
  iris := a.iris.or b.iris
  zoom := a.zoom.or b.zoom

/-- Remove each target equal to the present position of its axis (R138, step 6). -/
def Axes.unlike (a pos : Axes) : Axes where
  focus := if a.focus = pos.focus then .none else a.focus
  iris := if a.iris = pos.iris then .none else a.iris
  zoom := if a.zoom = pos.zoom then .none else a.zoom

/-- Remove the axes a kind lacks (R136, R138). -/
def Axes.ofKind (k : LensKind) (a : Axes) : Axes where
  focus := if k.hasFocus then a.focus else .none
  iris := if k.hasIris then a.iris else .none
  zoom := if k.hasZoom then a.zoom else .none

/-- The nearer limit for a target outside them. -/
def Limits.clamp (l : Limits) (v : Nat) : Nat := if v < l.low then l.low else if l.high < v then l.high else v

/-- Lacking axes removed and targets clamped, when a kind is known (R138, steps 1 and 2). -/
def LensRec.fitWant (r : LensRec) (a : Axes) : Axes :=
  match r.kind with
  | none => a
  | some k =>
    let b := a.ofKind k
    { focus := b.focus.map r.focusLimits.clamp, iris := b.iris.map r.irisLimits.clamp
      zoom := b.zoom.map r.zoomLimits.clamp }

/-- Positions taken from a LENS_STATE for the axes the kind has; an axis it does not report keeps its value (log 38). -/
def LensRec.takePositions (r : LensRec) (l : LensPacket) : Axes :=
  match r.kind with
  | none => r.pos
  | some k => ((lensAxes l).ofKind k).over r.pos

/-- The staged want becomes empty and the staging timer stops. -/
def LensRec.unstage (r : LensRec) : LensRec :=
  { r with staged := Axes.none, stagedBy := .sheet, stagingAt := none, stagingMark := false }

/-- Stage a want: STAGED with the staging timer started and its mark clear, to be tested at once (R138, R139). -/
def stage (p : Port) (w : Axes) (by' : Server) (e : Event) : Event :=
  tell (.lens p) (setLens p .staged
    (modLens p (fun r => { r with staged := w, stagedBy := by', stagingAt := timer Config.stagingTime e,
                                  stagingMark := false }) e))

/-- IDLE, or STAGED when the staged want still holds an axis after the removal of R138, step 6 (R137, R142). -/
def settleLens (p : Port) (e : Event) : Event :=
  let r := (e.port p).lens
  let w := r.staged.unlike r.pos
  if w.isEmpty then setLens p .idle (modLens p LensRec.unstage e) else stage p w r.stagedBy e

/-! ## The grant (R141) -/

/-- Is the running sweep making its go-to-best move? -/
def bestMove (q : PortState) : Bool :=
  match q.sweep with
  | some w => w.phase == .best
  | none => false

/-- A LENS_MOTION claim has been granted: LENS_MOVE is given and the lens is MOVING. Refused, the motion allotment is
released and the targets go back to a lens in STAGED (R141), its staging timer started afresh and its mark clear (log 63). -/
def lensGranted (p : Port) (e : Event) : Event :=
  let r := (e.port p).lens
  let k := Packet.lensMove r.staged
  let e1 := modLens p (fun x => { x.unstage with
    move := some { targets := r.staged, server := r.stagedBy, best := r.stagedBy == .sweep && bestMove (e.port p) } }) e
  if accepts p k e then
    setLens p .moving (modLens p (fun x => { x with stuckAt := timer Config.stuckTime e }) (give p k e1))
  else
    stage p (((e1.port p).lens.staged).over r.staged) r.stagedBy
      (modPower p (fun w => { w with motion := 0 }) (modLens p (fun x => { x with move := none }) e1))

end Sys2Proof.Machine
end

