-- ==== Sys2Proof/Machine/Budget.lean ====
section
/-! DEFINITION. The power budget: allotments and cable loss (R60), the room (R61), the wait list of claims and its walk (R62
to R64), and the inrush queue with its stage (R66, R67). -/

namespace Sys2Proof.Machine

/-- a divided by b, rounded up. -/
def ceilDiv (a b : Nat) : Nat := (a + b - 1) / b

/-! ## Allotments (R60) -/

/-- The loss of P dW over R mΩ. -/
def loss (power loop : Nat) : Nat := ceilDiv (power * power * loop) 5760000

/-- The loop resistance read for port p: the cable record's, else the sheet copy's default (log 26: 0 without a copy). -/
def loopOf (p : Port) (s : State) : Nat :=
  match (s.ports.get p).cable.loop with
  | some r => r
  | none => match s.cell.sheet with
    | some c => c.loopDefault
    | none => 0

/-- The allotment computed for P dW on port p now. -/
def allotment (p : Port) (power : Nat) (s : State) : Nat := power + loss power (loopOf p s)

/-- What a port holds from the budget. -/
def PortPower.held (w : PortPower) : Nat := w.base + w.motion

/-- The sum of every port's base and motion allotments (R61). -/
def allotted (s : State) : Nat := (s.ports.toList.map (fun q => q.power.held)).sum

/-- The room (R61). -/
def room (s : State) : Nat := s.budget.inForce - allotted s

/-! ## The inrush stage (R67) -/

/-- A FREE stage takes the head of the inrush queue into TRIMMING. -/
def takeStage (e : Event) : Event :=
  match e.budget.stage, e.budget.inrush with
  | .free, p :: _ => { e with budget := { e.budget with stage := .trimming p } }
  | _, _ => e

/-- Does the stage serve port p? -/
def InrushStage.serves (p : Port) : InrushStage → Bool
  | .free => false
  | .trimming q | .charging q => q == p

/-- Take port p out of the inrush queue, and free the stage if it serves p (R66, R67). -/
def leaveInrush (p : Port) (e : Event) : Event :=
  { e with budget := { e.budget with
      inrush := e.budget.inrush.filter (fun q => q != p)
      stage := if e.budget.stage.serves p then .free else e.budget.stage } }

/-! ## Claims (R62, R63, R64) -/

/-- Is a claim of this kind of port p waiting? -/
def claimWaits (p : Port) (k : ClaimKind) (s : State) : Bool := s.budget.waitList.any fun c => c.port == p && c.kind == k

/-- Withdraw port p's claim of one kind; a withdrawal starts no walk (R64). -/
def withdraw (p : Port) (k : ClaimKind) (e : Event) : Event :=
  { e with budget := { e.budget with waitList := e.budget.waitList.filter fun c => !(c.port == p && c.kind == k) } }

/-- Remove every claim of port p (R78). -/
def withdrawAll (p : Port) (e : Event) : Event :=
  { e with budget := { e.budget with waitList := e.budget.waitList.filter fun c => c.port != p } }

/-- The wake settle time of a port, in microseconds (R75). -/
def wakeSettle (q : PortState) : Nat :=
  match q.sheet with
  | some s => s.wakeSettle * 1000
  | none => 0

/-- The effect of a grant, in the event of the walk (R63, R66, R75, R141). A WAKE claim that waited already when a probe began on its
port is granted during the probe, its WAKE packet refused where the link is not TALK (log 65). -/
def grant (c : PowerClaim) (e : Event) : Event :=
  match c.kind with
  | .powerUp =>
    let e1 := modPower c.port (fun w => { w with base := c.amount, rating := some c.rating }) e
    let e2 := setPower c.port .queued { e1 with budget := { e1.budget with inrush := e1.budget.inrush ++ [c.port] } }
    takeStage e2
  | .wake =>
    let e1 := modPower c.port (fun w => { w with base := w.full, wakeAt := timer (wakeSettle (e.port c.port)) e }) e
    give c.port .wake (setPower c.port .waking e1)
  | .lensMotion => lensGranted c.port (modPower c.port (fun w => { w with motion := c.amount }) e)

/-- The oldest claim that fits the room, and the list without it. -/
def firstFit (room : Nat) : List PowerClaim → Option (PowerClaim × List PowerClaim)
  | [] => none
  | c :: cs =>
    if c.amount ≤ room then some (c, cs)
    else match firstFit room cs with
      | some (d, rest) => some (d, c :: rest)
      | none => none

/-- Grant, at most n times, the oldest claim that fits the room then left. A claim passed over does not fit the smaller room
that a later grant leaves, so this is the walk from the oldest to the newest (R63). -/
def walkUpTo : Nat → Event → Event
  | 0, e => e
  | n + 1, e =>
    match firstFit (room e.toState) e.budget.waitList with
    | none => e
    | some (c, rest) => walkUpTo n (grant c { e with budget := { e.budget with waitList := rest } })

/-- A walk (R63). -/
def walk (e : Event) : Event := walkUpTo e.budget.waitList.length e

/-- A claim arrives at the tail of the list, unless its port has one of its kind there; the arrival starts a walk (R62). -/
def arrive (c : PowerClaim) (e : Event) : Event :=
  if claimWaits c.port c.kind e.toState then e
  else walk { e with budget := { e.budget with waitList := e.budget.waitList ++ [c] } }

/-- The LENS_MOTION claim of port p: the camera's lens motion power, or 1 dW when that is 0 (R62). -/
def lensClaim (p : Port) (e : Event) : PowerClaim where
  port := p
  kind := .lensMotion
  amount := match (e.port p).link.identity with
    | some i => max 1 i.motionPower
    | none => 1
  rating := 0

/-- Release the motion allotment of port p and walk with the room freed (R142). -/
def releaseMotion (p : Port) (e : Event) : Event :=
  if (e.port p).power.motion = 0 then e else walk (modPower p (fun w => { w with motion := 0 }) e)

/-! ## The overload limit (R71) -/

/-- The overload limit in mA. -/
def PortPower.limit (w : PortPower) : Nat := ceilDiv (w.held * 125) 24

end Sys2Proof.Machine
end

