-- ==== Sys2Proof/Machine/Orders.lean ====
section
/-! DEFINITION. Order slots and work queues as shared operations: judging a taken order by service, mode and queue room (R41,
R42), final states and answers (R38 to R40), the entries of a port's queue (R51, R52), and the internal probe (R53). -/

namespace Sys2Proof.Machine

/-! ## Kinds (R41, R42) -/

/-- The port of a queue order; none for the other kinds. -/
def Order.queuePort : Order → Option Port
  | .snap p _ | .cycle p | .probe p _ _ | .learn p _ | .sweep p _ => some p
  | .start | .halt | .arm _ | .disarm _ | .cancel _ | .cableLoad _ _ | .cableSave _ _ | .clearBreaks _ _
  | .clearFaults _ | .clearStop | .clearLockout _ | .checkTest => none

/-- The service-only kinds (R42). -/
def Order.serviceOnly : Order → Bool
  | .clearLockout _ | .checkTest => true
  | .start | .halt | .arm _ | .disarm _ | .cancel _ | .cableLoad _ _ | .cableSave _ _ | .clearBreaks _ _
  | .clearFaults _ | .clearStop | .snap _ _ | .cycle _ | .probe _ _ _ | .learn _ _ | .sweep _ _ => false

/-- Is the kind accepted in the mode (R42)? Nothing is in SETUP, where no sweep runs. -/
def Order.acceptedIn : Order → Mode → Bool
  | _, .setup => false
  | .start, .configure => true
  | .start, .run => false
  | .halt, m | .arm _, m | .disarm _, m | .snap _ _, m | .cycle _, m | .sweep _ _, m | .checkTest, m => m == .run
  | .cancel _, _ | .cableLoad _ _, _ | .cableSave _ _, _ | .clearBreaks _ _, _ | .clearFaults _, _ | .clearStop, _
  | .probe _ _ _, _ | .learn _ _, _ | .clearLockout _, _ => true

/-! ## Final states (R38, R39, R40) -/

/-- Slot n reaches a final state: its stop mark is cleared, its answer is written with ATTENTION.ORDERS, and a pending offer
asks for a sweep of the ORDERS area (R39, R40). -/
def finishSlot (n : SlotNo) (st : SlotState) (r : Reason) (field : Nat) (results : List Byte) (e : Event) : Event :=
  let e1 := attend flagOrders (writeAnswer n
    (modSlot n (fun x => { x with state := st, stopMark := false, reason := r, field := field, results := results,
                                  loadBy := none }) e))
  if (e.slots.get n).offerPending then notice .orders e1 else e1

/-- DONE. -/
def doneSlot (n : SlotNo) (results : List Byte) (e : Event) : Event := finishSlot n .done .none 0 results e

/-- REFUSED with a reason, field 0. -/
def refuseSlot (n : SlotNo) (r : Reason) (e : Event) : Event := finishSlot n .refused r 0 [] e

/-- Slot n's order begins to run; its answer is written (R40, R52). -/
def runSlot (n : SlotNo) (e : Event) : Event := writeAnswer n (modSlot n (fun x => { x with state := .running }) e)

/-! ## Work queues (R51, R52) -/

/-- The head of p's queue leaves; the change of head is reported, and the next entry may begin (R51, R52). -/
def removeHead (p : Port) (e : Event) : Event :=
  tell (.begin p) (touch p (modPort p (fun q => { q with queue := q.queue.tail }) e))

/-- The order at the head of p's queue reaches a final state and leaves (R52). -/
def endOrder (p : Port) (n : SlotNo) (st : SlotState) (r : Reason) (results : List Byte) (e : Event) : Event :=
  removeHead p (finishSlot n st r 0 results e)

/-- Does p's queue hold an internal probe (R51)? -/
def holdsProbe (q : List QEntry) : Bool := q.contains .probe

/-- Is a CABLE_LOAD for port p RUNNING (R49)? -/
def Slot.loads (p : Port) (x : Slot) : Bool :=
  x.state == .running && (match x.order with
    | some (.cableLoad q _) => q == p
    | _ => false)

/-- Is a CABLE_LOAD for port p RUNNING in any slot? -/
def loadRuns (p : Port) (s : State) : Bool := s.slots.toList.any (Slot.loads p)

/-- Append an internal probe to p's queue, which has room and holds none (R53). -/
def appendProbe (p : Port) (e : Event) : Event :=
  let e1 := modPort p (fun q => { q with queue := q.queue ++ [.probe] }) e
  if (e.port p).queue.isEmpty then tell (.begin p) (touch p e1) else e1

/-- The outcome and reason of an order that ends by a loss: CANCELLED when its stop mark is set (R56). -/
def lossOutcome (n : SlotNo) (r : Reason) (s : State) : SlotState × Reason :=
  if (s.slots.get n).stopMark then (.cancelled, .cancelledByOrder) else (.aborted, r)

end Sys2Proof.Machine
end

