-- ==== Sys2Proof/Machine/Tracker.lean ====
section
/-! DEFINITION. The Pool Manager's tracker (R115): claims judged against it (R120), delivery with the contrast sum (R129,
R130, R133), the return of a buffer to GIVEN (R123), and what a lost link does to a port's frames (R128). -/

namespace Sys2Proof.Machine

/-! ## Claims (R120) -/

/-- The answer to a claim judged once: `nothing` is the case that asks for a sweep or, the second time, is NO_BUFFER. -/
inductive ClaimAnswer where
  | busy
  | noBuffer
  | got (b : Nat)
  | nothing
deriving DecidableEq, Repr

/-- Is the entry an open buffer among port p's holdings (R115)? -/
def Entry.openHeld (p : Port) (x : Entry) : Bool :=
  x.owner == some p && x.state != .given &&
  (match x.settings with
   | some g => g.dedication.isNone
   | none => false)

/-- Port p's open holdings (R115). -/
def openHoldings (p : Port) (s : State) : Nat := s.pool.entries.countP (Entry.openHeld p)

/-- Is the entry a GIVEN buffer with this dedication? -/
def Entry.givenFor (d : Option Port) (x : Entry) : Bool :=
  x.state == .given &&
  (match x.settings with
   | some g => g.dedication == d
   | none => false)

/-- Port p's share cap in the sheet copy in force. -/
def shareCap (p : Port) (s : State) : Nat :=
  match s.cell.sheet with
  | some c => c.caps.get p
  | none => 0

/-- Judge a claim for port p against the tracker, in the order of R120. The link is tested for a frame claim only. -/
def judgeClaim (p : Port) (k : BufKind) (s : State) : ClaimAnswer :=
  if 2 ≤ inFlight p s then .busy
  else if k = .frame ∧ (s.ports.get p).link.state ≠ .talk then .noBuffer
  else match s.pool.entries.findIdx? (Entry.givenFor (some p)) with
    | some b => .got b
    | none =>
      if openHoldings p s < shareCap p s then
        match s.pool.entries.findIdx? (Entry.givenFor none) with
        | some b => .got b
        | none => .nothing
      else .nothing

/-- The buffer taken becomes RESERVED with its owner and kind, and its report part is rewritten (R120). -/
def reserve (b : Nat) (p : Port) (k : BufKind) (e : Event) : Event :=
  writeBuffer b (modEntry b (fun x => { x with state := .reserved, owner := some p, kind := k }) e)

/-! ## The contrast sum (R130) -/

/-- The latest byte written at a frame offset, if one was. -/
def byteAt (data : List (Nat × Byte)) (o : Nat) : Option Byte := (data.find? fun x => x.1 == o).map (·.2)

/-- The value of the pixel at column c and row r; a 12-bit pixel with one of its two bytes never written counts as never written
(R130; log 61). -/
def pixel (x : Entry) (c r : Nat) : Option Nat :=
  let i := r * x.width + c
  match x.depth with
  | .bits8 => (byteAt x.data i).map (·.toNat)
  | .bits12 =>
    match byteAt x.data (2 * i), byteAt x.data (2 * i + 1) with
    | some lo, some hi => some (((lo.toNat + 256 * hi.toNat) % 4096) / 16)
    | _, _ => none

/-- The absolute difference of two values. -/
def absDiff (a b : Nat) : Nat := (a - b) + (b - a)

/-- A pair of neighbouring columns; a pair with a pixel never written is left out. -/
def pairSum (x : Entry) (r c : Nat) : Nat :=
  match pixel x c r, pixel x (c + 1) r with
  | some a, some b => absDiff a b
  | _, _ => 0

/-- The sum over the region clipped to the frame; none when fewer than 2 columns or no row are kept. -/
def contrastSum (x : Entry) : Option Nat :=
  match x.region with
  | none => none
  | some g =>
    let cols := min (g.x + g.w) x.width - g.x
    let rows := min (g.y + g.h) x.height - g.y
    if cols < 2 ∨ rows = 0 then none
    else
      let row (r : Nat) := ((List.range (cols - 1)).map fun i => pairSum x (g.y + r) (g.x + i)).sum
      some (min 0xFFFFFFFF ((List.range rows).map row).sum)

/-! ## Delivery (R129, R133) -/

/-- Of two outcomes, the one that stands first in R129's list. -/
def FrameOutcome.worst (a b : FrameOutcome) : FrameOutcome := if a.code ≤ b.code then b else a

/-- The delivery summary of a buffer that ends with outcome o (R133). -/
def summaryOf (x : Entry) (o : FrameOutcome) : Summary :=
  match x.kind, x.stamp with
  | .frame, some t =>
    { kind := .frame, outcome := o
      shot := t.step.map fun n => (t.port, t.tag, n.1, n.2)
      sweepStep := t.sweepStep, lens := t.lens, moving := t.moving, crcErrors := x.crcErrors
      width := x.width, height := x.height, time := t.time, exposure := t.exposure, bytes := x.bytes
      contrast := if o = .spoiled then none else contrastSum x }
  | k, _ =>
    { kind := k, outcome := o, shot := none, sweepStep := none, lens := Axes.none, moving := false, crcErrors := 0
      width := 0, height := 0, time := x.openTime, exposure := 0, bytes := x.bytes, contrast := none }

/-- The entry after a delivery: OUT with its owner kept, its timers stopped, its summary formed. -/
def Entry.deliver (o : FrameOutcome) (x : Entry) : Entry :=
  { x with state := .out, summary := some (summaryOf x (x.pending.worst o)), reservedBy := none, silenceBy := none }

/-- A FRAME delivery counts for its owner (R129). -/
def countDelivery (x : Entry) (e : Event) : Event :=
  match x.kind, x.owner with
  | .frame, some p => modPort p (fun q => { q with delivered := q.delivered + 1 }) e
  | _, _ => e

/-- The Lens Controller is told when port p's buffers in flight are at 0 (R122). -/
def tellIfDrained (p : Port) (e : Event) : Event := if inFlight p e.toState = 0 then tell (.gap p) e else e

/-- Deliver buffer b, with `o` among the outcomes it has met. Who claimed it is told by the caller (R129). -/
def deliver (b : Nat) (o : FrameOutcome) (e : Event) : Event :=
  match e.pool.entries[b]? with
  | none => e
  | some x => countDelivery x (raiseFlags flagPool (writeBuffer b (modEntry b (Entry.deliver o) e)))

/-- The entry returned to GIVEN: no owner, no stamp, no timer (R123). -/
def Entry.giveBack (x : Entry) : Entry :=
  { x with state := .given, owner := none, stamp := none, reservedBy := none }

/-- Return a RESERVED buffer to GIVEN; any other is left as it is (R111, R123). -/
def returnGiven (b : Nat) (e : Event) : Event :=
  match e.pool.entries[b]? with
  | some x => if x.state = .reserved then writeBuffer b (modEntry b Entry.giveBack e) else e
  | none => e

/-- Do `f` for each tracker entry's number, in ascending order. -/
def forEntries (f : Nat → Event → Event) (e : Event) : Event :=
  (List.range e.pool.entries.length).foldl (fun acc b => f b acc) e

/-- Is the entry a frame of port p in a state, its stamp carrying the tag? -/
def Entry.joins (p : Port) (st : BufState) (tag : Half) (x : Entry) : Bool :=
  x.state == st && x.kind == .frame && x.owner == some p &&
  (match x.stamp with
   | some t => t.tag == tag
   | none => false)

/-- What a lost link does to buffer b if it is a frame of port p: FILLING is delivered SPOILED, RESERVED returns to GIVEN. -/
def loseFrame (p : Port) (b : Nat) (e : Event) : Event :=
  match e.pool.entries[b]? with
  | none => e
  | some x =>
    if x.kind = .frame ∧ x.owner = some p then
      match x.state with
      | .filling => deliver b .spoiled e
      | .reserved => returnGiven b e
      | .out | .given => e
    else e

/-- Port p's link leaves TALK for WAKE or DARK (R128). -/
def loseFrames (p : Port) (e : Event) : Event :=
  let e1 := forEntries (loseFrame p) e
  if inFlight p e.toState = 0 then e1 else tellIfDrained p e1

/-- Write data bytes of a frame or trace at offset o: those within the length go to memory, the rest are discarded and make
a COMPLETE outcome TRUNCATED_LONG (R125). The bytes written are counted without bound; their 32-bit field shows the count
modulo 2^32 (log 53). An address that passes 2^64 goes on at 0: the buffer address and the offset are added modulo 2^64 (log 73). -/
def fillData (b o : Nat) (data : List Byte) (e : Event) : Event :=
  match e.pool.entries[b]? with
  | some x =>
    match x.settings with
    | some g =>
      let kept := data.take (g.length - o)
      let e1 := modEntry b (fun y => { y with
        bytes := y.bytes + kept.length
        data := (kept.zipIdx.map fun d => (o + d.2, d.1)) ++ y.data
        pending := if kept.length < data.length then y.pending.worst .truncatedLong else y.pending }) e
      if kept.isEmpty then e1 else issue (.write (g.addr + BitVec.ofNat 64 o) kept) e1
    | none => e
  | none => e

end Sys2Proof.Machine
end

