-- ==== Sys2Proof/Machine/Reflect.lean ====
section
/-! DEFINITION. The reflectometer's arithmetic: the averaged record and its echoes (R156, R159), distances and joints (R160),
judgement against a baseline or a declared length (R161, R162), LEARN's steadiness and baseline (R164, R165), and the results
of PROBE and LEARN (R163, R165). -/

namespace Sys2Proof.Machine

/-! ## The averaged record (R156) -/

/-- A sample clamped to −255 to 255. -/
def clampSample (v : Int) : Int := max (-255) (min 255 v)

/-- The sum of the clamped samples that stand first in the pulses still holding one. -/
def headSum (pulses : List (List Int)) : Int := (pulses.map fun l => clampSample (l.headD 0)).sum

/-- The averaged record over W ticks: at each tick the sum of the 16 samples divided by 16, truncated toward zero. A tick
for which the command gives no sample counts as 0. -/
def averaged : Nat → List (List Int) → List Int
  | 0, _ => []
  | n + 1, pulses => (headSum pulses).tdiv 16 :: averaged n (pulses.map (·.tail))

/-- The trace data: each value 2 bytes, signed, little-endian. -/
def traceBytes (a : List Int) : List Byte := a.flatMap fun v => leBytes 2 (BitVec.ofInt 16 v).toNat

/-! ## Echoes (R159) -/

/-- Extend the run under way by the value v at tick t; a run that v breaks is finished. -/
def echoRuns (threshold : Nat) : Option Echo → Nat → List Int → List Echo
  | run, _, [] => run.toList
  | run, t, v :: vs =>
    let mag := v.natAbs
    let pol : Polarity := if 0 < v then .pos else .neg
    if mag < threshold ∨ mag = 0 then run.toList ++ echoRuns threshold none (t + 1) vs
    else
      let fresh : Echo := { ticks := t, polarity := pol, amplitude := mag }
      match run with
      | none => echoRuns threshold (some fresh) (t + 1) vs
      | some r =>
        if r.polarity = pol then echoRuns threshold (some (if r.amplitude < mag then fresh else r)) (t + 1) vs
        else r :: echoRuns threshold (some fresh) (t + 1) vs

/-- The echoes of an averaged record: ticks 0 to 7 are not examined, and the 8 earliest are kept. -/
def echoesOf (threshold : Nat) (a : List Int) : List Echo := (echoRuns threshold none 8 (a.drop 8)).take 8

/-! ## Distances and joints (R160) -/

/-- The distance of an echo in centimetres. -/
def distanceOf (velocity ticks : Nat) : Nat := ticks * velocity * 3 / 800

/-- The joint nearest to a distance, within 50 cm: the smallest difference, and of equal ones the lower index. -/
def nearestJoint (d : Nat) : List Joint → Nat → Option (Nat × Nat) → Option Nat
  | [], _, best => best.map (·.2)
  | j :: js, i, best =>
    let diff := absDiff d j.position
    let better := decide (diff ≤ 50) && (match best with
      | some (m, _) => decide (diff < m)
      | none => true)
    nearestJoint d js (i + 1) (if better then some (diff, i) else best)

/-- Does a distance lie between a CHAIN_ENTRY and its CHAIN_EXIT? `opened` is the entry whose exit has not been met. -/
def inFlexing (d : Nat) (opened : Option Nat) : List Joint → Bool
  | [] => false
  | j :: js =>
    match j.kind with
    | .chainEntry => inFlexing d (some j.position) js
    | .chainExit =>
      (match opened with
        | some a => decide (a ≤ d) && decide (d ≤ j.position)
        | none => false) || inFlexing d none js
    | .connector | .coupler => inFlexing d opened js

/-! ## Findings (R161, R162) -/

/-- A finding of a probe: its echo's index and values, its kind, and its place. -/
structure Finding where
  index : Nat
  kind : BreakKind
  ticks : Nat
  distance : Nat
  amplitude : Nat
  joint : Option Nat
  flexing : Bool
deriving DecidableEq, Repr

/-- The kind an unmatched echo gives (R161). -/
def findingKind (openLevel shortLevel : Nat) (x : Echo) : BreakKind :=
  match x.polarity with
  | .pos => if openLevel ≤ x.amplitude then .openCircuit else .step
  | .neg => if shortLevel ≤ x.amplitude then .shortCircuit else .step

/-- Does a probe echo meet the tests of a baseline echo? The last is matched on time alone (R161). -/
def matchesBase (last : Bool) (b x : Echo) : Bool :=
  decide (absDiff x.ticks b.ticks ≤ 8) &&
  (last || (x.polarity == b.polarity && decide (absDiff x.amplitude b.amplitude * 4 ≤ b.amplitude)))

/-- Of the indexed echoes that meet the tests, the one with the smallest difference in ticks, the earlier of equal ones. -/
def bestMatch (last : Bool) (b : Echo) : List (Echo × Nat) → Option (Nat × Nat) → Option Nat
  | [], best => best.map (·.2)
  | (x, i) :: xs, best =>
    let d := absDiff x.ticks b.ticks
    let better := matchesBase last b x && (match best with
      | some (m, _) => decide (d < m)
      | none => true)
    bestMatch last b xs (if better then some (d, i) else best)

/-- Match the baseline echoes in turn; the probe echoes left, and the number of baseline echoes not seen. -/
def matchBaseline : List Echo → List (Echo × Nat) → List (Echo × Nat) × Nat
  | [], left => (left, 0)
  | b :: bs, left =>
    match bestMatch bs.isEmpty b left none with
    | some i => matchBaseline bs (left.filter fun x => x.2 != i)
    | none =>
      let (rest, n) := matchBaseline bs left
      (rest, n + 1)

/-- A finding from an indexed echo, annotated against the joints (R160). -/
def findingOf (r : ProbeRun) (k : BreakKind) (x : Echo × Nat) : Finding :=
  let d := distanceOf r.velocity x.1.ticks
  { index := x.2, kind := k, ticks := x.1.ticks, distance := d, amplitude := x.1.amplitude
    joint := nearestJoint d r.joints 0 none, flexing := inFlexing d none r.joints }

/-- The findings of a probe and its baseline echoes not seen. Without a baseline an echo is judged against 90 % of the
declared length; without either there is no finding (R161, R162). -/
def judgeEchoes (r : ProbeRun) (echoes : List Echo) : List Finding × Nat :=
  if r.baseline.isEmpty then
    match r.length with
    | none => ([], 0)
    | some n =>
      (((echoes.zipIdx.filter fun x =>
          findingKind r.openLevel r.shortLevel x.1 != .step &&
          decide (distanceOf r.velocity x.1.ticks * 10 < n * 9)).map fun x =>
          findingOf r (findingKind r.openLevel r.shortLevel x.1) x), 0)
  else
    let (left, unseen) := matchBaseline r.baseline echoes.zipIdx
    (left.map (fun x => findingOf r (findingKind r.openLevel r.shortLevel x.1) x), unseen)

/-- Does a reference exist: a baseline or a declared length (R163)? -/
def ProbeRun.hasReference (r : ProbeRun) : Bool := !r.baseline.isEmpty || r.length.isSome

/-! ## LEARN (R164, R165) -/

/-- Does a list agree with the first: as many echoes, the same polarities, ticks within 4? -/
def steadyWith : List Echo → List Echo → Bool
  | [], [] => true
  | a :: as, b :: bs => a.polarity == b.polarity && decide (absDiff a.ticks b.ticks ≤ 4) && steadyWith as bs
  | _, _ => false

/-- The i-th echo of each list, the lists holding one. -/
def column (sets : List (List Echo)) (i : Nat) : List Echo := sets.filterMap fun l => l[i]?

/-- The average of a column's values, rounded down. -/
def meanOf (f : Echo → Nat) (xs : List Echo) : Nat := (xs.map f).sum / xs.length

/-- The baseline learned: per index the polarity of the first list and the averages of ticks and amplitudes (R165). -/
def learnedBaseline (sets : List (List Echo)) : List Echo :=
  (sets.headD []).zipIdx.map fun x =>
    { ticks := meanOf (·.ticks) (column sets x.2), polarity := x.1.polarity
      amplitude := meanOf (·.amplitude) (column sets x.2) }

/-- The greatest tick difference from the first list over all sets (R165). -/
def greatestDrift (sets : List (List Echo)) : Nat :=
  let first := sets.headD []
  (sets.flatMap fun l => (l.zip first).map fun x => absDiff x.1.ticks x.2.ticks).foldl max 0

/-- The loop resistance a powered LEARN computes, clamped to 0 to 10,000 mΩ; none when the camera's voltage is absent or the
current is below 10 mA (R165). -/
def learnedLoop (w : PortPower) : Option Nat :=
  match w.camVoltage with
  | none => none
  | some v => if w.current < 10 then none else some (min 10000 ((w.voltage - v) * 1000 / w.current))

/-! ## Results (R163, R165) -/

/-- Lay out an echo of a result: ticks, polarity, amplitude, distance. -/
def putResultEcho (velocity : Nat) (x : Echo) (bs : List Byte) : List Byte :=
  putNum 2 (distanceOf velocity x.ticks) (putEcho x bs)

/-- Lay out a finding of a result with the break record number it was answered. -/
def putFinding (x : Finding × Option Nat) (bs : List Byte) : List Byte :=
  putNum 1 (flagCode x.1.flexing) (putOpt 1 x.1.joint (putOpt 1 x.2 (putNum 1 x.1.kind.code (putNum 1 x.1.index bs))))

/-- The finding whose bytes are all zero. -/
def Finding.zero : Finding :=
  { index := 0, kind := .openCircuit, ticks := 0, distance := 0, amplitude := 0, joint := none, flexing := false }

/-- PROBE: its eight result fields (R163). -/
def probeResults (velocity : Nat) (echoes : List Echo) (findings : List (Finding × Option Nat)) (trace : Option Nat)
    (omitted noReference : Bool) (path vf unseen : Nat) : List Byte :=
  putNum 1 unseen (putNum 2 vf (putNum 1 path (putNum 1 (flagCode noReference) (putNum 1 (flagCode omitted)
    (putOpt 1 trace (putList 8 (Finding.zero, none) putFinding findings
      (putList 8 Echo.zero (putResultEcho velocity) echoes [])))))))

/-- LEARN: the baseline with distances, the greatest tick difference, the path and the loop resistance (R165). -/
def learnResults (velocity : Nat) (baseline : List Echo) (drift path : Nat) (loop : Option Nat) : List Byte :=
  putOpt 2 loop (putNum 1 path (putNum 1 drift (putList 8 Echo.zero (putResultEcho velocity) baseline [])))

/-- A LEARN refused after pulsing: the four echo counts as a list, and zero for the rest (R165). -/
def learnCounts (sets : List (List Echo)) : List Byte :=
  putList 4 0 (putNum 1) (sets.map (·.length)) []

/-- The trace buffer of a probe, when one was claimed. -/
def TraceClaim.buffer : TraceClaim → Option Nat
  | .got b => some b
  | .unasked | .waiting | .omitted => none

/-- Does a probe's job ask for a trace? -/
def ProbeJob.asksTrace : ProbeJob → Bool
  | .order _ t => t
  | .learn _ | .auto => false

end Sys2Proof.Machine
end

