-- ==== Sys2Proof/Machine/BreakLog.lean ====
section
/-! DEFINITION. The break log (R175): matching, merging, resolving, new records and places, as one update of the list of records,
for the findings of a probe and for a flicker finding (R176 to R179), and the removal of CLEAR_BREAKS (R48). -/

namespace Sys2Proof.Machine

/-- One event at the log in progress: the records, the numbers sighted by this probe, those made and those changed in this
event, the findings left unrecorded, and the answers given so far, latest last. -/
structure LogEvent where
  log : List BreakRec
  sighted : List Nat
  made : List Nat
  changed : List Nat
  unrecorded : Nat
  answers : List (Option Nat)
deriving DecidableEq, Repr

/-- The event before anything was dealt with. -/
def LogEvent.begin (log : List BreakRec) : LogEvent :=
  { log, sighted := [], made := [], changed := [], unrecorded := 0, answers := [] }

/-- Change the record of a number, which is then a changed one. -/
def LogEvent.change (n : Nat) (f : BreakRec → BreakRec) (g : LogEvent) : LogEvent :=
  { g with log := g.log.map (fun r => if r.number = n then f r else r), changed := n :: g.changed }

/-- Sightings saturate at 255 (R175). -/
def oneMore (n : Nat) : Nat := min 255 (n + 1)

/-! ## Matching (R176) -/

/-- Is the record an ACTIVE one of this port and kind? -/
def BreakRec.isActive (p : Port) (k : BreakKind) (r : BreakRec) : Bool := r.active && r.port == p && r.kind == k

/-- The difference of a record's echo ticks from t. -/
def BreakRec.off (t : Nat) (r : BreakRec) : Nat := absDiff (r.ticks.getD 0) t

/-- The record a finding matches: of the ACTIVE ones of its port and kind within 8 ticks, the nearest, the earlier of equals. -/
def matchRec (p : Port) (k : BreakKind) (t : Nat) : List BreakRec → Option BreakRec → Option BreakRec
  | [], best => best
  | r :: rs, best =>
    let better := r.isActive p k && decide (r.off t ≤ 8) && (match best with
      | some b => decide (r.off t < b.off t)
      | none => true)
    matchRec p k t rs (if better then some r else best)

/-- Match one finding, and merge it unless its record was sighted by this probe already. -/
def LogEvent.matchOne (p : Port) (now : Addr) (x : Finding) (g : LogEvent) : LogEvent :=
  match matchRec p x.kind x.ticks g.log none with
  | none => { g with answers := g.answers ++ [none] }
  | some r =>
    let g1 := if r.number ∈ g.sighted then g
      else { g.change r.number (fun y => { y with sightings := oneMore y.sightings, last := now,
                                                  amplitude := some x.amplitude }) with
             sighted := r.number :: g.sighted }
    { g1 with answers := g1.answers ++ [some r.number] }

/-! ## Resolving (R177) -/

/-- Could a probe have seen a record of this kind? -/
def couldSee (baseline length : Bool) : BreakKind → Bool
  | .openCircuit | .shortCircuit => baseline || length
  | .step => baseline
  | .flicker => false

/-- Is the record one that the probe resolves: ACTIVE, of its port, visible to it and not sighted? -/
def BreakRec.resolvedBy (p : Port) (baseline length : Bool) (sighted : List Nat) (r : BreakRec) : Bool :=
  r.active && r.port == p && couldSee baseline length r.kind && !sighted.contains r.number

/-- Resolve what the probe could have seen and did not sight. -/
def LogEvent.resolve (p : Port) (baseline length : Bool) (g : LogEvent) : LogEvent :=
  let hit := BreakRec.resolvedBy p baseline length g.sighted
  { g with log := g.log.map (fun r => if hit r then { r with active := false } else r)
           changed := (g.log.filter hit).map (·.number) ++ g.changed }

/-! ## New records (R178) -/

/-- The lowest number no record holds. -/
def freeNumber (log : List BreakRec) : Option Nat := (List.range 16).find? fun n => log.all fun r => r.number != n

/-- The oldest RESOLVED record by first sighting, of equal ones the earlier in the order (R178). The first sightings are compared as the
times they show, also where a line reset has restarted cell time between two records and the log's order says otherwise (log 74). -/
def oldestResolved : List BreakRec → Option BreakRec → Option BreakRec
  | [], best => best
  | r :: rs, best =>
    let older := !r.active && (match best with
      | some b => decide (r.first.toNat < b.first.toNat)
      | none => true)
    oldestResolved rs (if older then some r else best)

/-- The number a new record takes, and the log with room made for it; none with 16 ACTIVE records. -/
def makeRoom (log : List BreakRec) : Option (Nat × List BreakRec) :=
  if log.length < 16 then (freeNumber log).map fun n => (n, log)
  else (oldestResolved log none).map fun r => (r.number, log.filter fun x => x.number != r.number)

/-- Put a new record at the end of the order, or leave its finding unrecorded. -/
def LogEvent.make (mk : Nat → BreakRec) (g : LogEvent) : LogEvent × Option Nat :=
  match makeRoom g.log with
  | none => ({ g with unrecorded := g.unrecorded + 1 }, none)
  | some (n, log) => ({ g with log := log ++ [mk n], made := g.made ++ [n], changed := n :: g.changed }, some n)

/-- The record of a probe's finding. -/
def newRec (p : Port) (now : Addr) (motion : Bool) (x : Finding) (n : Nat) : BreakRec where
  number := n
  active := true
  port := p
  kind := x.kind
  ticks := some x.ticks
  distance := some x.distance
  joint := x.joint
  amplitude := some x.amplitude
  flexing := x.flexing
  motion := motion
  sightings := 1
  first := now
  last := now

/-- Deal with one finding after resolving: a matched one keeps its answer; one within 8 ticks of a record made in this event
is answered with that record's number; any other makes a record or is left unrecorded. -/
def LogEvent.makeOne (p : Port) (now : Addr) (motion : Bool) (x : Finding) (answer : Option Nat) (g : LogEvent) :
    LogEvent × Option Nat :=
  match answer with
  | some n => (g, some n)
  | none =>
    match matchRec p x.kind x.ticks (g.log.filter fun r => g.made.contains r.number) none with
    | some r => (g, some r.number)
    | none => g.make (newRec p now motion x)

/-- Deal with the findings in turn. -/
def LogEvent.makeAll (p : Port) (now : Addr) (motion : Bool) :
    List (Finding × Option Nat) → LogEvent → LogEvent × List (Option Nat)
  | [], g => (g, [])
  | (x, a) :: rest, g =>
    let (g1, a1) := g.makeOne p now motion x a
    let (g2, as) := LogEvent.makeAll p now motion rest g1
    (g2, a1 :: as)

/-! ## Places (R179) -/

/-- The ACTIVE FLICKER record of the port takes the place of the earliest recorded finding in a flexing section; a finding answered
none is not recorded and places nothing (R179, R180; log 56). -/
def LogEvent.place (p : Port) (recorded : List Finding) (g : LogEvent) : LogEvent :=
  match g.log.find? (BreakRec.isActive p .flicker), recorded.find? (·.flexing) with
  | some r, some x => g.change r.number fun y =>
      { y with ticks := some x.ticks, distance := some x.distance, amplitude := some x.amplitude, joint := x.joint
               flexing := true }
  | _, _ => g

/-- The findings that stand in the log: merged into a record or made one. -/
def recordedOf (findings : List Finding) (answers : List (Option Nat)) : List Finding :=
  ((findings.zip answers).filter fun x => x.2.isSome).map (·.1)

/-- A completed probe's findings: matched, resolved, recorded and placed, with the answer to each (R176 to R179). -/
def probeUpdate (p : Port) (now : Addr) (motion : Bool) (baseline length : Bool) (findings : List Finding)
    (log : List BreakRec) : LogEvent :=
  let g1 := findings.foldl (fun g x => g.matchOne p now x) (LogEvent.begin log)
  let g2 := g1.resolve p baseline length
  let (g3, answers) := g2.makeAll p now motion (findings.zip g1.answers)
  { g3.place p (recordedOf findings answers) with answers }

/-! ## Flicker (R174, R176, R178) -/

/-- The record of a flicker finding, without a position. -/
def newFlicker (p : Port) (now : Addr) (motion : Bool) (n : Nat) : BreakRec where
  number := n
  active := true
  port := p
  kind := .flicker
  ticks := none
  distance := none
  joint := none
  amplitude := none
  flexing := false
  motion := motion
  sightings := 1
  first := now
  last := now

/-- A flicker finding merges with the port's ACTIVE FLICKER record, or makes one. -/
def flickerUpdate (p : Port) (now : Addr) (motion : Bool) (log : List BreakRec) : LogEvent :=
  let g := LogEvent.begin log
  match log.find? (BreakRec.isActive p .flicker) with
  | some r => g.change r.number fun y => { y with sightings := oneMore y.sightings, last := now }
  | none => (g.make (newFlicker p now motion)).1

/-- The port's ACTIVE FLICKER record becomes RESOLVED (R177). -/
def flickerResolve (p : Port) (log : List BreakRec) : LogEvent :=
  let g := LogEvent.begin log
  match log.find? (BreakRec.isActive p .flicker) with
  | some r => g.change r.number fun y => { y with active := false }
  | none => g

/-! ## Removal (R48) -/

/-- Does CLEAR_BREAKS remove the record? -/
def BreakRec.clearedBy (port : Option Port) (activeToo : Bool) (r : BreakRec) : Bool :=
  (activeToo || !r.active) && (match port with
    | some p => r.port == p
    | none => true)

/-- Has the port an ACTIVE record of kind OPEN or SHORT (R164)? -/
def breaksActive (p : Port) (log : List BreakRec) : Bool :=
  log.any fun r => r.isActive p .openCircuit || r.isActive p .shortCircuit

/-! ## The event (R178, R180) -/

/-- Take the updated log: the mirror records of the changed numbers are rewritten and ATTENTION.BREAKS is set once, when any
record changed; findings left unrecorded are counted together, which rewrites the header report once (log 58). -/
def takeLog (g : LogEvent) (e : Event) : Event :=
  let e1 := { e with faults := { e.faults with log := g.log } }
  let e2 := forNumbers (allNumbers.filter fun n => g.changed.contains n.val) writeMirror e1
  let e3 := if g.changed.isEmpty then e2 else attend flagBreaks e2
  if g.unrecorded = 0 then e3
  else writeHeader { e3 with faults := { e3.faults with logFull := e3.faults.logFull + BitVec.ofNat 32 g.unrecorded } }

end Sys2Proof.Machine
end

