-- ==== Sys2Proof/Machine/Faults.lean ====
section
/-! DEFINITION. The Fault Unit: counting, latching and routing a port fault (R167, R168), the actions it sends (R169), the stop
latch (R170) and auto-probe with its cool-down (R171, R172). -/

namespace Sys2Proof.Machine

/-- The row of a kind in the reaction table; without a sheet copy both action and route are NONE (R168). -/
def reactionOf (k : FaultKind) (s : State) : Reaction :=
  match s.cell.sheet with
  | some c => c.reactions.get k.index
  | none => { action := .nothing, route := .nothing }

/-- The kinds whose action the Power Manager applies in the event in which it finds the fault (R79, R169). -/
def FaultKind.ofPower : FaultKind → Bool
  | .short | .overload | .inrushTimeout | .overClass => true
  | .noCamera | .linkLost | .lensStuck | .flicker | .breakFound => false

/-! ## The stop latch (R170) -/

/-- Set the stop latch: a clear latch rewrites the header report, and every setting sets ATTENTION.STOP. -/
def setStop (e : Event) : Event :=
  attend flagStop (if e.faults.stopLatch then e
    else writeHeader { e with faults := { e.faults with stopLatch := true } })

/-- Clear the stop latch; clearing a set latch rewrites the header report (R47). -/
def clearStopLatch (e : Event) : Event :=
  if e.faults.stopLatch then writeHeader { e with faults := { e.faults with stopLatch := false } } else e

/-! ## Auto-probe (R171) -/

/-- The kinds for which auto-probe is considered. -/
def FaultKind.probes : FaultKind → Bool
  | .flicker | .linkLost | .short | .overload | .noCamera => true
  | .inrushTimeout | .overClass | .lensStuck | .breakFound => false

/-- Is the auto-probe enable of the sheet copy set? -/
def autoProbeOn (s : State) : Bool :=
  match s.cell.sheet with
  | some c => c.autoProbe
  | none => false

/-- Consider auto-probe for a fault of kind k on port p, the enable being as it stood when the fault was raised (R23): enable and a copy,
cool-down, an internal probe already held, queue room (log 59). -/
def considerProbe (p : Port) (k : FaultKind) (enabled : Bool) (e : Event) : Event :=
  let q := e.port p
  if k.probes && enabled && e.cell.sheet.isSome then
    if q.faults.cooldownAt.isSome || holdsProbe q.queue then e
    else if q.queue.length < 8 then appendProbe p e
    else writeHeader { e with faults := { e.faults with dropped := e.faults.dropped + 1 } }
  else e

/-! ## A port fault (R168) -/

/-- Count, latch and remember a kind (R168, steps 1 to 3). -/
def PortFaults.note (k : FaultKind) (f : PortFaults) : PortFaults :=
  { f with counts := modAt f.counts k.index (fun n => min 255 (n + 1))
           latched := putAt f.latched k.index true
           last := some k }

/-- A port fault reaches the Fault Unit (R168), with the reaction table and the auto-probe enable of this moment (R23). The action of a
power kind has been applied already; any other is sent. -/
def handleFault (p : Port) (k : FaultKind) (e : Event) : Event :=
  let row := reactionOf k e.toState
  let enabled := autoProbeOn e.toState
  let e1 := modFaults p (PortFaults.note k) e
  let e2 := if (e.port p).faults.latched.get k.index then e1 else touch p e1
  let e3 := if k.ofPower then e2
    else { e2 with faults := { e2.faults with
      sent := e2.faults.sent ++ [{ port := p, kind := k, action := row.action, autoProbe := enabled }] } }
  let e4 := match row.route with
    | .nothing => e3
    | .attention => touch p e3
    | .attentionStop => setStop (touch p e3)
  match k with
  | .short | .overload => considerProbe p k enabled e4
  | .inrushTimeout | .overClass | .noCamera | .linkLost | .lensStuck | .flicker | .breakFound => e4

/-- p's cool-down timer starts, or starts again, from 10 s (R172). -/
def startCooldown (p : Port) (e : Event) : Event :=
  modFaults p (fun f => { f with cooldownAt := timer Config.cooldownTime e }) e

end Sys2Proof.Machine
end

