-- ==== Sys2Proof/Machine/Ends.lean ====
section
/-! DEFINITION. How a running order or probe ends: SNAP (R55, R56), focus sweep (R145 to R147), CYCLE (R57), probe (R157,
R158); and the downlink side of a probe's end, the resume (R97). -/

namespace Sys2Proof.Machine

/-! ## Waiting claims (R111, R121) -/

/-- Give the claims a requester made, and that are live, another standing. -/
def markClaims (mine : Requester → Bool) (st : ClaimStatus) (e : Event) : Event :=
  { e with pool := { e.pool with claims := e.pool.claims.map fun c =>
      if (mine c.requester && c.status == .live) = true then { c with status := st } else c } }

/-- Is the claim a SNAP's from slot n? -/
def Requester.isSnap (n : SlotNo) : Requester → Bool
  | .snap m => m == n
  | .step _ _ | .sweep _ _ | .trace => false

/-- Is the claim a focus sweep's from slot n? -/
def Requester.isSweep (n : SlotNo) : Requester → Bool
  | .sweep m _ => m == n
  | .step _ _ | .snap _ | .trace => false

/-- Is the claim a step decision's of program i? -/
def Requester.isStep (i : ProgNo) : Requester → Bool
  | .step j _ => j == i
  | .snap _ | .sweep _ _ | .trace => false

/-! ## SNAP -/

/-- What a SNAP's results hold when its buffer was opened, was claimed and not opened, or was never claimed (R55, R56). -/
def SnapRun.results (r : SnapRun) : List Byte :=
  match r.shot with
  | none => snapResults none none none
  | some (t, b) => snapResults (if r.opened then some b else none) (some t) none

/-- The SNAP running on port p ends. -/
def endSnap (p : Port) (st : SlotState) (why : Reason) (results : List Byte) (e : Event) : Event :=
  match (e.port p).snap with
  | none => e
  | some r => endOrder p r.slot st why results (modPort p (fun q => { q with snap := none }) e)

/-- A SNAP reached by a loss of power or of the link (R54, R56). A claim that still waits is left to count its skip. -/
def loseSnap (p : Port) (why : Reason) (e : Event) : Event :=
  match (e.port p).snap with
  | none => e
  | some r =>
    let (st, w) := lossOutcome r.slot why e.toState
    endSnap p st w r.results (markClaims (Requester.isSnap r.slot) .orphan e)

/-! ## Focus sweep -/

/-- Change the sweep running on port p. -/
def modSweep (p : Port) (f : SweepRun → SweepRun) (e : Event) : Event :=
  modPort p (fun q => { q with sweep := q.sweep.map f }) e

/-- A sweep step has ended with this record; the sweep goes on (R145). -/
def recordStep (p : Port) (x : SweepStep) (e : Event) : Event :=
  tell (.sweep p) (modSweep p (fun w =>
    { w with steps := w.steps ++ [x], index := w.index + 1, phase := .choose, shot := none }) e)

/-- The sweep's hold on sheet wants ends: the held want is merged into the staged want. A staged want that is still the sweep's own,
as a cancel finds it, is removed and its claim withdrawn; one that a loss, a greeting again or a teardown reached first is kept and
no longer the sweep's (R143, R146, R147, R149; log 55). The held want that a cancel so leaves behind is staged anew: by the model's choice
its staging timer starts afresh with the mark clear, whatever the sweep's own want had run (R147; log 77). -/
def releaseWants (p : Port) (e : Event) : Event :=
  let r := (e.port p).lens
  let own := r.stagedBy == .sweep
  let e1 := if own && r.state == .waitPower then withdraw p .lensMotion e else e
  let e2 := modLens p (fun x => { x with
    staged := x.held.over (if own then Axes.none else x.staged), stagedBy := .sheet, held := Axes.none }) e1
  match r.state with
  | .idle | .staged | .waitPower => settleLens p e2
  | .absent | .unknown | .moving | .stuck => e2

/-- The focus sweep of port p ends; its steps so far are its results (R147, R148). The claim of a step whose decision still waits is
left to be answered without a fire, also where a greeting again has ended the sweep and the link stays in TALK (log 70). -/
def endSweep (p : Port) (st : SlotState) (why : Reason) (e : Event) : Event :=
  match (e.port p).sweep with
  | none => e
  | some w =>
    let e1 := releaseWants p (markClaims (Requester.isSweep w.slot) .orphan e)
    let results := sweepResults w.steps (e1.port p).lens.pos.focus
    endOrder p w.slot st why results (tell (.lens p) (modPort p (fun q => { q with sweep := none }) e1))

/-! ## Probe -/

/-- Change the probe running on port p. -/
def modProbe (p : Port) (f : ProbeRun → ProbeRun) (e : Event) : Event :=
  modPort p (fun q => { q with probe := q.probe.map f }) e

/-- The path a result shows: a probe that took neither shows a free value (log 14), and the free counter advances. -/
def pathField (path : Option ProbePath) (e : Event) : Nat × Event :=
  match path with
  | some x => (x.code, e)
  | none => (flagCode (Config.unsetPathHushed e.free), { e with free := e.free + 1 })

/-- The results of a probe that ended before its pulsing completed: its trace fields and its path (R158, R163; log 17). -/
def earlyResults (job : ProbeJob) (trace : TraceClaim) (path : Nat) : List Byte :=
  match job with
  | .order _ asked =>
    probeResults 0 [] [] trace.buffer (asked && trace.buffer.isNone) false path 0 0
  | .learn _ => learnResults 0 [] 0 path none
  | .auto => []

/-- SETUP with the copy's default exposure and pixel depth as they stand (R95; log 25 without a copy). -/
def setupPacket (q : PortState) : Packet :=
  match q.sheet with
  | some s => .setup s.exposure s.depth
  | none => .setup 0 .bits8

/-- A resume request; in any state but HUSH it is ignored. RESUME and what is owed are sent and the link is TALK again (R97).
Standby entry is held back, as a probe runs (R77). -/
def resume (p : Port) (e : Event) : Event :=
  let l := (e.port p).link
  if l.state = .hush then
    let owed := (if l.owedSetup then [setupPacket (e.port p)] else []) ++ (if l.owedSleep then [Packet.sleep] else [])
    let e1 := modLink p (fun x => { x with
      silenceAt := timer Config.silenceTime e, motionWindow := 0, restWindow := 0, owedSetup := false,
      owedSleep := false }) e
    let e2 := modLink p (fun x => owed.foldl (fun y k => enqueue k y) (enqueue .resume x)) e1
    let e3 := if (e.port p).power.state = .on ∧ wantOf (e.port p) = .standby then modPower p (fun w => { w with owed := true }) e2
      else e2
    setLink p .talk e3
  else e

/-- The trace of a probe is delivered, SPOILED unless its pulsing completed; one already OUT is left as it is (R132). -/
def deliverTrace (t : TraceClaim) (completed : Bool) (e : Event) : Event :=
  match t.buffer with
  | none => e
  | some b =>
    if ((e.pool.entries[b]?).any fun x => x.state == .filling) = true then
      deliver b (if completed then .complete else .spoiled) e
    else e

/-- Step 4 of R157: the probe is over. A PROBE or LEARN is answered; an internal probe starts the cool-down. The changes of
power held back are made first, the staged want is tested then, and the next entry begins after both. No gap is told on its
own: the Pool Manager reports one in step 2 (R129), while the probe still runs and no lens may leave STAGED (R140), and the
test that follows here judges the same gap. -/
def reportEnd (p : Port) (job : ProbeJob) (st : SlotState) (why : Reason) (results : List Byte) (e : Event) : Event :=
  let e1 := tell (.lens p) (tell (.owed p) (modPort p (fun q => { q with probe := none }) e))
  match job with
  | .order n _ | .learn n => endOrder p n st why results e1
  | .auto => removeHead p (startCooldown p e1)

/-- The probe of port p ends without complete pulsing: resumed if it held the link in HUSH, its trace delivered SPOILED
(R157). A trace claim that still waits is dropped, and answered later as no probe's (log 66). -/
def abortProbe (p : Port) (st : SlotState) (why : Reason) (e : Event) : Event :=
  match (e.port p).probe with
  | none => e
  | some r =>
    let e1 := deliverTrace r.trace false (resume p e)
    let e2 := { e1 with pool := { e1.pool with claims := e1.pool.claims.map fun c =>
      if c.port == p && c.requester == .trace then { c with status := .dropped } else c } }
    let (path, e3) := pathField r.path e2
    reportEnd p r.job st why (earlyResults r.job r.trace path) e3

/-- A probe goes back to CLASSING, its measurements discarded (R155, R158). -/
def reclass (p : Port) (e : Event) : Event :=
  tell (.probe p) (modProbe p (fun r => { r with phase := .classing, sets := [] }) e)

end Sys2Proof.Machine
end

