-- ==== Sys2Proof/Machine/Removal.lean ====
section
/-! DEFINITION. Loss of power and of the link: the lens (R143), the link's fall to WAKE (R93) and to DARK (R94), the running
order (R54, R158), and the removal of power as one event (R78). -/

namespace Sys2Proof.Machine

/-! ## The lens (R143) -/

/-- Where a lens goes at a loss: ABSENT survives a fall of the link alone. -/
def LensState.lost (dark : Bool) (st : LensState) : LensState :=
  match st with
  | .absent => if dark then .unknown else .absent
  | .unknown | .idle | .staged | .waitPower | .moving | .stuck => .unknown

/-- The staged want at a loss (R143): it is kept, whoever staged it, and move targets served by SHEET are merged into it for the axes
it does not hold; targets served by SWEEP are dropped. -/
def LensRec.wantAfterLoss (r : LensRec) : Axes :=
  match r.move with
  | some m => if m.server = .sheet then r.staged.over m.targets else r.staged
  | none => r.staged

/-- The lens record at a loss of the link or, with `dark`, of power (R143). The want kept is served by SHEET from then on, also one
that a sweep had staged (log 55). -/
def LensRec.lose (dark : Bool) (r : LensRec) : LensRec :=
  { r with
    staged := r.wantAfterLoss, stagedBy := .sheet, stagingAt := none, stagingMark := false, stuckAt := none
    move := none, pos := Axes.none, fromSweep := false
    kind := if dark then none else r.kind
    focusLimits := if dark then { low := 0, high := 0 } else r.focusLimits
    irisLimits := if dark then { low := 0, high := 0 } else r.irisLimits
    zoomLimits := if dark then { low := 0, high := 0 } else r.zoomLimits }

/-- The lens of port p meets a loss: its claim is withdrawn, its motion allotment released (R143). -/
def loseLens (p : Port) (dark : Bool) (e : Event) : Event :=
  let st := (e.port p).lens.state
  setLens p (st.lost dark) (releaseMotion p (withdraw p .lensMotion (modLens p (LensRec.lose dark) e)))

/-! ## Histories (R93, R94, R96, R99, R173) -/

/-- The error histories are emptied, the window counts set to 0, and the Break Finder clears the met mark. -/
def emptyHistories (p : Port) (e : Event) : Event :=
  modPort p (fun q => { q with
    met := false
    link := { q.link with motionHistory := [], restHistory := [], motionWindow := 0, restWindow := 0 } }) e

/-! ## The link goes dark (R94) -/

/-- Every link timer is stopped, what is sent, waiting or owed is discarded, and the identity is cleared. -/
def PortLink.darken (l : PortLink) : PortLink :=
  { l with askAt := none, greetAt := none, silenceAt := none, hushAt := none, sending := none, waiting := []
           owedSetup := false, owedSleep := false, identity := none }

/-- A sweep step's frame that is FILLING as the link is lost will be delivered SPOILED: the step ends with its buffer and no
contrast (R128 to R130, R145). One still RESERVED leaves no record. -/
def sweepSpoiled (p : Port) (e : Event) : Event :=
  match (e.port p).sweep with
  | none => e
  | some w => match w.shot with
    | none => e
    | some (tag, b) =>
      if (e.pool.entries[b]?).any (Entry.joins p .filling tag) = true then
        recordStep p { position := w.focus, buffer := some b, contrast := none } e
      else e

/-- What a loss of the link does to port p's frames and to the sweep step that follows one (R128, R145). -/
def spoilFrames (p : Port) (e : Event) : Event := loseFrames p (sweepSpoiled p e)

/-- Port p's link becomes DARK from every state, with its effect on frames (R94, R128); a DARK link is left as it is. -/
def linkDark (p : Port) (e : Event) : Event :=
  if (e.port p).link.state = .dark then e
  else spoilFrames p (setLink p .dark (emptyHistories p (modLink p PortLink.darken e)))

/-! ## The running order (R54, R158) -/

/-- What a removal of power by a fault cut or a want of OFF does to the probe of port p (R54, R158). A probe whose hush has failed
ends LINK_LOST. -/
def cutProbe (p : Port) (e : Event) : Event :=
  match (e.port p).probe with
  | none => e
  | some r =>
    match r.phase, r.beganPowered with
    | .ending, _ => e
    | _, true => abortProbe p .aborted .powerLost e
    | .classing, false => e
    | .draining, false | .hushing, false | .claiming, false | .pulsing, false => reclass p e

/-- The Order Unit's share in a removal of power by a fault cut or a want of OFF (R54). A CYCLE is not ended. -/
def cutOrders (p : Port) (e : Event) : Event :=
  cutProbe p (endSweep p .aborted .powerLost (loseSnap p .powerLost e))

/-- The Order Unit's and the Probe Engine's share in a fall of the link (R54, R147, R155, R158). A probe whose hush has failed stays
at the head of its queue, in ENDING, until the LINK_LOST's action is reported applied (R171; log 54). -/
def fallOrders (p : Port) (e : Event) : Event :=
  let e1 := endSweep p .aborted .linkLost (loseSnap p .linkLost e)
  match (e1.port p).probe with
  | none => e1
  | some r =>
    match r.phase with
    | .draining => reclass p e1
    | .hushing => modProbe p (fun x => { x with phase := .ending }) e1
    | .classing | .claiming | .pulsing | .ending => e1

/-! ## The fall of a link (R93) -/

/-- Entry to WAKE: ASK is sent, and the ASK interval and the greeting wait start (R88, R93). -/
def askCamera (p : Port) (e : Event) : Event :=
  give p .ask (modLink p (fun l => { l with askAt := timer Config.askTime e, greetAt := timer Config.greetingTime e }) e)

/-- A fall of port p's link from TALK or HUSHING, its blocks told, and LINK_LOST raised (R93). -/
def linkFall (p : Port) (e : Event) : Event :=
  let e1 := modLink p (fun l => { l with
    silenceAt := none, hushAt := none, waiting := [], owedSetup := false, owedSleep := false }) e
  let e2 := askCamera p (emptyHistories p (setLink p .wake e1))
  handleFault p .linkLost (fallOrders p (loseLens p false (spoilFrames p e2)))

/-! ## The removal of power (R78) -/

/-- The causes of a removal. -/
inductive Removal where
  | fault | wantOff | cycle | teardown | release
deriving DecidableEq, Repr

/-- The power record's fields at a removal (R78, steps 1, 2, 5 and 6). -/
def PortPower.cut (w : PortPower) : PortPower :=
  { w with rating := none, base := 0, motion := 0, full := 0, steadyAt := none, limitAt := none, chargeAt := none
           settleAt := none, wakeAt := none, camVoltage := none }

/-- Port p's power is removed for a cause and the port moves to a state, all in one event (R78). -/
def removePower (p : Port) (why : Removal) (target : PowerState) (e : Event) : Event :=
  let freed := (e.port p).power.held
  let e1 := leaveInrush p (withdrawAll p (modPower p PortPower.cut e))
  let e2 := loseLens p true (linkDark p (setPower p target e1))
  match why with
  | .teardown | .release => e2
  | .cycle => takeStage (if freed = 0 then e2 else walk e2)
  | .fault | .wantOff =>
    let e3 := cutOrders p e2
    takeStage (if freed = 0 then e3 else walk e3)

end Sys2Proof.Machine
end

