-- ==== Sys2Proof/Machine/Power.lean ====
section
/-! DEFINITION. The Power Manager's decisions: power-up (R65), standby and wake (R74, R75), wants (R76, R77), fault actions with
retries and lockout (R79 to R81), and the measurement of a port (R70 to R72). -/

namespace Sys2Proof.Machine

/-- Mark that a change of port p's power has been held back by a running probe (R77). -/
def owe (p : Port) (e : Event) : Event := modPower p (fun w => { w with owed := true }) e

/-! ## Power-up (R65, R62) -/

/-- The declared power of the Port Sheet copy. -/
def declaredPower (q : PortState) : Nat :=
  match q.sheet with
  | some s => s.declared
  | none => 0

/-- A power-up begins: the port is WAITING and its POWER_UP claim arrives. -/
def powerUp (p : Port) (e : Event) : Event :=
  let power := declaredPower (e.port p)
  arrive { port := p, kind := .powerUp, amount := allotment p power e.toState, rating := power } (setPower p .waiting e)

/-- Power-up begins if R65 allows; one that a probe holds back is owed. -/
def offerPowerUp (p : Port) (e : Event) : Event :=
  let q := e.port p
  if q.power.state = .off ∧ wantOf q ≠ .off ∧ e.cell.mode = .run ∧ cycleRuns p e = false then
    if probeRuns p e then owe p e else powerUp p e
  else e

/-! ## Standby and wake (R74, R75) -/

/-- The camera's standby power, at least 1 dW. -/
def standbyPower (q : PortState) : Nat :=
  match q.link.identity with
  | some i => max 1 i.standbyPower
  | none => 1

/-- Entry to STANDBY: SLEEP, the standby allotment, the walk with the room freed (R74). -/
def enterStandby (p : Port) (e : Event) : Event :=
  let a := allotment p (standbyPower (e.port p)) e.toState
  let e1 := modPower p (fun w => { w with base := min a w.full }) (give p .sleep e)
  walk (setPower p .standby e1)

/-- Test the conditions of standby entry; with a probe running it is held back (R74, R77). -/
def tryStandby (p : Port) (e : Event) : Event :=
  let q := e.port p
  if q.power.state = .on ∧ q.link.state = .talk ∧ wantOf q = .standby then
    if probeRuns p e then owe p e else enterStandby p e
  else e

/-- A want of ON in STANDBY: the WAKE claim, held back while a probe runs (R75, R77). -/
def tryWake (p : Port) (e : Event) : Event :=
  if probeRuns p e then owe p e
  else arrive { port := p, kind := .wake, amount := (e.port p).power.full - (e.port p).power.base, rating := 0 } e

/-! ## Wants (R76, R77) -/

/-- A want of OFF on a powered port: power removed, or held back while a probe runs. A waiting WAKE claim is withdrawn in
either case (R64). -/
def wantPowerOff (p : Port) (e : Event) : Event :=
  if probeRuns p e then owe p (withdraw p .wake e) else removePower p .wantOff .off e

/-- The retry wait is over or abandoned: the port is OFF, its retry count kept. -/
def leaveRetry (p : Port) (e : Event) : Event :=
  setPower p .off (modPower p (fun w => { w with retryAt := none, retryEnded := false }) e)

/-- A RETRY_WAIT port whose wait has ended powers up, unless a probe still holds it (R77, R81). -/
def retryUp (p : Port) (e : Event) : Event :=
  if probeRuns p e then owe p (modPower p (fun w => { w with retryAt := none, retryEnded := true }) e)
  else offerPowerUp p (leaveRetry p e)

/-- The release of R27, which every accepted Port Sheet take makes before its want acts: a HELD port is OFF, whatever the want, during
a probe or a CYCLE hold too (R57, R76, R77). -/
def releaseHeld (p : Port) (e : Event) : Event :=
  if (e.port p).power.state = .held then setPower p .off e else e

/-- The want in the copy acts on port p by its power state (R76, R77). At a take the port has left HELD already (`releaseHeld`); a HELD
port is met by a want that a probe has held back. A want of OFF then leaves it HELD, as R79 says, and a want of ON or STANDBY acts as if it
had just arrived: OFF, then power-up (R76, R77; log 48). A CYCLE hold keeps the port as it is (R57). -/
def actOnWant (p : Port) (e : Event) : Event :=
  let q := e.port p
  match q.power.state, wantOf q with
  | .off, _ => offerPowerUp p e
  | .waiting, .off => setPower p .off (withdraw p .powerUp e)
  | .queued, .off | .inrush, .off | .settling, .off | .on, .off | .limit, .off | .standby, .off | .waking, .off =>
    wantPowerOff p e
  | .on, .standby => tryStandby p e
  | .standby, .on => tryWake p e
  | .standby, .standby => withdraw p .wake e
  | .retryWait, .off => leaveRetry p e
  | .retryWait, .on | .retryWait, .standby => if q.power.retryEnded then retryUp p e else e
  | .held, .on | .held, .standby => offerPowerUp p (releaseHeld p e)
  | .waiting, .on | .waiting, .standby | .queued, .on | .queued, .standby | .inrush, .on | .inrush, .standby
  | .settling, .on | .settling, .standby | .on, .on | .limit, .on | .limit, .standby | .waking, .on
  | .waking, .standby | .held, .off | .lockedOut, _ => e

/-! ## Fault actions (R80, R81) -/

/-- The state a CUT_RETRY leaves a powered or WAITING port in, its trip counted: the fourth trip locks out. -/
def tripState (w : PortPower) : PowerState := if 4 ≤ w.retry + 1 then .lockedOut else .retryWait

/-- Count a trip (R81). -/
def countTrip (p : Port) (e : Event) : Event := modPower p (fun w => { w with retry := min 4 (w.retry + 1) }) e

/-- Enter the state an action gives; RETRY_WAIT starts the retry timer afresh, any other state stops it. -/
def enterAction (p : Port) (st : PowerState) (e : Event) : Event :=
  setPower p st (modPower p (fun w => { w with
    retryAt := if st = .retryWait then timer Config.retryTime e else none, retryEnded := false }) e)

/-- A fault action applies to port p according to its state (R80). -/
def applyAction (p : Port) (a : Action) (e : Event) : Event :=
  let w := (e.port p).power
  match a with
  | .nothing => e
  | .cut =>
    if w.state.powered then removePower p .fault .held e
    else match w.state with
      | .waiting => enterAction p .held (withdraw p .powerUp e)
      | .retryWait | .off => enterAction p .held e
      | _ => e
  | .cutLock =>
    if w.state.powered then removePower p .fault .lockedOut e
    else match w.state with
      | .waiting => enterAction p .lockedOut (withdraw p .powerUp e)
      | .retryWait | .off | .held => enterAction p .lockedOut e
      | _ => e
  | .cutRetry =>
    let st := tripState w
    if w.state.powered then
      let e1 := removePower p .fault st (countTrip p e)
      if st = .retryWait then modPower p (fun x => { x with retryAt := timer Config.retryTime e }) e1 else e1
    else match w.state with
      | .waiting => enterAction p st (countTrip p (withdraw p .powerUp e))
      | .retryWait => enterAction p st (countTrip p e)
      | .off => enterAction p (if st = .lockedOut then .lockedOut else .off) (countTrip p e)
      | _ => e

/-- The Power Manager finds a fault: its action is applied and then it is raised (R79). -/
def powerFault (p : Port) (k : FaultKind) (e : Event) : Event :=
  handleFault p k (applyAction p (reactionOf k e.toState).action e)

/-! ## The class raise (R73) -/

/-- A HELLO's maximum power against the rating: raised if it fits the room, else OVER_CLASS. -/
def classRaise (p : Port) (maxPower : Nat) (e : Event) : Event :=
  let w := (e.port p).power
  if (w.state = .on ∨ w.state = .limit) ∧ w.rating.getD 0 < maxPower then
    let raised := allotment p maxPower e.toState
    if raised ≤ w.base + room e.toState then
      let e1 := modPower p (fun x => { x with base := raised, full := raised, rating := some maxPower }) e
      if raised < w.base then walk e1 else e1
    else powerFault p .overClass e
  else e

/-! ## Measurement (R70, R71, R72) -/

/-- Store a reading: the current less the trim, 0 when negative; both saturate at 65535 (R70). -/
def PortPower.measure (r : Reading) (w : PortPower) : PortPower :=
  { w with current := min 65535 (r.current - w.trim).toNat, voltage := min 65535 r.voltage }

/-- Judge port p's measured current for SHORT and for its limit (R71, R72). -/
def judgeCurrent (p : Port) (e : Event) : Event :=
  let w := (e.port p).power
  let watched := match w.state with
    | .settling | .on | .limit | .standby | .waking => true
    | .off | .waiting | .queued | .inrush | .retryWait | .held | .lockedOut => false
  if watched = true ∧ Config.shortCurrent < w.current then powerFault p .short e
  else if w.state = .on ∧ w.limit < w.current then
    setPower p .limit (modPower p (fun x => { x with limitAt := timer Config.limitTime e }) e)
  else if w.state = .limit ∧ w.current < w.limit then
    tryStandby p (setPower p .on (modPower p (fun x => { x with limitAt := none }) e))
  else e

end Sys2Proof.Machine
end

