-- ==== Sys2Proof/Machine/Fire.lean ====
section
/-! DEFINITION. The fire decision (R109 to R112), the claims that wait for a sweep of the pool (R121), the steps of trigger
programs (R105 to R108) and the strobe lines (R113). -/

namespace Sys2Proof.Machine

/-! ## Skips and fires -/

/-- The order reason of a skipped SNAP (R55); a skip PROBE has a free reason among the reason codes (log 15). -/
def skipReason (k : Skip) (e : Event) : Reason × Event :=
  match k with
  | .notReady => (.linkLost, e)
  | .lens | .busy | .noBuffer => (.busyTarget, e)
  | .probe => (reasons.get (Config.probeSkipReason e.free), { e with free := e.free + 1 })

/-- A SNAP is told that its decision ended as a skip (R55). -/
def snapSkipped (p : Port) (n : SlotNo) (k : Skip) (e : Event) : Event :=
  match (e.port p).snap with
  | none => e
  | some r =>
    if r.slot = n then
      let (why, e1) := skipReason k e
      endSnap p .aborted why (snapResults none none (some k)) e1
    else e

/-- A focus sweep is told that its step's decision ended as a skip: no buffer, no contrast (R145). -/
def sweepSkipped (p : Port) (n : SlotNo) (e : Event) : Event :=
  match (e.port p).sweep with
  | none => e
  | some w => if w.slot = n then recordStep p { position := w.focus, buffer := none, contrast := none } e else e

/-- The decision for port p ends as a skip: counted at once, its requester told, and the gap reported when the port has no
buffer in flight (R109, R139). -/
def skip (p : Port) (r : Requester) (k : Skip) (e : Event) : Event :=
  let e1 := modPort p (fun q => { q with skips := modAt q.skips k.index (· + 1) }) e
  let e2 := match r with
    | .snap n => snapSkipped p n k e1
    | .sweep n _ => sweepSkipped p n e1
    | .step _ _ | .trace => e1
  tellIfDrained p e2

/-- The stamp of a fire accepted now (R111). -/
def stampOf (p : Port) (r : Requester) (tag : Half) (exposure : Nat) (e : Event) : Stamp where
  port := p
  tag := tag
  step := match r with
    | .step i n => some (i, n)
    | .snap _ | .sweep _ _ | .trace => none
  time := cellTime e.toState
  exposure := exposure
  lens := (e.port p).lens.pos
  moving := (e.port p).lens.state == .moving
  sweepStep := match r with
    | .sweep _ i => some i
    | .step _ _ | .snap _ | .trace => none

/-- The SNAP or sweep that asked for the fire follows its buffer (R55, R145). -/
def fired (p : Port) (r : Requester) (tag : Half) (b : Nat) (e : Event) : Event :=
  match r with
  | .snap _ => modPort p (fun q => { q with snap := q.snap.map fun x => { x with shot := some (tag, b) } }) e
  | .sweep _ _ => modSweep p (fun w => { w with phase := .frame, shot := some (tag, b) }) e
  | .step _ _ | .trace => e

/-- A decision that holds buffer b fires: the next tag is taken, FIRE is given, and the buffer is stamped with its RESERVED
timer. Outside RUN the buffer is handed back; a refused FIRE is a skip NOT_READY (R111, R123). -/
def fire (p : Port) (r : Requester) (exposure b : Nat) (e : Event) : Event :=
  if e.cell.mode ≠ .run then tellIfDrained p (returnGiven b e)
  else
    let tag := e.trigger.nextTag
    let e1 := { e with trigger := { e.trigger with nextTag := tag + 1 } }
    let k := Packet.fire tag exposure
    if accepts p k e1 then
      let e2 := modEntry b (fun x => { x with
        stamp := some (stampOf p r tag exposure e), reservedBy := timer (exposure + Config.reservedExtra) e }) (give p k e1)
      fired p r tag b (modPort p (fun q => { q with fires := q.fires + 1 }) e2)
    else skip p r .notReady e1

/-! ## The decision (R109, R110) -/

/-- The first of conditions 1 to 3 that fails, if one does (R109). -/
def firstFailure (p : Port) (e : Event) : Option Skip :=
  let q := e.port p
  let ready := q.power.state == .on && (q.link.state == .talk || q.link.state == .hushing || q.link.state == .hush)
  let moving := q.lens.state == .staged || q.lens.state == .waitPower || q.lens.state == .moving
  if !ready then some .notReady
  else if q.link.state != .talk || probeRuns p e then some .probe
  else if holdsFrames q && moving then some .lens
  else none

/-- The fire decision for port p (R109 to R111). A claim that finds nothing asks for a sweep of the pool and waits (R121). -/
def decideFire (p : Port) (r : Requester) (exposure : Nat) (e : Event) : Event :=
  match firstFailure p e with
  | some k => skip p r k e
  | none =>
    match judgeClaim p .frame e.toState with
    | .busy => skip p r .busy e
    | .noBuffer => skip p r .noBuffer e
    | .got b => fire p r exposure b (reserve b p .frame e)
    | .nothing =>
      notice .pool { e with pool := { e.pool with
        claims := e.pool.claims ++ [{ port := p, requester := r, exposure, begun := false, status := .live }] } }

/-- The port's default exposure (log 25: 0 without a copy). -/
def defaultExposure (q : PortState) : Nat :=
  match q.sheet with
  | some s => s.exposure
  | none => 0

/-- The exposure of a request: 0 means the port's default (R42, R108, R144). -/
def exposureFor (p : Port) (v : Nat) (e : Event) : Nat := if v = 0 then defaultExposure (e.port p) else v

/-! ## Trace claims (R131) -/

/-- A trace claim finds buffer b: RESERVED and then FILLING in the same event, its report part written for each state. -/
def takeTrace (b : Nat) (p : Port) (e : Event) : Event :=
  writeBuffer b (modEntry b (fun x => { x with
    state := .filling, stamp := none, openTime := cellTime e.toState, bytes := 0, crcErrors := 0, region := none, data := []
    width := 0, height := 0, pending := .complete, reservedBy := none, silenceBy := none }) (reserve b p .trace e))

/-- The answer to the trace claim of port p's probe (R156). -/
def traceAnswer (p : Port) (t : TraceClaim) (e : Event) : Event :=
  tell (.probe p) (modProbe p (fun r => { r with trace := t }) e)

/-- A probe claims its trace buffer (R131, R156). -/
def claimTrace (p : Port) (e : Event) : Event :=
  match judgeClaim p .trace e.toState with
  | .busy | .noBuffer => traceAnswer p .omitted e
  | .got b => traceAnswer p (.got b) (takeTrace b p e)
  | .nothing =>
    notice .pool (modProbe p (fun r => { r with trace := .waiting }) { e with pool := { e.pool with
      claims := e.pool.claims ++ [{ port := p, requester := .trace, exposure := 0, begun := false, status := .live }] } })

/-! ## The second judgement (R121) -/

/-- A claim no decision acts on is answered: a buffer in the answer is handed back; a SNAP or sweep ended by a loss, or a sweep
ended by a greeting again in TALK, still counts the skip and never fires (R110, R111; log 22, log 70). The trace claim of a probe that has been aborted is answered in the same way: the buffer found
is RESERVED with kind TRACE and at once GIVEN again, never FILLING (log 66). -/
def rejudgeDropped (c : BufClaim) (k : BufKind) (e : Event) : Event :=
  let count (why : Skip) (x : Event) : Event :=
    if c.status = .orphan then skip c.port .trace why x else x
  match judgeClaim c.port k e.toState with
  | .got b => tellIfDrained c.port (returnGiven b (reserve b c.port k e))
  | .busy => count .busy e
  | .noBuffer | .nothing => count .noBuffer e

/-- Judge one waiting claim again; still nothing is NO_BUFFER. -/
def rejudgeClaim (c : BufClaim) (e : Event) : Event :=
  match c.requester, c.status with
  | .trace, .live =>
    match judgeClaim c.port .trace e.toState with
    | .got b => traceAnswer c.port (.got b) (takeTrace b c.port e)
    | .busy | .noBuffer | .nothing => traceAnswer c.port .omitted e
  | .trace, _ => rejudgeDropped c .trace e
  | r, .live =>
    match judgeClaim c.port .frame e.toState with
    | .got b => fire c.port r c.exposure b (reserve b c.port .frame e)
    | .busy => skip c.port r .busy e
    | .noBuffer | .nothing => skip c.port r .noBuffer e
  | _, _ => rejudgeDropped c .frame e

/-- The pool sweep that the begun claims asked for has ended: they are judged again in the order in which they arrived. -/
def rejudgeClaims (e : Event) : Event :=
  let due' := e.pool.claims.filter (·.begun)
  due'.foldl (fun acc c => rejudgeClaim c acc)
    { e with pool := { e.pool with claims := e.pool.claims.filter fun c => !c.begun } }

/-! ## Strobe lines (R113) -/

/-- Light a line for a width from now: the later of its present end time and this one. -/
def lightLine (width : Nat) (l : LineNo) (e : Event) : Event :=
  { e with trigger := { e.trigger with
      strobes := modAt e.trigger.strobes l fun t => some (max (t.getD 0) (e.clock + width)) } }

/-- The strobe lines in ascending number. -/
def allLines : List LineNo := [0, 1, 2, 3]

/-- Light every line of a step's strobe set. -/
def lightStep (x : ProgStep) (e : Event) : Event :=
  (allLines.filter fun l => x.strobes.getLsbD l.val).foldl (fun acc l => lightLine x.width l acc) e

/-! ## Steps and runs (R106 to R108) -/

/-- Is port p in the step's port set and a member of program i? -/
def firesPort (i : ProgNo) (x : ProgStep) (e : Event) (p : Port) : Bool :=
  x.ports.getLsbD p.val &&
  (match (e.port p).sheet with
   | some s => s.members.getLsbD i.val
   | none => false)

/-- Program i reaches its step n: strobes, fire decisions in ascending port number, then the next step index; after the last
step the program is ARMED (R107, R108). -/
def reachStep (i : ProgNo) (n : Nat) (x : ProgStep) (e : Event) : Event :=
  let e1 := lightStep x e
  let e2 := forPorts (allPorts.filter (firesPort i x e1)) (fun p acc => decideFire p (.step i n) (exposureFor p x.exposure acc) acc) e1
  modProgram i (fun g => { g with
    nextStep := n + 1, state := if n + 1 < g.record.steps.length then .running else .armed }) e2

/-- Reach, in list order from step n on, the steps with offset 0: they are reached in the event that starts the run. -/
def reachFirst (i : ProgNo) : List ProgStep → Nat → Event → Event
  | [], _, e => e
  | x :: xs, n, e => if x.offset = 0 then reachFirst i xs (n + 1) (reachStep i n x e) else e

/-- A source event comes to program i (R106). A run without steps begins and ends in this event. -/
def sourceEvent (i : ProgNo) (e : Event) : Event :=
  let g := e.trigger.programs.get i
  match g.state with
  | .disarmed => e
  | .running => modProgram i (fun x => { x with overruns := x.overruns + 1 }) e
  | .armed =>
    if g.record.steps.isEmpty then e
    else reachFirst i g.record.steps 0
      (modProgram i (fun x => { x with state := .running, runStart := e.clock, nextStep := 0 }) e)

/-- The four programs in ascending number. -/
def allProgs : List ProgNo := [0, 1, 2, 3]

/-- Do `f` for each program, in order. -/
def forProgs (f : ProgNo → Event → Event) (e : Event) : Event := allProgs.foldl (fun acc i => f i acc) e

/-- An edge of TRIG_IN is a source event to every ARMED or RUNNING program of its kind (R106). -/
def lineEvent (rise : Bool) (i : ProgNo) (e : Event) : Event :=
  let k := (e.trigger.programs.get i).record.source
  if (rise ∧ k = .lineRise) ∨ (rise = false ∧ k = .lineFall) then sourceEvent i e else e

/-- An advance of the encoder count is a source event to every ENCODER program whose target it meets; the target then
advances by n (R106). -/
def encoderEvent (i : ProgNo) (e : Event) : Event :=
  let g := e.trigger.programs.get i
  if g.record.source = .encoder ∧ g.target = some e.trigger.encCount then
    sourceEvent i (modProgram i (fun x => { x with
      target := some (e.trigger.encCount + BitVec.ofNat 32 x.record.spacing) }) e)
  else e

/-! ## Arming (R105) -/

/-- The program disarmed: its timer, target and pending steps dropped, its overrun count kept. -/
def Program.disarm (g : Program) : Program :=
  { g with state := .disarmed, nextEvent := none, target := none, nextStep := 0 }

/-- The program armed from a record at a time and an encoder count. -/
def Program.arm (x : ProgRec) (now : Nat) (count : Word) (g : Program) : Program :=
  { g with state := .armed, record := x, overruns := 0, nextStep := 0
           nextEvent := if x.source = .timer then some (now + x.period) else none
           target := if x.source = .encoder then some (count + BitVec.ofNat 32 x.spacing) else none }

/-- Disarm program i and drop the fire decisions of its reached steps that still wait (R105, R111). -/
def disarmProgram (i : ProgNo) (e : Event) : Event :=
  markClaims (Requester.isStep i) .dropped (modProgram i Program.disarm e)

end Sys2Proof.Machine
end

