-- ==== Sys2Proof/Machine/LensMoves.lean ====
section
/-! DEFINITION. The Lens Controller's rules: testing a staged want (R140), judging a waiting claim again (R141), the host's
wants (R138), the set-up at HELLO (R136), reported positions (R137) and the end of a move (R142). -/

namespace Sys2Proof.Machine

/-! ## From staged want to claim (R140, R141) -/

/-- The lens becomes WAIT_POWER and its LENS_MOTION claim arrives. -/
def claimMotion (p : Port) (e : Event) : Event := arrive (lensClaim p e) (setLens p .waitPower e)

/-- A claim that stands only for the walk its arrival starts: not granted, it is withdrawn in the same event and the lens
stays STAGED. -/
def claimOnce (p : Port) (e : Event) : Event :=
  let e1 := arrive (lensClaim p e) (modLens p (fun r => { r with state := .waitPower }) e)
  if (e1.port p).lens.state = .waitPower then
    withdraw p .lensMotion (modLens p (fun r => { r with state := .staged }) e1)
  else e1

/-- Does a focus sweep hold back the want that is staged? -/
def heldBack (q : PortState) : Bool := q.sweep.isSome && q.lens.stagedBy == .sheet

/-- Test a STAGED lens (R140). -/
def lensTest (p : Port) (e : Event) : Event :=
  let q := e.port p
  if q.lens.state = .staged ∧ q.link.state = .talk ∧ probeRuns p e = false ∧ heldBack q = false then
    if holdsFrames q then (if frameGap p e.toState then claimMotion p e else e)
    else if q.lens.stagingMark then claimMotion p e
    else if frameGap p e.toState then claimOnce p e
    else e
  else e

/-- The claim is withdrawn and the lens returns to STAGED, to be tested at once; its staging timer runs on (R141). -/
def unclaim (p : Port) (e : Event) : Event := tell (.lens p) (setLens p .staged (withdraw p .lensMotion e))

/-- Judge a WAIT_POWER lens again (R141). -/
def rejudgeLens (p : Port) (e : Event) : Event :=
  let q := e.port p
  if q.lens.state = .waitPower then
    if (holdsFrames q = true ∧ frameGap p e.toState = true) ∨ (holdsFrames q = false ∧ q.lens.stagingMark = true) then e
    else unclaim p e
  else e

/-- A probe begins on the port: a waiting claim is always withdrawn (R141). -/
def lensProbeBegins (p : Port) (e : Event) : Event :=
  if (e.port p).lens.state = .waitPower then unclaim p e else e

/-! ## The host's wants (R138) -/

/-- The want a take forms, and the record with its clamped flag, last sheet want and position source (R138). Step 4 compares the
focus that step 2 has clamped with the last sheet want, which step 5 keeps as it was handed over (log 71). -/
def LensRec.formWant (w : Axes) (r : LensRec) : Axes × LensRec :=
  let w2 := r.fitWant w
  let w4 : Axes := if r.fromSweep ∧ w2.focus.isSome ∧ w2.focus = r.lastWant.focus then { w2 with focus := none } else w2
  let w6 := w4.unlike r.pos
  (w6, { r with clamped := w2 != w, lastWant := w, fromSweep := r.fromSweep && w6.focus.isNone })

/-- An accepted Port Sheet take hands over its lens want, which replaces what an earlier take staged (R138, R144). -/
def takeWant (p : Port) (w : Axes) (e : Event) : Event :=
  let (want, rec') := (e.port p).lens.formWant w
  let e1 := modLens p (fun _ => rec') e
  if (e.port p).sweep.isSome then rejudgeLens p (modLens p (fun r => { r with held := want }) e1)
  else
    let replaced := modLens p (fun r => { r with staged := want, stagedBy := .sheet }) e1
    match rec'.state with
    | .absent => e1
    | .unknown | .moving => replaced
    | .idle | .stuck => if want.isEmpty then replaced else stage p want .sheet e1
    | .staged => if want.isEmpty then setLens p .idle (modLens p LensRec.unstage e1) else replaced
    | .waitPower =>
      if want.isEmpty then setLens p .idle (withdraw p .lensMotion (modLens p LensRec.unstage e1))
      else rejudgeLens p replaced

/-! ## HELLO (R136) -/

/-- The lens record a HELLO sets up (R136, steps 1 to 5), its move and claim having been dealt with. The want kept is served by SHEET
from then on, also one that a sweep had staged (log 55). -/
def LensRec.greet (k : LensKind) (h : HelloPacket) (r : LensRec) : LensRec :=
  let r1 := { r with
    kind := some k
    focusLimits := { low := h.focusLow.toNat, high := h.focusHigh.toNat }
    irisLimits := { low := h.irisLow.toNat, high := h.irisHigh.toNat }
    zoomLimits := { low := h.zoomLow.toNat, high := h.zoomHigh.toNat }
    staged := r.wantAfterLoss, stagedBy := .sheet, move := none, stagingAt := none, stagingMark := false
    stuckAt := none, pos := Axes.none, fromSweep := false }
  let staged := r1.fitWant r1.staged
  let held := r1.fitWant r1.held
  { r1 with staged, held, clamped := r1.clamped || staged != r1.staged || held != r1.held }

/-- A HELLO sets up port p's lens: ABSENT for kind NONE, else UNKNOWN. A move that a greeting again breaks off is no end of a move
at which a DRAINING probe tests for its gap (log 64). -/
def greetLens (p : Port) (k : LensKind) (h : HelloPacket) (e : Event) : Event :=
  setLens p (if k = .none then .absent else .unknown)
    (releaseMotion p (withdraw p .lensMotion (modLens p (LensRec.greet k h) e)))

/-! ## Reported positions (R137, R142) -/

/-- Positions are taken. -/
def takeReport (p : Port) (l : LensPacket) (e : Event) : Event :=
  modLens p (fun r => { r with pos := r.takePositions l }) e

/-- The end of a move (R142): positions, timers, the allotment, the targets, the position source, then IDLE or STAGED. The
sweep and the probe of the port are told. -/
def endMove (p : Port) (l : LensPacket) (e : Event) : Event :=
  let best := match (e.port p).lens.move with
    | some m => m.best
    | none => false
  let e1 := releaseMotion p (modLens p (fun r => { r with stuckAt := none }) (takeReport p l e))
  let e2 := modLens p (fun r => { r with move := none, fromSweep := r.fromSweep || best }) e1
  tell (.moveEnded p) (tell (.sweep p) (settleLens p e2))

/-- A LENS_STATE that the Link Controller passes on (R137). -/
def lensReport (p : Port) (l : LensPacket) (e : Event) : Event :=
  match (e.port p).lens.state with
  | .absent => e
  | .unknown => if l.moving = 0 then tell (.sweep p) (settleLens p (takeReport p l e)) else e
  | .idle | .staged | .waitPower => takeReport p l e
  | .moving => if l.moving = 0 then endMove p l e else takeReport p l e
  | .stuck => if l.moving = 0 then settleLens p (takeReport p l e) else takeReport p l e

/-- The stuck timer has expired in MOVING: STUCK, the allotment released, and LENS_STUCK raised. A sweep waiting for the
move ends ABORTED TIMEOUT (R142, R144, R147). By the model's choice this counts as an end of the move at which a DRAINING probe tests
for its gap (R155; log 72). -/
def stuckLens (p : Port) (e : Event) : Event :=
  let e1 := setLens p .stuck (releaseMotion p (modLens p (fun r => { r with stuckAt := none, move := none }) e))
  handleFault p .lensStuck (tell (.moveEnded p) (endSweep p .aborted .timeout e1))

end Sys2Proof.Machine
end

