-- ==== Sys2Proof/Machine/Work.lean ====
section
/-! DEFINITION. The work of the queues' heads: the focus sweep step by step (R144 to R146), the probe phase by phase (R153 to R157),
SNAP and CYCLE at their beginning (R55, R57), the beginning of a head (R52), and the end of an event: its agenda worked off
and its port reports rewritten. -/

namespace Sys2Proof.Machine

/-! ## Focus sweep (R144, R145, R146) -/

/-- The position of step i: truncated toward zero, then clamped to the camera's focus limits (R145). -/
def stepPosition (q : SweepParams) (i : Nat) (l : Limits) : Nat :=
  l.clamp ((q.first : Int) + ((i : Int) * ((q.last : Int) - q.first)).tdiv ((q.count : Int) - 1)).toNat

/-- A focus sweep before its first step. -/
def newSweep (n : SlotNo) (params : SweepParams) : SweepRun :=
  { slot := n, params, index := 0, phase := .choose, focus := 0, shot := none, steps := [] }

/-- Judge a sweep that begins and take its hold on sheet wants (R144). -/
def beginSweep (p : Port) (n : SlotNo) (params : SweepParams) (e : Event) : Event :=
  let q := e.port p
  let r := q.lens
  if (match q.sheet with | some s => s.region.isNone | none => true) = true then endOrder p n .refused .noRegion [] e
  else match r.kind with
  | none => endOrder p n .aborted .linkLost [] e
  | some .none => removeHead p (finishSlot n .refused .badValue 3 [] e)
  | some _ =>
    if r.state = .stuck then endOrder p n .aborted .timeout [] e
    else
      let e1 := if r.state = .waitPower then withdraw p .lensMotion e else e
      let want : Axes := if params.goBest then { r.staged with focus := none } else r.staged
      let e2 := modLens p (fun x => { x.unstage with held := want, fromSweep := x.fromSweep || params.goBest }) e1
      let e3 := if r.state = .staged ∨ r.state = .waitPower then setLens p .idle e2 else e2
      tell (.sweep p) (modPort p (fun y => { y with sweep := some (newSweep n params) }) e3)

/-- The sweep's step fires: the lens record's focus is recorded and the fire decision begins (R145). -/
def fireStep (p : Port) (w : SweepRun) (e : Event) : Event :=
  let focus := (e.port p).lens.pos.focus.getD 0
  decideFire p (.sweep w.slot w.index) (exposureFor p w.params.exposure e)
    (modSweep p (fun x => { x with phase := .deciding, focus }) e)

/-- Stage a focus target served by the sweep. -/
def stageFocus (p : Port) (target : Nat) (ph : SweepPhase) (e : Event) : Event :=
  stage p { focus := some target, iris := none, zoom := none } .sweep (modSweep p (fun x => { x with phase := ph }) e)

/-- All steps have ended: the best step is chosen and, with go to best set, moved to (R146). -/
def concludeSweep (p : Port) (w : SweepRun) (e : Event) : Event :=
  match bestStep w.steps 0 none with
  | none => endSweep p .done .none (modLens p (fun r => { r with fromSweep := false }) e)
  | some (_, x, _) =>
    if w.params.goBest ∧ (e.port p).lens.pos.focus ≠ some x.position then stageFocus p x.position .best e
    else endSweep p .done .none e

/-- Is the stop mark of slot n's order set (R45)? -/
def stopMarked (n : SlotNo) (e : Event) : Bool := (e.slots.get n).stopMark

/-- The sweep of port p goes on as far as it can (R145, R146). -/
def advanceSweep (p : Port) (e : Event) : Event :=
  match (e.port p).sweep with
  | none => e
  | some w =>
    let st := (e.port p).lens.state
    match w.phase with
    | .choose =>
      if stopMarked w.slot e then endSweep p .cancelled .cancelledByOrder e
      else if w.params.count ≤ w.index then concludeSweep p w e
      else if st = .moving ∨ st = .unknown then e
      else
        let target := stepPosition w.params w.index (e.port p).lens.focusLimits
        if (e.port p).lens.pos.focus = some target then fireStep p w e else stageFocus p target .moving e
    | .moving => if st = .idle then fireStep p w e else e
    | .best =>
      if st = .idle then
        if stopMarked w.slot e then endSweep p .cancelled .cancelledByOrder e else endSweep p .done .none e
      else e
    | .deciding | .frame => e

/-! ## SNAP and CYCLE at their beginning (R55, R57) -/

/-- A SNAP begins with its fire decision. -/
def beginSnap (p : Port) (n : SlotNo) (exposure : Nat) (e : Event) : Event :=
  decideFire p (.snap n) (exposureFor p exposure e)
    (modPort p (fun q => { q with snap := some { slot := n, shot := none, opened := false } }) e)

/-- A CYCLE begins: the state found is recorded, the port made OFF unless HELD or LOCKED_OUT, and the hold runs. -/
def beginCycle (p : Port) (n : SlotNo) (e : Event) : Event :=
  let found := (e.port p).power.state
  let run : CycleRun := { slot := n, found, holdEnd := e.clock + Config.cycleHold }
  let e1 := modPort p (fun q => { q with cycle := some run }) e
  if found.powered then removePower p .cycle .off e1
  else match found with
    | .waiting => setPower p .off (withdraw p .powerUp e1)
    | .retryWait => leaveRetry p e1
    | _ => e1

/-- A CYCLE ends with the state it found, and an OFF port is handed back to act on its want (R57). -/
def endCycle (p : Port) (st : SlotState) (why : Reason) (e : Event) : Event :=
  match (e.port p).cycle with
  | none => e
  | some c =>
    let e1 := endOrder p c.slot st why (cycleResults c.found) (modPort p (fun q => { q with cycle := none }) e)
    if (e1.port p).power.state = .off then actOnWant p e1 else e1

/-! ## Probe (R153 to R157) -/

/-- The settings fixed when a probe begins (R153). -/
def newProbe (p : Port) (job : ProbeJob) (c : CellSheet) (e : Event) : ProbeRun :=
  let q := e.port p
  { job, phase := .classing, window := c.window, echoThreshold := c.echoThreshold, openLevel := c.openLevel
    shortLevel := c.shortLevel, velocity := q.cable.velocity.getD c.velocityDefault, length := q.cable.length
    joints := q.cable.joints, baseline := q.cable.baseline, beganPowered := q.power.base != 0
    readyBy := timer Config.readyTime e, trace := .unasked, path := none, sets := [] }

/-- Why a probe is refused at its beginning, if it is (R153, R163, R164). -/
def probeRefusal (p : Port) (job : ProbeJob) (requireRef force : Bool) (e : Event) : Option Reason :=
  let c := (e.port p).cable
  if !e.cell.standing then some .wrongMode
  else match job with
  | .order _ _ => if requireRef && c.baseline.isEmpty && c.length.isNone then some .noReference else none
  | .learn _ =>
    if breaksActive p e.faults.log && !(e.page.service == .opened && force) then some .breaksActive else none
  | .auto => none

/-- A probe begins (R153). The Lens Controller is told as the entry is handed over (R141). -/
def beginProbe (p : Port) (job : ProbeJob) (requireRef force : Bool) (e : Event) : Event :=
  let e1 := lensProbeBegins p e
  match probeRefusal p job requireRef force e1, e1.cell.sheet with
  | none, some c =>
    tell (.probe p) (modPort p (fun q => { q with probe := some (newProbe p job c e1) }) e1)
  | why, _ =>
    let (path, e2) := pathField none e1
    match job with
    | .order n _ | .learn n =>
      endOrder p n .refused (why.getD .wrongMode) (earlyResults job .unasked path) (tell (.lens p) e2)
    | .auto => removeHead p (tell (.lens p) e2)

/-- A hush request (R96): granted in TALK, HUSH placed behind the packets waiting and the link HUSHING. -/
def requestHush (p : Port) (e : Event) : Event :=
  if accepts p .hush e then
    let e1 := modProbe p (fun r => { r with phase := .hushing, readyBy := none }) e
    setLink p .hushing (emptyHistories p (modLink p (fun l => { enqueue .hush l with silenceAt := none }) e1))
  else reclass p e

/-- In DRAINING: at a frame gap with the lens not MOVING, the hush is requested (R155). -/
def drainTest (p : Port) (e : Event) : Event :=
  if frameGap p e.toState = true ∧ (e.port p).lens.state ≠ .moving then requestHush p e else e

/-- A frame gap is reported, or a lens move has ended: a probe in DRAINING tests (R155). -/
def drainIfDraining (p : Port) (e : Event) : Event :=
  match (e.port p).probe with
  | some r => if r.phase = .draining then drainTest p e else e
  | none => e

/-- Into CLAIMING on a path; the ready limit stops (R154, R155). -/
def toClaiming (p : Port) (path : ProbePath) (e : Event) : Event :=
  tell (.probe p) (modProbe p (fun r => { r with phase := .claiming, path := some path, readyBy := none }) e)

/-- Class the port (R154): TALK drains, DARK and settled unpowered pulses dark, anything else waits. A probe that has come back to
CLASSING with its stop mark already set, its port's power having been cut, is classed like any other and ends on the mark in
CLAIMING (log 68). -/
def classPort (p : Port) (e : Event) : Event :=
  let q := e.port p
  match q.link.state, q.power.state with
  | .talk, _ => drainTest p (modProbe p (fun r => { r with phase := .draining }) e)
  | .dark, .off | .dark, .retryWait | .dark, .held | .dark, .lockedOut => toClaiming p .dark e
  | _, _ => e

/-- The stop mark of a probe's order; an internal probe has none. -/
def probeStopped (job : ProbeJob) (e : Event) : Bool :=
  match job with
  | .order n _ | .learn n => stopMarked n e
  | .auto => false

/-- In CLAIMING: the trace claim is made once and its answer awaited; then the probe pulses, or ends on its stop mark (R156,
R158). -/
def claimPhase (p : Port) (r : ProbeRun) (e : Event) : Event :=
  match r.trace with
  | .waiting => e
  | .unasked =>
    if r.job.asksTrace then claimTrace p e
    else if probeStopped r.job e then abortProbe p .cancelled .cancelledByOrder e
    else modProbe p (fun x => { x with phase := .pulsing }) e
  | .got _ | .omitted =>
    if probeStopped r.job e then abortProbe p .cancelled .cancelledByOrder e
    else modProbe p (fun x => { x with phase := .pulsing }) e

/-- The probe of port p goes on as far as it can. One in DRAINING waits: it tests on entering that phase (classPort) and is told of
each gap and each end of a lens move (drainIfDraining), and at nothing else (R155). -/
def advanceProbe (p : Port) (e : Event) : Event :=
  match (e.port p).probe with
  | none => e
  | some r =>
    match r.phase with
    | .classing => classPort p e
    | .hushing =>
      if (e.port p).link.state = .hush then
        if probeStopped r.job e then abortProbe p .cancelled .cancelledByOrder (modProbe p (fun x => { x with path := some .hushed }) e)
        else toClaiming p .hushed e
      else e
    | .claiming => claimPhase p r e
    | .draining | .pulsing | .ending => e

/-! ## The end of a probe's pulsing (R157, R163, R164, R165) -/

/-- Raise a fault once for each new record (R178). -/
def raiseEach (p : Port) (k : FaultKind) : Nat → Event → Event
  | 0, e => e
  | n + 1, e => raiseEach p k n (handleFault p k e)

/-- The findings of a completed PROBE or internal probe go to the break log, and BREAK_FOUND is raised for each new record;
the answers are the record numbers (R163, R176 to R180). -/
def reportFindings (p : Port) (r : ProbeRun) (findings : List Finding) (e : Event) : List (Option Nat) × Event :=
  let g := probeUpdate p (cellTime e.toState) e.trigger.motion (!r.baseline.isEmpty) r.length.isSome findings e.faults.log
  (g.answers, raiseEach p .breakFound g.made.length (takeLog g e))

/-- A PROBE or internal probe completes: its results and the event after step 3 of R157. -/
def completeProbe (p : Port) (r : ProbeRun) (asked : Bool) (echoes : List Echo) (e : Event) : List Byte × Event :=
  let (findings, unseen) := judgeEchoes r echoes
  let (answers, e1) := reportFindings p r findings e
  let path := match r.path with | some x => x.code | none => 0
  (probeResults r.velocity echoes (findings.zip answers) r.trace.buffer (asked && r.trace.buffer.isNone)
    (!r.hasReference) path r.velocity unseen, e1)

/-- The cable record a completed LEARN writes (R165). -/
def learnRecord (r : ProbeRun) (sets : List (List Echo)) (now : Addr) (q : PortState) : CableRec :=
  let c := { q.cable with baseline := learnedBaseline sets, state := .learned, learnTime := some now }
  match r.path with
  | some .hushed =>
    { c with powered := true, loop := (learnedLoop q.power).or c.loop
             serial := match q.link.identity with | some i => some i.serial | none => c.serial }
  | _ => { c with powered := false }

/-- The outcome of a LEARN judged after its fourth set: state, reason, results, and the event after step 3 (R164, R165). -/
def completeLearn (p : Port) (r : ProbeRun) (sets : List (List Echo)) (e : Event) :
    SlotState × Reason × List Byte × Event :=
  let first := sets.headD []
  if first.isEmpty then (.refused, .noReference, learnCounts sets, e)
  else if !(sets.all (steadyWith first)) then (.refused, .unsteady, learnCounts sets, e)
  else
    let q := e.port p
    let hushed := r.path == some .hushed
    let path := match r.path with | some x => x.code | none => 0
    (.done, .none,
     learnResults r.velocity (learnedBaseline sets) (greatestDrift sets) path (if hushed then learnedLoop q.power else none),
     modPort p (fun x => { x with cable := learnRecord r sets (cellTime e.toState) x }) e)

/-- The pulsing of port p's probe is complete: resume, trace, findings or record, report (R157). -/
def finishProbe (p : Port) (r : ProbeRun) (sets : List (List Echo)) (e : Event) : Event :=
  let e1 := deliverTrace r.trace true (resume p e)
  match r.job with
  | .order _ asked =>
    let (results, e2) := completeProbe p r asked (sets.headD []) e1
    reportEnd p r.job .done .none results e2
  | .auto =>
    let (results, e2) := completeProbe p r false (sets.headD []) e1
    reportEnd p r.job .done .none results e2
  | .learn _ =>
    let (st, why, results, e2) := completeLearn p r sets e1
    reportEnd p r.job st why results e2

/-! ## The head of a queue (R52) -/

/-- The order at the head begins to run and is handed to its block. The port report part is rewritten at once, also for a head that has
waited for a CABLE_LOAD and begins without a change of head (log 60). -/
def beginOrder (p : Port) (n : SlotNo) (o : Order) (e : Event) : Event :=
  match o with
  | .snap _ v => beginSnap p n v (touch p (runSlot n e))
  | .cycle _ => beginCycle p n (touch p (runSlot n e))
  | .sweep _ params => beginSweep p n params (touch p (runSlot n e))
  | .probe _ trace requireRef =>
    if loadRuns p e.toState then e else beginProbe p (.order n trace) requireRef false (touch p (runSlot n e))
  | .learn _ force =>
    if loadRuns p e.toState then e else beginProbe p (.learn n) false force (touch p (runSlot n e))
  | _ => e

/-- The head of p's queue begins, if it does not run already and its kind may begin (R52). -/
def beginHead (p : Port) (e : Event) : Event :=
  match (e.port p).queue with
  | [] => e
  | .probe :: _ => if probeRuns p e || loadRuns p e.toState then e else beginProbe p .auto false false e
  | .order n :: _ =>
    let x := e.slots.get n
    match x.state, x.order with
    | .queued, some o => beginOrder p n o e
    | _, _ => e

/-! ## The end of an event -/

/-- The change of power held back by the probe that has ended is made with the want then in the copy (R77). -/
def actOnOwed (p : Port) (e : Event) : Event :=
  if (e.port p).power.owed then actOnWant p (modPower p (fun w => { w with owed := false }) e) else e

/-- Carry out one task of the agenda. A gap is told to the lens and to a draining probe, the end of a move to the latter (R140,
R155). -/
def perform (t : Task) (e : Event) : Event :=
  match t with
  | .begin p => beginHead p e
  | .gap p => drainIfDraining p (lensTest p e)
  | .moveEnded p => drainIfDraining p e
  | .lens p => lensTest p e
  | .sweep p => advanceSweep p e
  | .probe p => advanceProbe p e
  | .owed p => actOnOwed p e

/-- Work off the agenda, first in, first out, in at most n tasks. -/
def drain : Nat → Event → Event
  | 0, e => { e with agenda := [] }
  | n + 1, e =>
    match e.agenda with
    | [] => e
    | t :: ts => drain n (perform t { e with agenda := ts })

/-- The bound on the tasks of one event; no event comes near it. -/
def agendaBound : Nat := 10000

/-- Rewrite the report part of every port marked, in ascending number (R28). -/
def flush (e : Event) : Event :=
  { forPorts (allPorts.filter fun p => e.touched.contains p) reportPort e with touched := [] }

/-- An event's end: its agenda worked off and its port reports rewritten. -/
def finish (e : Event) : Event := flush (drain agendaBound e)

/-- The beginning of an event. -/
def Event.of (s : State) : Event := { toState := s, agenda := [], touched := [] }

/-- The state after an event. -/
def after (f : Event → Event) (s : State) : State := (finish (f (Event.of s))).toState

/-- Is the part powered, and not held in a line reset (R182)? -/
def live (s : State) : Bool := s.powered && !s.resetHeld

/-- What a command's meaning answers: the state after its event; a part that is unpowered or held in reset is left as it
is. -/
def act (f : Event → Event) (s : State) : Host.Outcome State Fault Refusal := .next (if live s then after f s else s)

end Sys2Proof.Machine
end

