-- ==== Sys2Proof/Machine/Teardown.lean ====
section
/-! DEFINITION. The ways out of RUN and the page's hand-off: the teardown of HALT and CELL_CHECK (R31, R32), the page release
(R5, R36) and the page take (R2 to R4). -/

namespace Sys2Proof.Machine

/-! ## Shares common to HALT, CELL_CHECK and page release -/

/-- The budget in force is 0 and no claim, queue entry or stage is left (R61, R82). -/
def emptyBudget (e : Event) : Event := { e with budget := Budget.reset }

/-- The Power Manager's share for one port: a powered port loses its power, WAITING and RETRY_WAIT become OFF, and the held
back change is forgotten (R32, R82). -/
def powerDown (why : Removal) (p : Port) (e : Event) : Event :=
  let st := (e.port p).power.state
  let e1 := modPower p (fun w => { w with owed := false }) e
  if st.powered then removePower p why .off e1
  else match st with
    | .waiting | .retryWait => leaveRetry p e1
    | _ => e1

/-- The Pool Manager's share for one buffer: FILLING is delivered SPOILED, RESERVED returns to GIVEN (R32, R134). -/
def poolShare (b : Nat) (e : Event) : Event :=
  match e.pool.entries[b]? with
  | none => e
  | some x =>
    match x.state with
    | .filling => deliver b .spoiled e
    | .reserved => returnGiven b e
    | .out | .given => e

/-- All programs DISARMED (R32, R36). -/
def disarmAll (e : Event) : Event := forProgs (fun i x => modProgram i Program.disarm x) e

/-- Every waiting claim is answered as the tracker stands, in the order of arrival. A fire decision has been dropped with the mode
change; a trace claim takes the buffer it finds, which the Pool Manager's share then delivers SPOILED (R32, R111, R132, R134; log 22). -/
def answerClaims (e : Event) : Event :=
  e.pool.claims.foldl (fun acc c =>
      rejudgeClaim (if c.requester = .trace then c else { c with status := .dropped }) acc)
    { e with pool := { e.pool with claims := [] } }

/-- What runs on port p is over. -/
def clearRuns (p : Port) (e : Event) : Event :=
  modPort p (fun q => { q with snap := none, cycle := none, sweep := none, probe := none, queue := [] }) e

/-! ## HALT and CELL_CHECK (R31, R32, R34) -/

/-- The results of the order that runs on port p at a HALT, the focus sweep's hold on wants being released. -/
def haltedResults (p : Port) (e : Event) : List Byte × Event :=
  let q := e.port p
  match q.snap, q.cycle, q.sweep, q.probe with
  | some r, _, _, _ => (r.results, e)
  | _, some c, _, _ => (cycleResults c.found, e)
  | _, _, some w, _ =>
    let e1 := releaseWants p e
    (sweepResults w.steps (e1.port p).lens.pos.focus, e1)
  | _, _, _, some r =>
    match r.job with
    | .auto => ([], e)
    | .order _ _ | .learn _ =>
      let (path, e1) := pathField r.path e
      (earlyResults r.job r.trace path, e1)
  | none, none, none, none => ([], e)

/-- An entry of the queue ends ABORTED HALTED, one still QUEUED with all result bytes zero (log 46); an internal probe is removed without any writing. -/
def haltEntry (results : List Byte) (x : QEntry) (e : Event) : Event :=
  match x with
  | .probe => e
  | .order n => finishSlot n .aborted .halted 0 (if (e.slots.get n).state = .running then results else []) e

/-- The Order Unit's share for port p: the running order and then every QUEUED one, in queue order (R32). -/
def haltQueue (p : Port) (e : Event) : Event :=
  let entries := (e.port p).queue
  let (results, e1) := haltedResults p e
  let e2 := clearRuns p (entries.foldl (fun acc x => haltEntry results x acc) e1)
  if entries.isEmpty then e2 else touch p e2

/-- The teardown of HALT and CELL_CHECK, the mode having been set; the Power Manager's share comes in the event of the mode
change, and the links, frames and lenses follow the removals of power (R31, R32). -/
def teardown (e : Event) : Event :=
  let e1 := forPorts allPorts (powerDown .teardown) (emptyBudget e)
  let e2 := forPorts allPorts haltQueue (answerClaims (disarmAll e1))
  let e3 := forEntries poolShare e2
  { e3 with trigger := { e3.trigger with seenHigh := false, seenLow := false } }

/-- Leave RUN for CONFIGURE with a cause, the re-check period stopped. -/
def leaveRun (why : Cause) (e : Event) : Event :=
  { e with cell := { e.cell with mode := .configure, cause := some why, recheckAt := none } }

/-! ## Page release (R5, R36, R58, R82, R100, R114, R134, R149, R166) -/

/-- A slot after a release: IDLE, its taken hand and answer count kept. -/
def Slot.release (x : Slot) : Slot := { Slot.reset with takenHand := x.takenHand, answerCount := x.answerCount }

/-- A power record after a release: HELD is OFF, LOCKED_OUT keeps its state and its retry count. -/
def PortPower.release (w : PortPower) : PortPower :=
  if w.state = .lockedOut then { w with trim := 0, trimClamped := false, owed := false }
  else { w with state := .off, retry := 0, retryAt := none, retryEnded := false, trim := 0, trimClamped := false
                owed := false }

/-- A port after its power has been removed: what a release clears of every block. -/
def PortState.release (q : PortState) : PortState :=
  { q with
    sheet := none, power := q.power.release, lens := LensRec.reset, queue := [], snap := none, cycle := none, sweep := none
    probe := none
    link := { q.link with identity := none, cameraChanged := false, motionHistory := [], restHistory := []
                          motionWindow := 0, restWindow := 0 } }

/-- The Cell Controller after a release: its take report and cause are kept (R37). -/
def CellCtl.release (c : CellCtl) : CellCtl :=
  { CellCtl.reset with cause := c.cause, take := c.take }

/-- The register window's share: flags but PAGE cleared without a message, service closed (R5). -/
def closeWindow (e : Event) : Event :=
  { e with page := { e.page with attention := e.page.attention &&& flagPage, service := .closed } }

/-- A page release (R5, R36): of a HELD page every block's teardown, else the abandoning of a take. -/
def releasePage (e : Event) : Event :=
  if held e.toState then
    let e1 := { e with
      page := { e.page with taken := .absent, areas := Vector.replicate 11 .idle }
      handed := none
      cell := e.cell.release }
    let e2 := disarmAll (forPorts allPorts (powerDown .release) (emptyBudget e1))
    let e3 := forEntries poolShare { e2 with pool := { e2.pool with claims := [] } }
    let e4 := forPorts allPorts (fun p x => modPort p PortState.release x) e3
    closeWindow { e4 with
      slots := e4.slots.map Slot.release
      pool := { Pool.reset with handErrors := e4.pool.handErrors }
      trigger := { e4.trigger with remainder := 0, seenHigh := false, seenLow := false } }
  else closeWindow { e with page := { e.page with taken := .absent, headerReadBy := none } }

/-! ## Page take (R3, R4) -/

/-- A take fails: ATTENTION.PAGE, and the state is ABSENT. -/
def failTake (e : Event) : Event :=
  raiseFlags flagPage { e with page := { e.page with taken := .absent, headerReadBy := none } }

/-- A take of an address: it fails at once when unaligned, else the header read is issued (R3). -/
def startTake (a : Addr) (e : Event) : Event :=
  if a &&& 0xFFF = 0 then
    issueRead .header a 8 { e with page := { e.page with
      taken := .taking, addr := a, headerReadBy := timer Config.readLimit e } }
  else failTake e

/-- The successful take (R4). -/
def takePage (e : Event) : Event :=
  let e1 := { e with
    slots := e.slots.map fun x => { x with takenHand := 0, answerCount := 0 }
    ports := e.ports.map fun q => { q with take := TakeReport.reset, reportCount := 0 }
    pool := { e.pool with handErrors := 0 }
    faults := { e.faults with logFull := 0, dropped := 0 }
    page := { e.page with taken := .held, headerReadBy := none, readErrors := 0, headerCount := 0
                          mirrorCounts := Vector.replicate 16 0 }
    cell := { e.cell with take := TakeReport.reset, mode := .configure, cause := some .pageTake } }
  let e2 := forNumbers allNumbers zeroMirror (writeHeader e1)
  let e3 := forNumbers (allNumbers.filter fun n => e2.faults.log.any fun r => r.number == n.val) writeMirror e2
  attend flagCell e3

/-! ## PAGE_HI (R2) -/

/-- The pair formed by PAGE_HI and PAGE_LO. -/
def pagePair (s : State) : Addr := s.page.hi ++ s.page.lo

/-- Act on the pair as it stands (R2). -/
def actOnPair (e : Event) : Event :=
  let a := pagePair e.toState
  if a = 0 then
    let e1 := releasePage e
    { e1 with page := { e1.page with releasing := e.page.taken == .held } }
  else if e.page.taken = .absent then startTake a e
  else startTake a (releasePage e)

/-- A write to PAGE_HI: stored, and acted on at once, or when the release in progress has ended (R2);
several writes during one release are acted on once, with the last pair (log 57). -/
def writePageHi (v : Word) (e : Event) : Event :=
  let e1 := { e with page := { e.page with hi := v } }
  if e.page.releasing then { e1 with page := { e1.page with hiOwed := true } } else actOnPair e1

end Sys2Proof.Machine
end

