-- ==== Sys2Proof/Machine/Areas.lean ====
section
/-! DEFINITION. Sweeps of the page and of the pool: reads and their ends (R11 to R13), the hand rule (R7) with the judgement of each
kind of record (R21, R26, R39, R41, R117, R118), and the rebuild of the pool layout (R24, R25). -/

namespace Sys2Proof.Machine

/-! ## Records of an area (R12) -/

/-- How many records an area has: of POOL, as many as the tracker's layout counts (R25), none without one. -/
def areaCount (a : Area) (s : State) : Nat :=
  match a with
  | .cellSheet | .portSheet _ => 1
  | .orders => 32
  | .pool => match s.pool.layout with
    | some l => l.count
    | none => 0

/-- The request part of record n of an area: its address and size. -/
def recordPart (a : Area) (n : Nat) (s : State) : Addr × Nat :=
  match a with
  | .cellSheet => (s.page.addr + 0x100, 0x400)
  | .portSheet p => (sheetAddr p s, 0x180)
  | .orders => (s.page.addr + BitVec.ofNat 64 (0x1500 + n * 0x100), 0x60)
  | .pool => match s.pool.layout with
    | some l => (recordAddr l n, 0x10)
    | none => (0, 0)

/-- The part counts a read error of the page or the pool, which rewrites the header report, and sets ATTENTION.PAGE (R13). -/
def countReadError (e : Event) : Event :=
  raiseFlags flagPage (writeHeader { e with page := { e.page with readErrors := e.page.readErrors + 1 } })

/-! ## Rebuild (R24, R25) -/

/-- An entry of a new layout, its hand not yet loaded. -/
def Entry.fresh : Entry where
  state := .out
  loaded := false
  hand := 0
  settings := none
  owner := none
  kind := .frame
  stamp := none
  openTime := 0
  width := 0
  height := 0
  depth := .bits8
  bytes := 0
  crcErrors := 0
  region := none
  data := []
  pending := .complete
  reservedBy := none
  silenceBy := none
  giveResult := 0
  giveField := 0
  summary := none
  count := 0

/-- Issue the read of buffer record b's hand. -/
def readHand (l : Layout) (b : Nat) (e : Event) : Event :=
  issueRead .hand (recordAddr l b + 0x0F) 1
    { e with pool := { e.pool with rebuild := some { next := b, readBy := e.clock + Config.readLimit } } }

/-- A trace whose buffer the rebuild takes away is omitted (R25). -/
def loseTrace (p : Port) (e : Event) : Event :=
  modProbe p (fun r => { r with trace := if r.trace.buffer.isSome then .omitted else r.trace }) e

/-- The tracker is rebuilt under a new layout, every entry OUT without an owner, and the hand reads begin. A rebuild still reading
hands is replaced at once, and the completion of its hand read is discarded (log 44). A SNAP or sweep step that waits for the frame of
a removed entry is told nothing and waits on, and no frame gap is reported (log 45). -/
def startRebuild (l : Layout) (e : Event) : Event :=
  let e1 := forPorts allPorts loseTrace { e with pool := { e.pool with
    layout := some l, entries := List.replicate l.count Entry.fresh, rebuild := none, rebuildOwed := none } }
  if l.count = 0 then e1 else readHand l 0 e1

/-- A Cell Sheet take compares the layout with the one held; a different one is rebuilt, after the POOL sweep under way. -/
def newLayout (l : Layout) (e : Event) : Event :=
  if e.pool.layout = some l then { e with pool := { e.pool with rebuildOwed := none } }
  else match areaState .pool e.toState with
    | .sweeping _ _ _ => { e with pool := { e.pool with rebuildOwed := some l } }
    | .idle | .pending => startRebuild l e

/-- The hand read of record b has been dealt with; the next one is issued, or the rebuild has ended. R24 says neither in which order the
hands are read nor how many of the reads are outstanding at once: by the model's choice one at a time, in ascending number, each with
50 ms of its own (log 75). -/
def nextHand (b : Nat) (e : Event) : Event :=
  match e.pool.layout with
  | some l => if b + 1 < l.count then readHand l (b + 1) e else { e with pool := { e.pool with rebuild := none } }
  | none => { e with pool := { e.pool with rebuild := none } }

/-! ## Reads and the end of a sweep (R11, R12, R121) -/

/-- Issue the read of record n of an area that is SWEEPING. -/
def readRecord (a : Area) (again : Bool) (n : Nat) (e : Event) : Event :=
  issueRead (.area a) (recordPart a n e.toState).1 (recordPart a n e.toState).2
    (setArea a (.sweeping again n (timer Config.readLimit e)) e)

/-- A POOL sweep has ended: the claims that asked for it are judged again, and an owed rebuild begins. R25 and R121 name the same
end and no order: the claims come first, judged on the old layout, and the rebuild then removes what they took (log 69). A START may
have been accepted meanwhile (R29 names no rebuild): frames then in flight lose their entries undelivered (log 45). -/
def endPoolSweep (e : Event) : Event :=
  let e1 := rejudgeClaims e
  match e1.pool.rebuildOwed with
  | some l => startRebuild l e1
  | none => e1

/-- The sweep of an area ends: IDLE, or PENDING when the sweep-again flag is set (R11). -/
def endArea (a : Area) (again : Bool) (e : Event) : Event :=
  let e1 := setArea a (if again then .pending else .idle) e
  match a with
  | .pool => endPoolSweep e1
  | .cellSheet | .portSheet _ | .orders => e1

/-- A PENDING area begins its sweep. A POOL sweep waits for a rebuild, and is the one its waiting claims asked for. -/
def beginArea (a : Area) (e : Event) : Event :=
  let waits := match a with
    | .pool => e.pool.rebuild.isSome
    | .cellSheet | .portSheet _ | .orders => false
  if areaState a e.toState = .pending ∧ waits = false then
    let e1 := match a with
      | .pool => { e with pool := { e.pool with claims := e.pool.claims.map fun c => { c with begun := true } } }
      | .cellSheet | .portSheet _ | .orders => e
    if areaCount a e1.toState = 0 then endArea a false e1 else readRecord a false 0 e1
  else e

/-- The record being dealt with is done: the next read is issued, or the sweep ends. -/
def nextRecord (a : Area) (e : Event) : Event :=
  match areaState a e.toState with
  | .sweeping again n _ => if n + 1 < areaCount a e.toState then readRecord a again (n + 1) e else endArea a again e
  | .idle | .pending => e

/-- The number of the record whose read is outstanding. -/
def outstanding (a : Area) (s : State) : Option Nat :=
  match areaState a s with
  | .sweeping _ n (some _) => some n
  | .sweeping _ _ none | .idle | .pending => none

/-- When the outstanding read fails. -/
def readDeadline (a : Area) (s : State) : Option Nat :=
  match areaState a s with
  | .sweeping _ _ d => d
  | .idle | .pending => none

/-- A read failed: the record is treated as unread and the sweep goes on (R13). A completion of it that comes later is
discarded, as no longer the area's latest read (log 43). -/
def failRecord (a : Area) (e : Event) : Event :=
  if (outstanding a e.toState).isSome then nextRecord a (countReadError e) else e

/-! ## The Cell Sheet (R21, R23) -/

/-- The encoder's counted edge and divider: those of the copy, else RISE and 1 (R103). -/
def encoderSetting (s : State) : Edge × Nat :=
  match s.cell.sheet with
  | some c => (c.edge, c.divider)
  | none => (.rise, 1)

/-- A Cell Sheet is TAKEN: it replaces the copy whole, and acts on the encoder and the pool layout (R23, R24, R103). -/
def takeCellSheet (c : CellSheet) (e : Event) : Event :=
  let same := encoderSetting e.toState = (c.edge, c.divider)
  newLayout { addr := c.poolAddr, count := c.bufCount }
    { e with cell := { e.cell with sheet := some c, standing := true }
             trigger := if same then e.trigger else { e.trigger with remainder := 0 } }

/-- The outcome of a new Cell Sheet, and the event that accepting it makes (R21). -/
def judgeSheet (bytes : List Byte) (e : Event) : TakeReport × Event :=
  let hand := handOf 0x400 bytes
  match judgeCellSheet bytes with
  | .error (r, f) => ({ hand, verdict := .refused, reason := r, field := f }, e)
  | .ok c =>
    if e.cell.mode = .configure then ({ hand, verdict := .taken, reason := .none, field := 0 }, takeCellSheet c e)
    else ({ hand, verdict := .refused, reason := .wrongMode, field := 0 }, e)

/-- A Cell Sheet has been read (R7, R21). -/
def dealCellSheet (bytes : List Byte) (e : Event) : Event :=
  if handOf 0x400 bytes = e.cell.take.hand then e
  else
    let (t, e1) := judgeSheet bytes e
    attend flagCell (writeHeader { e1 with cell := { e1.cell with take := t } })

/-! ## Port Sheets (R26, R27) -/

/-- SETUP at an accepted take: sent in TALK, owed in HUSHING and HUSH (R95). -/
def setupAtTake (p : Port) (e : Event) : Event :=
  match (e.port p).link.state with
  | .talk => give p (setupPacket (e.port p)) e
  | .hushing | .hush => modLink p (fun l => { l with owedSetup := true }) e
  | .dark | .wake => e

/-- A Port Sheet is TAKEN: its values pass to the Link, Power and Lens blocks, a HELD port being released before its want acts (R27,
R76, R91). -/
def takePortSheet (p : Port) (s : PortSheet) (e : Event) : Event :=
  let e1 := modPort p (fun q => { q with sheet := some s, link := { q.link with cameraChanged := false } }) e
  takeWant p s.lens (actOnWant p (releaseHeld p (setupAtTake p e1)))

/-- A Port Sheet has been read (R7, R26). -/
def dealPortSheet (p : Port) (bytes : List Byte) (e : Event) : Event :=
  let hand := handOf 0x180 bytes
  if hand = (e.port p).take.hand then e
  else match judgePortSheet bytes with
    | .error (r, f) =>
      touch p (modPort p (fun q => { q with take := { hand, verdict := .refused, reason := r, field := f } }) e)
    | .ok s =>
      touch p (takePortSheet p s
        (modPort p (fun q => { q with take := { hand, verdict := .taken, reason := .none, field := 0 } }) e))

/-! ## Order slots (R39, R41) -/

/-- Judge a decoded order by service, mode and queue room (R41, tests 4, 5 and 7). -/
def orderRefusal (o : Order) (s : State) : Option Reason :=
  if o.serviceOnly && s.page.service != .opened then some .serviceOnly
  else if !o.acceptedIn s.cell.mode then some .wrongMode
  else match o.queuePort with
    | some p => if 8 ≤ (s.ports.get p).queue.length then some .queueFull else none
    | none => none

/-- A queue order is accepted into the tail of its port's queue (R41, R51). -/
def joinQueue (p : Port) (n : SlotNo) (e : Event) : Event :=
  let e1 := writeAnswer n (modSlot n (fun x => { x with state := .queued, reason := .none, field := 0, results := [] }) e)
  let e2 := modPort p (fun q => { q with queue := q.queue ++ [.order n] }) e1
  if (e.port p).queue.isEmpty then touch p e2 else e2

/-- A new order record is judged; an accepted one is handed over, and carried out by the command of its kind (log 13). -/
def takeOrder (n : SlotNo) (bytes : List Byte) (e : Event) : Event :=
  let e1 := modSlot n (fun x => { x with takenHand := handOf 0x60 bytes, offerPending := false }) e
  match judgeOrder bytes with
  | .error (r, f) => finishSlot n .refused r f [] e1
  | .ok o =>
    let e2 := modSlot n (fun x => { x with order := some o }) e1
    match orderRefusal o e2.toState with
    | some r => refuseSlot n r e2
    | none =>
      let e3 := match o.queuePort with
        | some p => joinQueue p n e2
        | none => e2
      { e3 with handed := some n }

/-- Order slot n has been read (R39). -/
def dealOrder (n : SlotNo) (bytes : List Byte) (e : Event) : Event :=
  let x := e.slots.get n
  if handOf 0x60 bytes = x.takenHand then e
  else if x.state = .queued ∨ x.state = .running then modSlot n (fun y => { y with offerPending := true }) e
  else takeOrder n bytes e

/-! ## Buffer records (R117, R118) -/

/-- The entry given with new settings (R117). -/
def Entry.give (hand : Byte) (g : Settings) (x : Entry) : Entry :=
  { x with state := .given, hand, settings := some g, owner := none, summary := none, stamp := none, giveResult := 1
           giveField := 0 }

/-- The entry whose give was refused (R117). -/
def Entry.refuseGive (hand : Byte) (r : Reason) (f : Nat) (x : Entry) : Entry :=
  { x with hand, giveResult := giveRefusal r, giveField := f }

/-- Buffer record b has been read (R117, R118). -/
def dealBuffer (b : Nat) (bytes : List Byte) (e : Event) : Event :=
  let hand := handOf 0x10 bytes
  match e.pool.entries[b]? with
  | none => e
  | some x =>
    if x.loaded = false then modEntry b (fun y => { y with hand, loaded := true }) e
    else if hand = x.hand then e
    else if x.state = .out then
      match judgeSettings bytes with
      | .ok g => writeBuffer b (modEntry b (Entry.give hand g) e)
      | .error (r, f) => writeBuffer b (modEntry b (Entry.refuseGive hand r f) e)
    else
      let e1 := writeBuffer b (modEntry b (Entry.refuseGive hand .busyTarget 0) e)
      writeHeader { e1 with pool := { e1.pool with handErrors := e1.pool.handErrors + 1 } }

/-! ## A record read (R12) -/

/-- Pass the copy read of record n through the hand rule and to its owner. -/
def dealRecord (a : Area) (n : Nat) (bytes : List Byte) (e : Event) : Event :=
  match a with
  | .cellSheet => dealCellSheet bytes e
  | .portSheet p => dealPortSheet p bytes e
  | .orders => dealOrder (Fin.ofNat 32 n) bytes e
  | .pool => dealBuffer n bytes e

/-- The sweep goes on with its next record, but for an ORDERS sweep that has handed an order over: it waits, with no read
outstanding, for that order to be carried out (R39, R43). -/
def afterRecord (a : Area) (e : Event) : Event :=
  match a, e.handed, areaState a e.toState with
  | .orders, some _, .sweeping again n _ => setArea a (.sweeping again n none) e
  | _, _, _ => nextRecord a e

/-- The area's outstanding read completes (R12). -/
def recordRead (a : Area) (bytes : List Byte) (e : Event) : Event :=
  match outstanding a e.toState with
  | some n => afterRecord a (dealRecord a n bytes e)
  | none => e

/-- What the completion of read number n does to its area: `f`, when it is the area's latest read; else nothing (R5, R13;
log 42, log 43). -/
def completes (a : Area) (n : Nat) (f : Event → Event) (e : Event) : Event :=
  if answers (.area a) n e.toState then f e else e

/-! ## An order handed over (R43) -/

/-- The order of slot n, if it is the one handed over. -/
def handedOrder (n : SlotNo) (s : State) : Option Order :=
  if s.handed = some n then (s.slots.get n).order else none

/-- The order handed over has been carried out; the ORDERS sweep goes on. -/
def carriedOn (e : Event) : Event := nextRecord .orders { e with handed := none }

/-- Carry out an order that runs at once, unless another event has changed the mode since it was judged (log 13). -/
def carryOut (n : SlotNo) (o : Order) (f : Event → Event) (e : Event) : Event :=
  carriedOn (if o.acceptedIn e.cell.mode then f e else refuseSlot n .wrongMode e)

/-- A queue order handed over begins if it is the head of its queue; otherwise it waits there (R52). -/
def carryQueued (p : Port) (e : Event) : Event := carriedOn (beginHead p e)

end Sys2Proof.Machine
end

