-- ==== Sys2Proof/Machine/Frames.lean ====
section
/-! DEFINITION. Uplink packets and frames: what arrives in each link state (R86, R87), HELLO (R90, R91), the life of a frame
(R123 to R127) with what its SNAP or sweep step is told (R55, R145), and the error windows with the flicker detector (R98,
R99, R173, R174). -/

namespace Sys2Proof.Machine

/-! ## Reception (R86, R87, R92) -/

/-- In TALK every good packet restarts the silence timer. -/
def restartSilence (p : Port) (e : Event) : Event := modLink p (fun l => { l with silenceAt := timer Config.silenceTime e }) e

/-- Count a bad packet by the level of MOTION (R86, R98). -/
def PortLink.countBad (motion : Bool) (l : PortLink) : PortLink :=
  if motion then { l with crcMotion := l.crcMotion + 1, motionWindow := min 65535 (l.motionWindow + 1) }
  else { l with crcRest := l.crcRest + 1, restWindow := min 65535 (l.restWindow + 1) }

/-- A FILLING frame of port p counts a bad packet, up to 255 (R125). -/
def Entry.countBad (p : Port) (x : Entry) : Entry :=
  if x.state = .filling ∧ x.kind = .frame ∧ x.owner = some p then { x with crcErrors := min 255 (x.crcErrors + 1) } else x

/-- Is the receiver open (R86)? -/
def LinkState.receives : LinkState → Bool
  | .wake | .talk | .hushing => true
  | .dark | .hush => false

/-- A bad packet arrives on port p; a closed receiver receives nothing (R86). -/
def takeBad (p : Port) (e : Event) : Event :=
  if (e.port p).link.state.receives then
    let e1 := modLink p (PortLink.countBad e.trigger.motion) e
    { e1 with pool := { e1.pool with entries := e1.pool.entries.map (Entry.countBad p) } }
  else e

/-- A packet other than HELLO arrives: bad when malformed, discarded in WAKE, else acted on by `f` (R85, R87). -/
def uplink (p : Port) (ok : Bool) (f : Event → Event) (e : Event) : Event :=
  match (e.port p).link.state with
  | .dark | .hush => e
  | .wake => if ok then e else takeBad p e
  | .talk => if ok then f (restartSilence p e) else takeBad p e
  | .hushing => if ok then f e else takeBad p e

/-! ## HELLO (R90, R91) -/

/-- The identity a HELLO gives (R91). -/
def identityOf (k : LensKind) (h : HelloPacket) : Identity where
  serial := h.serial
  camClass := h.camClass.toNat
  lensKind := k
  maxPower := h.maxPower.toNat
  standbyPower := h.standbyPower.toNat
  motionPower := h.motionPower.toNat

/-- The Cable Table judges a HELLO's serial (R91). -/
def judgeSerial (serial : Word) (q : PortState) : PortState :=
  match q.cable.state, q.cable.serial with
  | .absent, _ => q
  | .declared, none | .learned, none => { q with cable := { q.cable with serial := some serial } }
  | .declared, some x | .learned, some x =>
    if x = serial then q
    else { q with cable := { q.cable with serial := some serial }, link := { q.link with cameraChanged := true } }

/-- SETUP, and SLEEP when the Power Manager holds the port in STANDBY: sent in TALK, owed in HUSHING (R90, R95). -/
def settingsAtHello (p : Port) (e : Event) : Event :=
  let q := e.port p
  match q.link.state with
  | .talk =>
    let e1 := give p (setupPacket q) e
    if q.power.state = .standby then give p .sleep e1 else e1
  | .hushing => modLink p (fun l => { l with owedSetup := true, owedSleep := l.owedSleep || q.power.state == .standby }) e
  | .dark | .wake | .hush => e

/-- Entry to TALK at a HELLO (R90, steps 1 and 3); an ASK that still waits is discarded unsent as the link leaves WAKE (R84). -/
def enterTalk (p : Port) (e : Event) : Event :=
  setLink p .talk (modLink p (fun l => { l with
    waiting := [], greetAt := none, askAt := none, silenceAt := timer Config.silenceTime e, motionWindow := 0
    restWindow := 0, motionHistory := [], restHistory := [] }) e)

/-- A good HELLO, in the order of R90: entry to TALK from WAKE, or a greeting again; identity, serial, report, class raise,
lens, settings. A greeting again ends a focus sweep (R147); its report rewriting sets ATTENTION.PORT too (log 51), and the move it breaks
off is no end of a move at which a DRAINING probe tests for its gap (log 64). R90 places no test of standby entry (R74): by the model's
choice an ON port that wants STANDBY is tested last, after step 7, so that the class raise is judged in ON and SLEEP follows SETUP
(log 76). -/
def takeHello (p : Port) (k : LensKind) (h : HelloPacket) (e : Event) : Event :=
  let again := (e.port p).link.state != .wake
  let e1 := modPort p (judgeSerial h.serial) (modLink p (fun l => { l with identity := some (identityOf k h) }) e)
  let e2 := if again then (if (e.port p).link.state = .talk then restartSilence p e1 else e1) else enterTalk p e1
  let e3 := classRaise p h.maxPower.toNat (touch p e2)
  if (e3.port p).link.state = .dark then e3
  else
    let e4 := greetLens p k h e3
    let e5 := if again then endSweep p .aborted .linkLost e4 else e4
    tell (.lens p) (tryStandby p (settingsAtHello p e5))

/-! ## Who follows a buffer (R55, R145) -/

/-- The SNAP that fired buffer b under a tag is told that it was delivered. -/
def snapDelivered (p : Port) (b : Nat) (tag : Half) (e : Event) : Event :=
  match (e.port p).snap with
  | none => e
  | some r =>
    if r.shot = some (tag, b) then
      let marked := stopMarked r.slot e
      endSnap p (if marked then .cancelled else .done) (if marked then .cancelledByOrder else .none)
        (snapResults (some b) (some tag) none) e
    else e

/-- The SNAP that fired buffer b under a tag is told that no frame came. -/
def snapReturned (p : Port) (b : Nat) (tag : Half) (e : Event) : Event :=
  match (e.port p).snap with
  | none => e
  | some r => if r.shot = some (tag, b) then endSnap p .aborted .timeout (snapResults none (some tag) none) e else e

/-- The contrast a delivery gave buffer b. -/
def contrastOf (b : Nat) (s : State) : Option Nat :=
  match s.pool.entries[b]? with
  | some x => match x.summary with
    | some m => m.contrast
    | none => none
  | none => none

/-- The sweep step that fired buffer b under a tag ends, with the buffer or without. -/
def sweepFrame (p : Port) (b : Nat) (tag : Half) (delivered : Bool) (e : Event) : Event :=
  match (e.port p).sweep with
  | none => e
  | some w =>
    if w.shot = some (tag, b) then
      recordStep p { position := w.focus, buffer := if delivered then some b else none
                     contrast := if delivered then contrastOf b e.toState else none } e
    else e

/-- A frame buffer has left flight by a delivery (`delivered`) or a return to GIVEN; who fired it is told, and then the gap
is reported. `x` is the entry as it was in flight. -/
def frameEnded (p : Port) (b : Nat) (x : Entry) (delivered : Bool) (e : Event) : Event :=
  let e1 := match x.stamp with
    | none => e
    | some t =>
      sweepFrame p b t.tag delivered (if delivered then snapDelivered p b t.tag e else snapReturned p b t.tag e)
  tellIfDrained p e1

/-- Deliver frame buffer b of port p and tell who fired it. -/
def deliverFrame (p : Port) (b : Nat) (o : FrameOutcome) (e : Event) : Event :=
  match e.pool.entries[b]? with
  | none => e
  | some x => frameEnded p b x true (deliver b o e)

/-! ## Frame packets (R124, R125, R126) -/

/-- The buffer a frame packet joins. -/
def joined (p : Port) (st : BufState) (tag : Half) (s : State) : Option Nat := s.pool.entries.findIdx? (Entry.joins p st tag)

/-- A stray packet (R124). -/
def countStray (p : Port) (e : Event) : Event := modPort p (fun q => { q with stray := q.stray + 1 }) e

/-- The contrast region of a port's copy. -/
def regionOf (q : PortState) : Option Region :=
  match q.sheet with
  | some s => s.region
  | none => none

/-- The entry that a FRAME_OPEN makes FILLING (R124). -/
def Entry.fill (w h : Nat) (d : Depth) (g : Option Region) (until' : Option Nat) (x : Entry) : Entry :=
  { x with state := .filling, width := w, height := h, depth := d, bytes := 0, crcErrors := 0, region := g, data := []
           pending := .complete, reservedBy := none, silenceBy := until' }

/-- The SNAP that fired buffer b under a tag has met its FRAME_OPEN. -/
def snapOpened (p : Port) (b : Nat) (tag : Half) (e : Event) : Event :=
  modPort p (fun q => { q with snap := q.snap.map fun r => if r.shot = some (tag, b) then { r with opened := true } else r }) e

/-- The frame of port p that is FILLING, if one is. -/
def fillingFrame (p : Port) (s : State) : Option Nat :=
  s.pool.entries.findIdx? fun x => x.state == .filling && x.kind == .frame && x.owner == some p

/-- A good FRAME_OPEN (R124). -/
def openFrame (p : Port) (tag width height : Half) (d : Depth) (e : Event) : Event :=
  match joined p .reserved tag e.toState with
  | none => countStray p e
  | some b =>
    let e1 := match fillingFrame p e.toState with
      | some old => deliverFrame p old .truncatedLate e
      | none => e
    writeBuffer b (snapOpened p b tag (modEntry b
      (Entry.fill width.toNat height.toNat d (regionOf (e.port p)) (timer Config.fillingTime e)) e1))

/-- A good FRAME_DATA (R125). -/
def dataFrame (p : Port) (tag : Half) (o : Word) (data : List Byte) (e : Event) : Event :=
  match joined p .filling tag e.toState with
  | none => countStray p e
  | some b => fillData b o.toNat data (modEntry b (fun x => { x with silenceBy := timer Config.fillingTime e }) e)

/-- What a FRAME_CLOSE makes of the outcome (R126). -/
def Entry.close (total status : Nat) (x : Entry) : Entry :=
  let long := match x.settings with
    | some g => decide (g.length < total)
    | none => false
  let o := if long then x.pending.worst .truncatedLong else x.pending
  { x with pending := if status = 0 then o else .spoiled }

/-- A good FRAME_CLOSE (R126). -/
def closeFrame (p : Port) (tag : Half) (total : Word) (status : Byte) (e : Event) : Event :=
  match joined p .filling tag e.toState with
  | none => countStray p e
  | some b => deliverFrame p b .complete (modEntry b (Entry.close total.toNat status.toNat) e)

/-! ## Error windows and the flicker detector (R98, R99, R173, R174) -/

/-- Push a window count onto a history of at most 8 entries, newest first (R99). -/
def pushCount (n : Nat) (h : List Nat) : List Nat := (n :: h).take 8

/-- The number of entries at or above the flicker threshold (R173). -/
def score (threshold : Nat) (h : List Nat) : Nat := h.countP fun n => decide (threshold ≤ n)

/-- The flicker threshold of the copy in force. -/
def flickerThreshold (s : State) : Nat :=
  match s.cell.sheet with
  | some c => c.flickerThreshold
  | none => 256

/-- Both window counts are set to 0. -/
def zeroWindows (p : Port) (e : Event) : Event := modLink p (fun l => { l with motionWindow := 0, restWindow := 0 }) e

/-- The histories of a port at a window end (R99, steps 1 to 3). -/
def PortLink.pushWindow (high low : Bool) (l : PortLink) : PortLink :=
  { l with motionHistory := if high then pushCount l.motionWindow l.motionHistory else l.motionHistory
           restHistory := if low then pushCount l.restWindow l.restHistory else l.restHistory }

/-- A pushed in-motion count acts on the quiet run (R174). -/
def quietAfter (threshold n q : Nat) : Nat := if n < threshold then min 100 (q + 1) else 0

/-- The flicker finding of a window end: recorded, and the quiet run set to 0 (R173, R174, R178). The fault of a new record is raised
once the log is up to date for the whole window (`endWindows`). -/
def flickerFound (p : Port) (e : Event) : Event :=
  takeLog (flickerUpdate p (cellTime e.toState) e.trigger.motion e.faults.log)
    (modPort p (fun q => { q with met := true, quiet := 0 }) e)

/-- At a quiet run of 100 the port's ACTIVE FLICKER record is RESOLVED and the run starts again (R174, R177). -/
def resolveQuiet (p : Port) (e : Event) : Event :=
  if 100 ≤ (e.port p).quiet ∧ e.faults.log.any (BreakRec.isActive p .flicker) = true then
    takeLog (flickerResolve p e.faults.log) (modPort p (fun q => { q with quiet := 0 }) e)
  else e

/-- The flicker detector acts on port p's histories and on the count pushed to the in-motion one (R173, R174). -/
def detectFlicker (p : Port) (pushed : Option Nat) (e : Event) : Event :=
  let t := flickerThreshold e.toState
  let e1 := match pushed with
    | some n => modPort p (fun q => { q with quiet := quietAfter t n q.quiet }) e
    | none => e
  let l := (e.port p).link
  let holds := decide (3 ≤ score t l.motionHistory) && score t l.restHistory == 0
  let e2 := if holds then (if (e.port p).met then e1 else flickerFound p e1)
    else modPort p (fun q => { q with met := false }) e1
  resolveQuiet p e2

/-- Port p at a window end (R99): what its detector finds or resolves is one event at the log of its own (log 78). -/
def endWindow (p : Port) (e : Event) : Event :=
  if (e.port p).link.state = .talk then
    let n := (e.port p).link.motionWindow
    let high := e.trigger.seenHigh
    zeroWindows p (detectFlicker p (if high then some n else none)
      (modLink p (PortLink.pushWindow high e.trigger.seenLow) e))
  else zeroWindows p e

/-- The ports that have an ACTIVE FLICKER record in the log `after` and had none in `before`, in ascending number. -/
def newFlickers (before after : List BreakRec) : List Port :=
  allPorts.filter fun p => after.any (BreakRec.isActive p .flicker) && !before.any (BreakRec.isActive p .flicker)

/-- The window ends at every port (R99). By the model's choice the ports are dealt one by one, ascending, each an event of its own at the
log, which sets ATTENTION.BREAKS for itself; a later port's resolving makes no room for an earlier port's finding (log 78). FLICKER is
raised for each new record after the log has been brought up to date for the whole window (R178). -/
def endWindows (e : Event) : Event :=
  let e1 := forPorts allPorts endWindow e
  forPorts (newFlickers e.faults.log e1.faults.log) (fun p => handleFault p .flicker) e1

end Sys2Proof.Machine
end

