-- ==== Sys2Proof/Machine/PageCmds.lean ====
section
/-! DEFINITION. The commands of the register window, the resets and the page's hand-off (R1 to R6, R11, R14 to R16, R28, R182 to
R184), and the values the registers read as. -/

namespace Sys2Proof.Machine

/-! ## Register reads (R1, R15, R182) -/

/-- The value a register reads as; a part held in reset shows IDENT and zero for every other register (R1, R182). -/
def registerValue (offset : Nat) (s : State) : Word :=
  match offset, s.resetHeld with
  | 0x00, _ => Config.ident
  | 0x08, false => s.page.lo
  | 0x0C, false => s.page.hi
  | 0x14, false => (s.page.attention &&& s.page.mask).setWidth 32
  | 0x18, false => s.page.mask.setWidth 32
  | _, _ => 0

/-- A read of `size` bytes at an offset returns the addressed bytes of the register's read value; it has no side effect
(R1). A read that runs past the register's end returns its remaining bytes alone (log 35). -/
def readRegister (offset size : Nat) (s : State) : List Byte :=
  ((leBytes 4 (registerValue (offset / 4 * 4) s).toNat).drop (offset % 4)).take size

/-! ## Resets (R182, R183) -/

/-- POWER_ON_RESET: every value of the reset tables; the filters take the raw levels. What was issued on the bus and the
cables stands, with the numbers of the reads. While RST_N stays low the line reset goes on (R182). -/
def execPowerOnReset (enc trig motion : Bool) (s : State) : Host.Outcome State Fault Refusal :=
  .next { State.reset with
    pending := s.pending, traffic := s.traffic, reads := s.reads, cableOut := s.cableOut, free := s.free
    resetHeld := s.resetHeld
    trigger := Trigger.reset enc trig motion }

/-- The state in a line reset: the cable table, the break log and the PCIe configuration are kept. -/
def lineResetState (s : State) : State :=
  { State.reset with
    pending := s.pending, traffic := s.traffic, reads := s.reads, cableOut := s.cableOut, free := s.free
    resetHeld := true
    pcie := s.pcie
    ports := s.ports.map fun q => PortState.reset q.cable
    trigger := Trigger.reset s.trigger.enc s.trigger.trig s.trigger.motion
    faults := { FaultUnit.reset with log := s.faults.log } }

/-- LINE_RESET. -/
def execLineReset (s : State) : Host.Outcome State Fault Refusal :=
  .next (if s.powered then lineResetState s else s)

/-- LINE_RESET_RELEASE: cell time begins at 0 and the filters take the raw levels (R102). -/
def execLineResetRelease (enc trig motion : Bool) (s : State) : Host.Outcome State Fault Refusal :=
  .next (if s.powered && s.resetHeld then
    { s with resetHeld := false, clock := 0, trigger := Trigger.reset enc trig motion } else s)

/-- SUPPLY_LOSS: the part is unpowered and holds nothing until the next power-on reset; it presents the open contact. -/
def execSupplyLoss (s : State) : Host.Outcome State Fault Refusal :=
  .next { State.reset with
    pending := s.pending, traffic := s.traffic, reads := s.reads, cableOut := s.cableOut, free := s.free
    powered := false }

/-! ## Register writes (R1, R2, R11, R14, R15, R16) -/

/-- Service moved by a written value (R16). -/
def Service.written (v : Word) (x : Service) : Service :=
  match x with
  | .opened => .opened
  | .armed => if v = 1 then .armed else if v = 2 then .opened else .closed
  | .closed => if v = 1 then .armed else .closed

/-- A SERVICE write; the opening of service rewrites the header report (R16, R6). -/
def writeService (v : Word) (e : Event) : Event :=
  let x := e.page.service.written v
  let e1 := { e with page := { e.page with service := x } }
  if e.page.service ≠ .opened ∧ x = .opened then writeHeader e1 else e1

/-- The area of each NOTICE bit (section 1.1). -/
def noticeAreas : List (Nat × Area) :=
  [(0, .cellSheet), (1, .portSheet 0), (2, .portSheet 1), (3, .portSheet 2), (4, .portSheet 3), (5, .portSheet 4),
   (6, .portSheet 5), (7, .portSheet 6), (8, .portSheet 7), (9, .orders), (10, .pool)]

/-- A NOTICE write with several bits set is one notice to each area named (R11). -/
def writeNotice (v : Word) (e : Event) : Event :=
  (noticeAreas.filter fun x => v.getLsbD x.1).foldl (fun acc x => notice x.2 acc) e

/-- A write to ATTENTION clears the flags written as 1 (R14). -/
def clearAttention (v : Word) (e : Event) : Event :=
  setAttention (e.page.attention &&& ~~~(v.setWidth 14)) e.page.mask e

/-- A write to ATTENTION_MASK (R15). -/
def writeMask (v : Word) (e : Event) : Event := setAttention e.page.attention (v.setWidth 14) e

/-- An aligned 32-bit write to the window: PAGE_LO stores, IDENT and unused offsets discard, the rest act (R1, R2). -/
def writeRegister (offset : Nat) (v : Word) (e : Event) : Event :=
  match offset with
  | 0x04 => writeService v e
  | 0x08 => { e with page := { e.page with lo := v } }
  | 0x0C => writePageHi v e
  | 0x10 => writeNotice v e
  | 0x14 => clearAttention v e
  | 0x18 => writeMask v e
  | _ => e

/-- REGISTER_WRITE_OTHER: a narrow or unaligned write is discarded (R1; log 35). -/
def execRegisterWriteOther (offset : BitVec 12) (size : Nat) (value : Word) (s : State) :
    Host.Outcome State Fault Refusal :=
  act (fun e => if size = 4 ∧ offset.toNat % 4 = 0 then writeRegister offset.toNat value e else e) s

/-- SERVICE_WRITE. -/
def execServiceWrite (value : Word) (s : State) : Host.Outcome State Fault Refusal := act (writeService value) s

/-- PAGE_TAKE. -/
def execPageTake (hi : Word) (s : State) : Host.Outcome State Fault Refusal := act (writePageHi hi) s

/-- PAGE_RELEASE. -/
def execPageRelease (s : State) : Host.Outcome State Fault Refusal := act (writePageHi 0) s

/-- NOTICE_CELL_SHEET. -/
def execNoticeCellSheet (s : State) : Host.Outcome State Fault Refusal := act (notice .cellSheet) s

/-- NOTICE_PORT_SHEET. -/
def execNoticePortSheet (p : Port) (s : State) : Host.Outcome State Fault Refusal := act (notice (.portSheet p)) s

/-- NOTICE_ORDERS. -/
def execNoticeOrders (s : State) : Host.Outcome State Fault Refusal := act (notice .orders) s

/-- NOTICE_POOL. -/
def execNoticePool (s : State) : Host.Outcome State Fault Refusal := act (notice .pool) s

/-- ATTENTION_CLEAR. -/
def execAttentionClear (value : Word) (s : State) : Host.Outcome State Fault Refusal := act (clearAttention value) s

/-- ATTENTION_MASK_WRITE. -/
def execAttentionMaskWrite (value : Word) (s : State) : Host.Outcome State Fault Refusal := act (writeMask value) s

/-! ## The take and the release (R2 to R5) -/

/-- PAGE_HEADER_READ_COMPLETE: the read of the take under way; any other completion, that of an abandoned take too, is
discarded (R2, R3, R4). -/
def execPageHeaderReadComplete (reply : Completion (Option (Word × Word))) (s : State) : Host.Outcome State Fault Refusal :=
  act (fun e =>
    if e.page.taken = .taking ∧ answers .header reply.read e.toState = true then
      if reply.data = some (Config.signature, Config.pageFormat) then takePage e else failTake e
    else e) s

/-- PAGE_HEADER_READ_TIMEOUT (R3). -/
def execPageHeaderReadTimeout (s : State) : Host.Outcome State Fault Refusal :=
  act (fun e => if e.page.taken = .taking ∧ due e.page.headerReadBy e.toState = true then failTake e else e) s

/-- PAGE_RELEASE_END: a PAGE_HI write that waited for it is acted on with the pair as it then stands (R2). -/
def execPageReleaseEnd (s : State) : Host.Outcome State Fault Refusal :=
  act (fun e =>
    if e.page.releasing then
      let e1 := { e with page := { e.page with releasing := false, hiOwed := false } }
      if e.page.hiOwed then actOnPair e1 else e1
    else e) s

/-! ## Refreshes (R6, R28) -/

/-- HEADER_REFRESH. -/
def execHeaderRefresh (s : State) : Host.Outcome State Fault Refusal := act writeHeader s

/-- PORT_REPORT_REFRESH: every port's report part, with no attention flag. -/
def execPortReportRefresh (s : State) : Host.Outcome State Fault Refusal := act (forPorts allPorts writePortReport) s

/-! ## PCIe configuration (R184) -/

/-- PCIE_CONFIGURATION_WRITE: kept through a line reset, and acted on in it. -/
def execPcieConfigurationWrite (enable : Bool) (vector : Option (Addr × Word)) (s : State) :
    Host.Outcome State Fault Refusal :=
  .next (if s.powered then { s with pcie := { enable, vector } } else s)

end Sys2Proof.Machine
end

