-- ==== Sys2Proof/Machine/SweepCmds.lean ====
section
/-! DEFINITION. The commands that move a sweep of the page or of the pool, and the hand reads of a pool rebuild (R11 to R13, R24,
R25). -/

namespace Sys2Proof.Machine

/-- SWEEP_START: the memory reads allow a PENDING area to begin (R11, R12, R25). -/
def execSweepStart (a : Area) (s : State) : Host.Outcome State Fault Refusal := act (beginArea a) s

/-- SWEEP_RECORD_READ (R12). -/
def execSweepRecordRead (a : Area) (bytes : Completion (List Byte)) (s : State) : Host.Outcome State Fault Refusal :=
  act (completes a bytes.read (recordRead a bytes.data)) s

/-- SWEEP_READ_FAIL: a completion error (R13). -/
def execSweepReadFail (a : Completion Area) (s : State) : Host.Outcome State Fault Refusal :=
  act (completes a.data a.read (failRecord a.data)) s

/-- SWEEP_READ_TIMEOUT: no completion within 50 ms (R13). -/
def execSweepReadTimeout (a : Area) (s : State) : Host.Outcome State Fault Refusal :=
  act (fun e => if due (readDeadline a e.toState) e.toState then failRecord a e else e) s

/-- POOL_REBUILD_HAND_READ: the hand is loaded as the entry's taken hand, and the next hand is read (R24). The completion of
another read, an abandoned rebuild's too, is discarded (log 44). -/
def execPoolRebuildHandRead (hand : Completion Byte) (s : State) : Host.Outcome State Fault Refusal :=
  act (fun e => match e.pool.rebuild, answers .hand hand.read e.toState with
    | some r, true => nextHand r.next (modEntry r.next (fun x => { x with hand := hand.data, loaded := true }) e)
    | _, _ => e) s

/-- POOL_REBUILD_READ_FAIL: a page read error is counted and the entry stays unloaded (R25). -/
def execPoolRebuildReadFail (error : Option Nat) (s : State) : Host.Outcome State Fault Refusal :=
  act (fun e => match e.pool.rebuild with
    | some r => if readFailed .hand error (some r.readBy) e.toState then nextHand r.next (countReadError e) else e
    | none => e) s

end Sys2Proof.Machine
end

