-- ==== Sys2Proof/Machine/OrderCmds.lean ====
section
/-! DEFINITION. The orders carried out (R29 to R35, R43 to R50, R55, R57, R105, R144, R163, R164), the ends of the reads and waits
they start, and the cell's re-check (R33, R34). -/

namespace Sys2Proof.Machine

/-! ## START, HALT and CHECK_TEST (R29 to R31, R35) -/

/-- Why START is refused, if it is (R29). -/
def startRefusal (s : State) : Option Reason :=
  if !s.cell.standing then some .wrongMode
  else if allPorts.any (fun p => decide (shareCap p s < openHoldings p s)) then some .overShare
  else none

/-- The mode has changed: the header report is rewritten and ATTENTION.CELL set (R20, R6). -/
def showMode (e : Event) : Event := attend flagCell (writeHeader e)

/-- The sheet copy's cell check and budget, as START reads them (R30). -/
def sheetCheck (s : State) : Option Half := s.cell.sheet.map CellSheet.check

/-- The cell budget of the copy (R30, R61). -/
def sheetBudget (s : State) : Nat :=
  match s.cell.sheet with
  | some c => c.budget
  | none => 0

/-- An accepted START (R30). -/
def startCell (e : Event) : Event :=
  let e1 := forProgs disarmProgram { e with cell := { e.cell with storedCheck := sheetCheck e.toState } }
  let e2 := { e1 with
    trigger := { e1.trigger with encCount := 0, remainder := 0 }
    cell := { e1.cell with mode := .run, cause := some .start, recheckAt := timer Config.recheckPeriod e1 } }
  let e3 := showMode e2
  forPorts allPorts offerPowerUp { e3 with budget := { e3.budget with inForce := sheetBudget e3.toState } }

/-- START, judged by the Cell Controller and answered DONE or REFUSED (R29, R30, R43). -/
def carryStart (n : SlotNo) (e : Event) : Event :=
  match startRefusal e.toState with
  | some r => refuseSlot n r e
  | none => doneSlot n [] (startCell e)

/-- START. -/
def execStart (n : SlotNo) (s : State) : Host.Outcome State Fault Refusal :=
  act (fun e => match handedOrder n e.toState with
    | some .start => carryOut n .start (carryStart n) e
    | _ => e) s

/-- An order whose work takes time is RUNNING from its take; its answer shows no reason and no result yet (R38, R40). -/
def startSlot (n : SlotNo) (e : Event) : Event :=
  runSlot n (modSlot n (fun x => { x with reason := .none, field := 0, results := [] }) e)

/-- An accepted HALT: the mode change first, then the teardown; the answer waits for HALT_TEARDOWN_DONE (R31; log 37). -/
def carryHalt (n : SlotNo) (e : Event) : Event := teardown (startSlot n (showMode (leaveRun .halt e)))

/-- HALT. -/
def execHalt (n : SlotNo) (s : State) : Host.Outcome State Fault Refusal :=
  act (fun e => match handedOrder n e.toState with
    | some .halt => carryOut n .halt (carryHalt n) e
    | _ => e) s

/-- Is the slot's order a HALT that is RUNNING? -/
def Slot.halts (x : Slot) : Bool := x.state == .running && x.order == some .halt

/-- HALT_TEARDOWN_DONE: every block has reported its share done (R31). -/
def execHaltTeardownDone (s : State) : Host.Outcome State Fault Refusal :=
  act (fun e => (allSlots.filter fun n => (e.slots.get n).halts).foldl (fun acc n => doneSlot n [] acc) e) s

/-- CHECK_TEST: the stored check becomes the complement of what the copy computes to (R35). -/
def execCheckTest (n : SlotNo) (s : State) : Host.Outcome State Fault Refusal :=
  act (fun e => match handedOrder n e.toState with
    | some .checkTest => carryOut n .checkTest (fun x =>
        doneSlot n [] { x with cell := { x.cell with storedCheck := (sheetCheck x.toState).map (~~~ ·) } }) e
    | _ => e) s

/-! ## The re-check (R33, R34) -/

/-- CELL_CHECK: RUN is left with HALT's teardown, the stop latch is set, and the header report shows both (R34). -/
def cellCheck (e : Event) : Event := showMode (setStop (teardown (leaveRun .cellCheck e)))

/-- CELL_RECHECK: the next expiry is a period on; the copy's check is compared with the stored one. -/
def execCellRecheck (s : State) : Host.Outcome State Fault Refusal :=
  act (fun e => match e.cell.mode, e.cell.recheckAt with
    | .run, some t =>
      if t ≤ e.clock then
        let e1 := { e with cell := { e.cell with recheckAt := some (t + Config.recheckPeriod) } }
        if sheetCheck e1.toState = e1.cell.storedCheck then e1 else cellCheck e1
      else e
    | _, _ => e) s

/-! ## ARM and DISARM (R44, R105) -/

/-- ARM of a DISARMED program takes its record from the copy in force; any other is left as it is. -/
def armProgram (i : ProgNo) (e : Event) : Event :=
  match (e.trigger.programs.get i).state, e.cell.sheet with
  | .disarmed, some c => modProgram i (Program.arm (c.programs.get i) e.clock e.trigger.encCount) e
  | _, _ => e

/-- DISARM of an ARMED or RUNNING program; a DISARMED one is left as it is. -/
def disarmOrder (i : ProgNo) (e : Event) : Event :=
  if (e.trigger.programs.get i).state = .disarmed then e else disarmProgram i e

/-- DONE with the program's state and overrun count. -/
def doneProgram (n : SlotNo) (i : ProgNo) (e : Event) : Event := doneSlot n (armResults (e.trigger.programs.get i)) e

/-- ARM. -/
def execArm (n : SlotNo) (s : State) : Host.Outcome State Fault Refusal :=
  act (fun e => match handedOrder n e.toState with
    | some (.arm i) => carryOut n (.arm i) (fun x => doneProgram n i (armProgram i x)) e
    | _ => e) s

/-- DISARM. -/
def execDisarm (n : SlotNo) (s : State) : Host.Outcome State Fault Refusal :=
  act (fun e => match handedOrder n e.toState with
    | some (.disarm i) => carryOut n (.disarm i) (fun x => doneProgram n i (disarmOrder i x)) e
    | _ => e) s

/-! ## CANCEL (R45, R56, R57, R147, R158) -/

/-- The safe point of a SNAP: before its FRAME_OPEN it ends at once, its waiting decision dropped or its buffer handed back;
a frame that is FILLING is not interrupted (R56). A buffer whose entry a rebuild has removed is no longer the SNAP's to hand back
(log 45). -/
def stopSnap (p : Port) (r : SnapRun) (e : Event) : Event :=
  match r.shot with
  | none => endSnap p .cancelled .cancelledByOrder r.results (markClaims (Requester.isSnap r.slot) .dropped e)
  | some (tag, b) =>
    if r.opened then e
    else if (e.pool.entries[b]?).any (Entry.joins p .reserved tag) then
      tellIfDrained p (endSnap p .cancelled .cancelledByOrder r.results (returnGiven b e))
    else endSnap p .cancelled .cancelledByOrder r.results e

/-- The safe point of a focus sweep: before its present move has been granted it ends at once (R147). A step that needed no move and
fires, or waits for its frame, runs on and is recorded, as one after its grant does (log 67). -/
def stopSweep (p : Port) (w : SweepRun) (e : Event) : Event :=
  let ungranted := (e.port p).lens.state == .staged || (e.port p).lens.state == .waitPower
  match w.phase with
  | .choose => endSweep p .cancelled .cancelledByOrder e
  | .moving | .best => if ungranted then endSweep p .cancelled .cancelledByOrder e else e
  | .deciding | .frame => e

/-- The safe point of a probe: at once, but for HUSHING and CLAIMING, and ENDING after a failed hush (R158). -/
def stopProbe (p : Port) (r : ProbeRun) (e : Event) : Event :=
  match r.phase with
  | .classing | .draining | .pulsing => abortProbe p .cancelled .cancelledByOrder e
  | .hushing | .claiming | .ending => e

/-- The order running on port p, its stop mark just set, ends now if it is at a safe point. -/
def stopRunning (p : Port) (e : Event) : Event :=
  let q := e.port p
  match q.snap, q.cycle, q.sweep, q.probe with
  | some r, _, _, _ => stopSnap p r e
  | _, some _, _, _ => endCycle p .cancelled .cancelledByOrder e
  | _, _, some w, _ => stopSweep p w e
  | _, _, _, some r => stopProbe p r e
  | none, none, none, none => e

/-- A QUEUED target leaves its queue, its answer written, all result bytes zero (log 46); a change of head is reported and the
new head may begin (R45). -/
def cancelQueued (p : Port) (t : SlotNo) (e : Event) : Event :=
  let head := (e.port p).queue.head? == some (.order t)
  let e1 := finishSlot t .cancelled .cancelledByOrder 0 []
    (modPort p (fun q => { q with queue := q.queue.filter fun x => x != .order t }) e)
  if head then tell (.begin p) (touch p e1) else e1

/-- CANCEL of target t by the order in slot n (R45). -/
def carryCancel (n t : SlotNo) (e : Event) : Event :=
  let x := e.slots.get t
  match x.state, x.order.bind Order.queuePort with
  | .queued, some p => if t = n then refuseSlot n .notCancellable e else doneSlot n [0] (cancelQueued p t e)
  | .running, some p =>
    if t = n then refuseSlot n .notCancellable e
    else
      let e1 := doneSlot n [1] (modSlot t (fun y => { y with stopMark := true }) e)
      if x.stopMark then e1 else stopRunning p e1
  | _, _ => refuseSlot n .notCancellable e

/-- CANCEL. -/
def execCancel (n : SlotNo) (s : State) : Host.Outcome State Fault Refusal :=
  act (fun e => match handedOrder n e.toState with
    | some (.cancel t) => carryOut n (.cancel t) (carryCancel n t) e
    | _ => e) s

/-! ## CABLE_LOAD and CABLE_SAVE (R49, R50, R151, R152) -/

/-- CABLE_LOAD is refused while a probe runs on the port or a load for it does; else its read is issued (R49). -/
def carryLoad (n : SlotNo) (p : Port) (a : Addr) (e : Event) : Event :=
  if probeRuns p e || loadRuns p e.toState then refuseSlot n .busyTarget e
  else issueRead (.load n) a 128 (startSlot n (modSlot n (fun x => { x with loadBy := timer Config.readLimit e }) e))

/-- CABLE_LOAD. -/
def execCableLoad (n : SlotNo) (s : State) : Host.Outcome State Fault Refusal :=
  act (fun e => match handedOrder n e.toState with
    | some (.cableLoad p a) => carryOut n (.cableLoad p a) (carryLoad n p a) e
    | _ => e) s

/-- The port of the CABLE_LOAD that is RUNNING in slot n. -/
def loadingPort (n : SlotNo) (s : State) : Option Port :=
  let x := s.slots.get n
  match x.state, x.order with
  | .running, some (.cableLoad p _) => some p
  | _, _ => none

/-- The results of an order that gives a cable record state. -/
def cableResult (c : CableRec) : List Byte := putNum 1 c.state.code []

/-- The record read replaces the entry whole, or the load is REFUSED with the reason and field in error, the result byte zero
(log 47); then a probe that waited for the load may begin (R49, R52, R151). -/
def endLoad (n : SlotNo) (p : Port) (bytes : List Byte) (e : Event) : Event :=
  tell (.begin p) (match judgeCable bytes with
    | .ok c => doneSlot n (cableResult c) (modPort p (fun q => { q with cable := c }) e)
    | .error (r, f) => finishSlot n .refused r f [] e)

/-- CABLE_LOAD_READ_COMPLETE: the completion of another read than the slot's latest is discarded (log 42). -/
def execCableLoadReadComplete (n : SlotNo) (bytes : Completion (List Byte)) (s : State) : Host.Outcome State Fault Refusal :=
  act (fun e => match loadingPort n e.toState, answers (.load n) bytes.read e.toState with
    | some p, true => endLoad n p bytes.data e
    | _, _ => e) s

/-- CABLE_LOAD_TIMEOUT: ABORTED TIMEOUT, the entry left as it was (R49), the result byte zero (log 47). -/
def execCableLoadTimeout (n : SlotNo) (error : Option Nat) (s : State) : Host.Outcome State Fault Refusal :=
  act (fun e => match loadingPort n e.toState with
    | some p =>
      if readFailed (.load n) error (e.slots.get n).loadBy e.toState then
        tell (.begin p) (finishSlot n .aborted .timeout 0 [] e)
      else e
    | none => e) s

/-- CABLE_SAVE writes the record as it stands; it is refused while a load for the port runs (R50). -/
def carrySave (n : SlotNo) (p : Port) (a : Addr) (e : Event) : Event :=
  if loadRuns p e.toState then refuseSlot n .busyTarget e
  else doneSlot n (cableResult (e.port p).cable) (issue (.write a (e.port p).cable.bytes) e)

/-- CABLE_SAVE. -/
def execCableSave (n : SlotNo) (s : State) : Host.Outcome State Fault Refusal :=
  act (fun e => match handedOrder n e.toState with
    | some (.cableSave p a) => carryOut n (.cableSave p a) (carrySave n p a) e
    | _ => e) s

/-! ## The CLEAR orders (R46, R47, R48) -/

/-- CLEAR_BREAKS removes the matching records; each number freed is shown EMPTY in the mirror (R48, R18). -/
def carryClearBreaks (n : SlotNo) (port : Option Port) (activeToo : Bool) (e : Event) : Event :=
  let removed := e.faults.log.filter (BreakRec.clearedBy port activeToo)
  let kept := e.faults.log.filter fun r => !r.clearedBy port activeToo
  doneSlot n (putNum 1 removed.length [])
    (takeLog { LogEvent.begin kept with changed := removed.map (·.number) } e)

/-- CLEAR_BREAKS. -/
def execClearBreaks (n : SlotNo) (s : State) : Host.Outcome State Fault Refusal :=
  act (fun e => match handedOrder n e.toState with
    | some (.clearBreaks q a) => carryOut n (.clearBreaks q a) (carryClearBreaks n q a) e
    | _ => e) s

/-- CLEAR_FAULTS empties the latched set and answers it as it stood (R46). -/
def carryClearFaults (n : SlotNo) (p : Port) (e : Event) : Event :=
  let set := (e.port p).faults.latched
  let e1 := if set.toList.any id then
      touch p (modFaults p (fun f => { f with latched := Vector.replicate 9 false }) e)
    else e
  doneSlot n (latchResults set) e1

/-- CLEAR_FAULTS. -/
def execClearFaults (n : SlotNo) (s : State) : Host.Outcome State Fault Refusal :=
  act (fun e => match handedOrder n e.toState with
    | some (.clearFaults p) => carryOut n (.clearFaults p) (carryClearFaults n p) e
    | _ => e) s

/-- CLEAR_STOP: the result says whether the latch was set (R47). -/
def execClearStop (n : SlotNo) (s : State) : Host.Outcome State Fault Refusal :=
  act (fun e => match handedOrder n e.toState with
    | some .clearStop => carryOut n .clearStop (fun x => doneSlot n (flagResult x.faults.stopLatch) (clearStopLatch x)) e
    | _ => e) s

/-- CLEAR_LOCKOUT moves a LOCKED_OUT port to HELD with its retry count 0; any other is left as it is (R46). -/
def carryClearLockout (n : SlotNo) (p : Port) (e : Event) : Event :=
  if (e.port p).power.state = .lockedOut then
    doneSlot n (flagResult true) (setPower p .held (modPower p (fun w => { w with retry := 0 }) e))
  else doneSlot n (flagResult false) e

/-- CLEAR_LOCKOUT. -/
def execClearLockout (n : SlotNo) (s : State) : Host.Outcome State Fault Refusal :=
  act (fun e => match handedOrder n e.toState with
    | some (.clearLockout p) => carryOut n (.clearLockout p) (carryClearLockout n p) e
    | _ => e) s

/-! ## The queue orders (R52, R55, R57, R144, R153) -/

/-- SNAP. -/
def execSnap (n : SlotNo) (s : State) : Host.Outcome State Fault Refusal :=
  act (fun e => match handedOrder n e.toState with
    | some (.snap p _) => carryQueued p e
    | _ => e) s

/-- CYCLE. -/
def execCycle (n : SlotNo) (s : State) : Host.Outcome State Fault Refusal :=
  act (fun e => match handedOrder n e.toState with
    | some (.cycle p) => carryQueued p e
    | _ => e) s

/-- PROBE. -/
def execProbe (n : SlotNo) (s : State) : Host.Outcome State Fault Refusal :=
  act (fun e => match handedOrder n e.toState with
    | some (.probe p _ _) => carryQueued p e
    | _ => e) s

/-- LEARN. -/
def execLearn (n : SlotNo) (s : State) : Host.Outcome State Fault Refusal :=
  act (fun e => match handedOrder n e.toState with
    | some (.learn p _) => carryQueued p e
    | _ => e) s

/-- SWEEP. -/
def execSweep (n : SlotNo) (s : State) : Host.Outcome State Fault Refusal :=
  act (fun e => match handedOrder n e.toState with
    | some (.sweep p _) => carryQueued p e
    | _ => e) s

/-- CYCLE_HOLD_END: the hold of 500 ms is over (R57). -/
def execCycleHoldEnd (p : Port) (s : State) : Host.Outcome State Fault Refusal :=
  act (fun e => match (e.port p).cycle with
    | some c => if c.holdEnd ≤ e.clock then endCycle p .done .none e else e
    | none => e) s

end Sys2Proof.Machine
end

