-- ==== Sys2Proof/Machine/PowerCmds.lean ====
section
/-! DEFINITION. The commands of the power path: inrush (R67, R68), settling (R69), measurement and its judgement (R70 to R72), wake
(R75), the retry and steady timers (R81), and the Fault Unit's actions and cool-down (R169, R172). -/

namespace Sys2Proof.Machine

/-! ## Inrush and settling (R67 to R69) -/

/-- The trim that 16 readings give, and whether it is clamped: the average rounded toward zero, within ±63 mA (R67); the limit is
tested on the rounded average (log 49). -/
def trimOf (readings : Vector Int 16) : Int × Bool :=
  let avg := readings.toList.sum.tdiv 16
  if avg < -Config.trimLimit then (-Config.trimLimit, true)
  else if Config.trimLimit < avg then (Config.trimLimit, true)
  else (avg, false)

/-- TRIM_COMPLETE of the TRIMMING port: it leaves the queue and becomes INRUSH, and the stage is CHARGING. -/
def execTrimComplete (p : Port) (readings : Vector Int 16) (s : State) : Host.Outcome State Fault Refusal :=
  act (fun e =>
    if e.budget.stage = .trimming p then
      let t := trimOf readings
      let e1 := modPower p (fun w => { w with
        trim := t.1, trimClamped := t.2, chargeAt := timer Config.chargeTime e }) e
      setPower p .inrush { e1 with budget := { e1.budget with
        inrush := e1.budget.inrush.filter (fun q => q != p), stage := .charging p } }
    else e) s

/-- INRUSH_VOLTAGE_REACHED: at 90 % of the supply the port is SETTLING, and the stage takes the next head (R68). -/
def execInrushVoltageReached (p : Port) (portVoltage supply : Nat) (s : State) : Host.Outcome State Fault Refusal :=
  act (fun e =>
    if (e.port p).power.state = .inrush ∧ supply * 90 ≤ portVoltage * 100 then
      takeStage (leaveInrush p (setPower p .settling (modPower p (fun w => { w with
        chargeAt := none, settleAt := timer Config.settlingTime e }) e)))
    else e) s

/-- CHARGE_TIME_EXPIRY: INRUSH_TIMEOUT (R68). -/
def execChargeTimeExpiry (p : Port) (s : State) : Host.Outcome State Fault Refusal :=
  act (fun e =>
    if (e.port p).power.state = .inrush ∧ due (e.port p).power.chargeAt e.toState = true then
      powerFault p .inrushTimeout e
    else e) s

/-- SETTLING_END: the port is ON and its link WAKE (R69, R88). -/
def execSettlingEnd (p : Port) (s : State) : Host.Outcome State Fault Refusal :=
  act (fun e =>
    if (e.port p).power.state = .settling ∧ due (e.port p).power.settleAt e.toState = true then
      let e1 := setPower p .on (modPower p (fun w => { w with
        full := w.base, settleAt := none, steadyAt := timer Config.steadyTime e }) e)
      askCamera p (setLink p .wake e1)
    else e) s

/-! ## Supervision (R70 to R72, R75) -/

/-- CURRENT_MEASUREMENT: every port is measured, then each is judged, in ascending number. -/
def execCurrentMeasurement (readings : Vector Reading 8) (s : State) : Host.Outcome State Fault Refusal :=
  act (fun e => forPorts allPorts judgeCurrent
    (forPorts allPorts (fun p x => modPower p (PortPower.measure (readings.get p)) x) e)) s

/-- LIMIT_TIMER_EXPIRY: OVERLOAD (R71). -/
def execLimitTimerExpiry (p : Port) (s : State) : Host.Outcome State Fault Refusal :=
  act (fun e =>
    if (e.port p).power.state = .limit ∧ due (e.port p).power.limitAt e.toState = true then powerFault p .overload e
    else e) s

/-- WAKE_SETTLE_END: the port is ON, and a want of STANDBY is acted on (R75, R74). -/
def execWakeSettleEnd (p : Port) (s : State) : Host.Outcome State Fault Refusal :=
  act (fun e =>
    if (e.port p).power.state = .waking ∧ due (e.port p).power.wakeAt e.toState = true then
      tryStandby p (setPower p .on (modPower p (fun w => { w with wakeAt := none }) e))
    else e) s

/-! ## Retries (R81) -/

/-- RETRY_TIMER_END: power-up begins, or is held back while a probe runs. -/
def execRetryTimerEnd (p : Port) (s : State) : Host.Outcome State Fault Refusal :=
  act (fun e =>
    if (e.port p).power.state = .retryWait ∧ due (e.port p).power.retryAt e.toState = true then retryUp p e else e) s

/-- STEADY_TIMER_END: the retry count becomes 0. -/
def execSteadyTimerEnd (p : Port) (s : State) : Host.Outcome State Fault Refusal :=
  act (fun e =>
    if due (e.port p).power.steadyAt e.toState then
      modPower p (fun w => { w with retry := 0, steadyAt := none }) e
    else e) s

/-! ## Fault actions (R79, R169, R171, R172) -/

/-- A probe of port p whose hush has failed ends ABORTED LINK_LOST, once auto-probe has been considered for the LINK_LOST that the
failed hush raised: the last one of the port on its way (R155, R171; log 54). -/
def endFailedHush (x : SentAction) (rest : List SentAction) (e : Event) : Event :=
  if ((e.port x.port).probe.any fun r => r.phase == .ending) = true ∧ x.kind = .linkLost ∧
      (rest.any fun y => y.port == x.port && y.kind == .linkLost) = false then
    abortProbe x.port .aborted .linkLost e
  else e

/-- FAULT_ACTION_APPLIED: the oldest action sent is applied to the port as it stands, and reported back; auto-probe is then
considered with the enable that stood when the fault was raised (R23, R171; log 59), and a probe whose hush failed ends. -/
def execFaultActionApplied (s : State) : Host.Outcome State Fault Refusal :=
  act (fun e => match e.faults.sent with
    | [] => e
    | x :: rest => endFailedHush x rest (considerProbe x.port x.kind x.autoProbe
        (applyAction x.port x.action { e with faults := { e.faults with sent := rest } }))) s

/-- COOLDOWN_EXPIRY. -/
def execCooldownExpiry (p : Port) (s : State) : Host.Outcome State Fault Refusal :=
  act (fun e =>
    if due (e.port p).faults.cooldownAt e.toState then modFaults p (fun f => { f with cooldownAt := none }) e else e) s

end Sys2Proof.Machine
end

