-- ==== Sys2Proof/Machine/LinkCmds.lean ====
section
/-! DEFINITION. The commands of the port link: uplink packets in each link state (R85 to R90, R97, R124 to R126, R137), the link's
timers (R89, R92, R96), the downlink (R84, R95) and the error windows (R98, R99). -/

namespace Sys2Proof.Machine

/-! ## Uplink packets -/

/-- HELLO: in WAKE it enters TALK, in TALK and HUSHING it is a greeting again (R87, R90). -/
def execHello (p : Port) (h : HelloPacket) (s : State) : Host.Outcome State Fault Refusal :=
  act (fun e =>
    if (e.port p).link.state.receives then
      match helloOk h, lensKindOf h.lensCode.toNat with
      | true, some k => takeHello p k h e
      | _, _ => takeBad p e
    else e) s

/-- FRAME_OPEN (R124). -/
def execFrameOpen (p : Port) (tag width height : Half) (depth : Byte) (s : State) : Host.Outcome State Fault Refusal :=
  act (fun e => uplink p (frameOpenOk width height depth) (fun x =>
    match depthOf depth.toNat with
    | some d => openFrame p tag width height d x
    | none => x) e) s

/-- FRAME_DATA (R125). -/
def execFrameData (p : Port) (tag : Half) (offset : Word) (data : List Byte) (s : State) :
    Host.Outcome State Fault Refusal :=
  act (uplink p (frameDataOk data) (dataFrame p tag offset data)) s

/-- FRAME_CLOSE (R126). -/
def execFrameClose (p : Port) (tag : Half) (total : Word) (status : Byte) (s : State) :
    Host.Outcome State Fault Refusal :=
  act (uplink p true (closeFrame p tag total status)) s

/-- LENS_STATE (R137). -/
def execLensState (p : Port) (l : LensPacket) (s : State) : Host.Outcome State Fault Refusal :=
  act (uplink p (lensStateOk l) (lensReport p l)) s

/-- IDLE: the camera's input voltage passes to the Power Manager (R87, R70). -/
def execIdle (p : Port) (voltage : Half) (s : State) : Host.Outcome State Fault Refusal :=
  act (uplink p true (modPower p (fun w => { w with camVoltage := some voltage.toNat }))) s

/-- HUSHED: in HUSHING the link is HUSH and the probe is told; in TALK it is discarded (R87, R97). -/
def execHushed (p : Port) (s : State) : Host.Outcome State Fault Refusal :=
  act (uplink p true (fun e =>
    if (e.port p).link.state = .hushing then setLink p .hush (modLink p (fun l => { l with hushAt := none }) e) else e)) s

/-- BAD_PACKET (R86). -/
def execBadPacket (p : Port) (s : State) : Host.Outcome State Fault Refusal := act (takeBad p) s

/-! ## The link's timers -/

/-- ASK_INTERVAL: in WAKE, ASK is sent and the interval restarts (R89). -/
def execAskInterval (p : Port) (s : State) : Host.Outcome State Fault Refusal :=
  act (fun e =>
    if (e.port p).link.state = .wake ∧ due (e.port p).link.askAt e.toState = true then
      give p .ask (modLink p (fun l => { l with askAt := timer Config.askTime e }) e)
    else e) s

/-- GREETING_WAIT_EXPIRY: NO_CAMERA, with the identity cleared; the wait does not restart (R89). The report rewriting sets
ATTENTION.PORT whatever the route is (log 50). -/
def execGreetingWaitExpiry (p : Port) (s : State) : Host.Outcome State Fault Refusal :=
  act (fun e =>
    if (e.port p).link.state = .wake ∧ due (e.port p).link.greetAt e.toState = true then
      handleFault p .noCamera (touch p (modLink p (fun l => { l with greetAt := none, identity := none }) e))
    else e) s

/-- SILENCE_TIMER_EXPIRY: the link falls (R92, R93). -/
def execSilenceTimerExpiry (p : Port) (s : State) : Host.Outcome State Fault Refusal :=
  act (fun e =>
    if (e.port p).link.state = .talk ∧ due (e.port p).link.silenceAt e.toState = true then linkFall p e else e) s

/-- HUSH_WAIT_EXPIRY: the link falls and the hush has failed (R96, R93). -/
def execHushWaitExpiry (p : Port) (s : State) : Host.Outcome State Fault Refusal :=
  act (fun e =>
    if (e.port p).link.state = .hushing ∧ due (e.port p).link.hushAt e.toState = true then linkFall p e else e) s

/-! ## The downlink (R84, R95) -/

/-- A SETUP carries the copy's values as they stand when its sending begins (R95). -/
def freshSetup (q : PortState) : PortState :=
  match q.link.sending with
  | some (.setup _ _) => { q with link := { q.link with sending := some (setupPacket q) } }
  | _ => q

/-- The packet being sent on port p has gone out on the cable; the next one waiting begins to be sent. -/
def packetSent (p : Port) (k : Packet) (e : Event) : Event :=
  modPort p (fun q => freshSetup { q with link := nextPacket q.link }) { e with cableOut := e.cableOut ++ [(p, k.bytes)] }

/-- DOWNLINK_PACKET_SENT: of any packet but HUSH. -/
def execDownlinkPacketSent (p : Port) (s : State) : Host.Outcome State Fault Refusal :=
  act (fun e => match (e.port p).link.sending with
    | some k => if k = .hush then e else packetSent p k e
    | none => e) s

/-- HUSH_SENT: in HUSHING the hush wait starts (R96). -/
def execHushSent (p : Port) (s : State) : Host.Outcome State Fault Refusal :=
  act (fun e =>
    if (e.port p).link.sending = some .hush then
      let e1 := packetSent p .hush e
      if (e.port p).link.state = .hushing then modLink p (fun l => { l with hushAt := timer Config.hushTime e }) e1 else e1
    else e) s

/-! ## Windows (R98, R99) -/

/-- WINDOW_END: the window ends at every port, port by port (log 78), and the next window's marks are set from the line. -/
def execWindowEnd (s : State) : Host.Outcome State Fault Refusal :=
  act (fun e =>
    if e.trigger.windowAt ≤ e.clock then
      let e1 := endWindows e
      { e1 with trigger := { e1.trigger with
          seenHigh := e1.trigger.motion, seenLow := !e1.trigger.motion
          windowAt := e1.trigger.windowAt + Config.windowTime } }
    else e) s

end Sys2Proof.Machine
end

