-- ==== Sys2Proof/Machine/TriggerCmds.lean ====
section
/-! DEFINITION. The commands of the cell lines and the trigger programs: the filtered edges (R98, R102, R103, R106), source events,
steps and strobe ends (R106, R107, R113). -/

namespace Sys2Proof.Machine

/-- Does a raw level change the filtered one: it has stood for 1 µs and differs (R102)? -/
def passes (level filtered : Bool) (stoodNs : Nat) : Bool := decide (Config.filterNs ≤ stoodNs) && level != filtered

/-- MOTION_CHANGE: the change sets the mark of the new level in this window (R98). -/
def execMotionChange (level : Bool) (stoodNs : Nat) (s : State) : Host.Outcome State Fault Refusal :=
  act (fun e =>
    if passes level e.trigger.motion stoodNs then
      { e with trigger := { e.trigger with
          motion := level, seenHigh := e.trigger.seenHigh || level, seenLow := e.trigger.seenLow || !level } }
    else e) s

/-- Does the counted edge include a change to this level (R103)? -/
def Edge.counts (level : Bool) : Edge → Bool
  | .rise => level
  | .fall => !level
  | .both => true

/-- A counted edge: the remainder, and at the divider a divided count, offered to the ENCODER programs (R103, R106). -/
def countEdge (divider : Nat) (e : Event) : Event :=
  if e.trigger.remainder + 1 < divider then
    { e with trigger := { e.trigger with remainder := e.trigger.remainder + 1 } }
  else
    forProgs encoderEvent { e with trigger := { e.trigger with remainder := 0, encCount := e.trigger.encCount + 1 } }

/-- ENCODER_EDGE. -/
def execEncoderEdge (level : Bool) (stoodNs : Nat) (s : State) : Host.Outcome State Fault Refusal :=
  act (fun e =>
    if passes level e.trigger.enc stoodNs then
      let e1 := { e with trigger := { e.trigger with enc := level } }
      let x := encoderSetting e.toState
      if x.1.counts level then countEdge x.2 e1 else e1
    else e) s

/-- TRIG_EDGE: a source event to every ARMED or RUNNING program of its kind (R106). -/
def execTrigEdge (level : Bool) (stoodNs : Nat) (s : State) : Host.Outcome State Fault Refusal :=
  act (fun e =>
    if passes level e.trigger.trig stoodNs then
      forProgs (lineEvent level) { e with trigger := { e.trigger with trig := level } }
    else e) s

/-- TIMER_SOURCE_EVENT: the next one is a period on (R106). -/
def execTimerSourceEvent (i : ProgNo) (s : State) : Host.Outcome State Fault Refusal :=
  act (fun e =>
    let g := e.trigger.programs.get i
    match g.state, g.nextEvent with
    | .disarmed, _ | _, none => e
    | _, some t =>
      if t ≤ e.clock then sourceEvent i (modProgram i (fun x => { x with nextEvent := some (t + x.record.period) }) e)
      else e) s

/-- STEP_REACHED: a RUNNING program reaches its next step at its run start plus the step's offset (R107). -/
def execStepReached (i : ProgNo) (s : State) : Host.Outcome State Fault Refusal :=
  act (fun e =>
    let g := e.trigger.programs.get i
    match g.state, g.record.steps[g.nextStep]? with
    | .running, some x => if g.runStart + x.offset ≤ e.clock then reachStep i g.nextStep x e else e
    | _, _ => e) s

/-- STROBE_END: the line is inactive and its end time none (R113). -/
def execStrobeEnd (l : LineNo) (s : State) : Host.Outcome State Fault Refusal :=
  act (fun e =>
    if due (e.trigger.strobes.get l) e.toState then
      { e with trigger := { e.trigger with strobes := putAt e.trigger.strobes l none } }
    else e) s

end Sys2Proof.Machine
end

