-- ==== Sys2Proof/Machine/PortCmds.lean ====
section
/-! DEFINITION. The timers of the pool's frames (R123, R127), of the lenses (R140, R142) and of the probes (R154), and the end of a
pulse set (R156, R157, R164). -/

namespace Sys2Proof.Machine

/-! ## Frames -/

/-- RESERVED_TIMEOUT: the buffer returns to GIVEN and who fired it is told that no frame came (R123, R55, R145). -/
def execReservedTimeout (b : BufNo) (s : State) : Host.Outcome State Fault Refusal :=
  act (fun e => match e.pool.entries[b.val]? with
    | some x =>
      match x.state, x.owner, due x.reservedBy e.toState with
      | .reserved, some p, true => frameEnded p b.val x false (returnGiven b.val e)
      | _, _, _ => e
    | none => e) s

/-- FILLING_SILENCE_EXPIRY: the frame is delivered TRUNCATED_LATE (R127). -/
def execFillingSilenceExpiry (b : BufNo) (s : State) : Host.Outcome State Fault Refusal :=
  act (fun e => match e.pool.entries[b.val]? with
    | some x =>
      match x.state, x.owner, due x.silenceBy e.toState with
      | .filling, some p, true => deliverFrame p b.val .truncatedLate e
      | _, _, _ => e
    | none => e) s

/-! ## Lenses -/

/-- STAGING_TIMER_EXPIRY sets the staging mark, and a STAGED lens is tested (R140). -/
def execStagingTimerExpiry (p : Port) (s : State) : Host.Outcome State Fault Refusal :=
  act (fun e =>
    if due (e.port p).lens.stagingAt e.toState then
      tell (.lens p) (modLens p (fun r => { r with stagingAt := none, stagingMark := true }) e)
    else e) s

/-- STUCK_TIMER_EXPIRY: LENS_STUCK (R142). -/
def execStuckTimerExpiry (p : Port) (s : State) : Host.Outcome State Fault Refusal :=
  act (fun e =>
    if (e.port p).lens.state = .moving ∧ due (e.port p).lens.stuckAt e.toState = true then stuckLens p e else e) s

/-! ## Probes -/

/-- PROBE_READY_TIMEOUT: the probe ends ABORTED TIMEOUT with no pulse sent (R154). -/
def execProbeReadyTimeout (p : Port) (s : State) : Host.Outcome State Fault Refusal :=
  act (fun e => match (e.port p).probe with
    | some r => if due r.readyBy e.toState then abortProbe p .aborted .timeout e else e
    | none => e) s

/-- The trace data of a pulse set goes to the probe's trace buffer, from offset 0 (R156). -/
def writeTrace (r : ProbeRun) (a : List Int) (e : Event) : Event :=
  match r.trace.buffer with
  | some b => fillData b 0 (traceBytes a) e
  | none => e

/-- The echoes of a set: a PROBE or internal probe is complete; a LEARN is complete at its fourth set (R156, R164). -/
def takeSet (p : Port) (r : ProbeRun) (echoes : List Echo) (e : Event) : Event :=
  match r.job with
  | .order _ _ | .auto => finishProbe p r [echoes] e
  | .learn _ =>
    let sets := r.sets ++ [echoes]
    if sets.length < 4 then modProbe p (fun x => { x with sets }) e else finishProbe p r sets e

/-- PULSE_SET_END: the samples are averaged over the probe window, the trace is written and the echoes are taken. -/
def execPulseSetEnd (p : Port) (samples : Vector (List Int) 16) (s : State) : Host.Outcome State Fault Refusal :=
  act (fun e => match (e.port p).probe with
    | some r =>
      if r.phase = .pulsing then
        let a := averaged r.window samples.toList
        takeSet p r (echoesOf r.echoThreshold a) (writeTrace r a e)
      else e
    | none => e) s

end Sys2Proof.Machine
end

