-- ==== Sys2Proof/Machine/Dispatch.lean ====
section
/-! DEFINITION. The meaning of every command: one arm per constructor of Instr, each a direct call. -/

namespace Sys2Proof.Machine

/-- The effect of a command on everything but the queue. -/
def exec (i : Instr) (s : State) : Host.Outcome State Fault Refusal :=
  match i with
  | .powerOnReset enc trig motion => Sys2Proof.Machine.execPowerOnReset enc trig motion s
  | .lineReset => Sys2Proof.Machine.execLineReset s
  | .lineResetRelease enc trig motion => Sys2Proof.Machine.execLineResetRelease enc trig motion s
  | .registerWriteOther offset size value => Sys2Proof.Machine.execRegisterWriteOther offset size value s
  | .serviceWrite value => Sys2Proof.Machine.execServiceWrite value s
  | .pageTake hi => Sys2Proof.Machine.execPageTake hi s
  | .pageRelease => Sys2Proof.Machine.execPageRelease s
  | .pageHeaderReadComplete reply => Sys2Proof.Machine.execPageHeaderReadComplete reply s
  | .pageHeaderReadTimeout => Sys2Proof.Machine.execPageHeaderReadTimeout s
  | .noticeCellSheet => Sys2Proof.Machine.execNoticeCellSheet s
  | .noticePortSheet p => Sys2Proof.Machine.execNoticePortSheet p s
  | .noticeOrders => Sys2Proof.Machine.execNoticeOrders s
  | .noticePool => Sys2Proof.Machine.execNoticePool s
  | .attentionClear value => Sys2Proof.Machine.execAttentionClear value s
  | .attentionMaskWrite value => Sys2Proof.Machine.execAttentionMaskWrite value s
  | .sweepStart a => Sys2Proof.Machine.execSweepStart a s
  | .sweepRecordRead a bytes => Sys2Proof.Machine.execSweepRecordRead a bytes s
  | .sweepReadFail a => Sys2Proof.Machine.execSweepReadFail a s
  | .sweepReadTimeout a => Sys2Proof.Machine.execSweepReadTimeout a s
  | .poolRebuildHandRead hand => Sys2Proof.Machine.execPoolRebuildHandRead hand s
  | .poolRebuildReadFail error => Sys2Proof.Machine.execPoolRebuildReadFail error s
  | .headerRefresh => Sys2Proof.Machine.execHeaderRefresh s
  | .portReportRefresh => Sys2Proof.Machine.execPortReportRefresh s
  | .start slot => Sys2Proof.Machine.execStart slot s
  | .halt slot => Sys2Proof.Machine.execHalt slot s
  | .haltTeardownDone => Sys2Proof.Machine.execHaltTeardownDone s
  | .arm slot => Sys2Proof.Machine.execArm slot s
  | .disarm slot => Sys2Proof.Machine.execDisarm slot s
  | .cancel slot => Sys2Proof.Machine.execCancel slot s
  | .cableLoad slot => Sys2Proof.Machine.execCableLoad slot s
  | .cableLoadReadComplete slot bytes => Sys2Proof.Machine.execCableLoadReadComplete slot bytes s
  | .cableLoadTimeout slot error => Sys2Proof.Machine.execCableLoadTimeout slot error s
  | .cableSave slot => Sys2Proof.Machine.execCableSave slot s
  | .clearBreaks slot => Sys2Proof.Machine.execClearBreaks slot s
  | .clearFaults slot => Sys2Proof.Machine.execClearFaults slot s
  | .clearStop slot => Sys2Proof.Machine.execClearStop slot s
  | .clearLockout slot => Sys2Proof.Machine.execClearLockout slot s
  | .checkTest slot => Sys2Proof.Machine.execCheckTest slot s
  | .snap slot => Sys2Proof.Machine.execSnap slot s
  | .cycle slot => Sys2Proof.Machine.execCycle slot s
  | .probe slot => Sys2Proof.Machine.execProbe slot s
  | .learn slot => Sys2Proof.Machine.execLearn slot s
  | .sweep slot => Sys2Proof.Machine.execSweep slot s
  | .cycleHoldEnd p => Sys2Proof.Machine.execCycleHoldEnd p s
  | .cellRecheck => Sys2Proof.Machine.execCellRecheck s
  | .trimComplete p readings => Sys2Proof.Machine.execTrimComplete p readings s
  | .inrushVoltageReached p portVoltage supply => Sys2Proof.Machine.execInrushVoltageReached p portVoltage supply s
  | .chargeTimeExpiry p => Sys2Proof.Machine.execChargeTimeExpiry p s
  | .settlingEnd p => Sys2Proof.Machine.execSettlingEnd p s
  | .currentMeasurement readings => Sys2Proof.Machine.execCurrentMeasurement readings s
  | .limitTimerExpiry p => Sys2Proof.Machine.execLimitTimerExpiry p s
  | .wakeSettleEnd p => Sys2Proof.Machine.execWakeSettleEnd p s
  | .retryTimerEnd p => Sys2Proof.Machine.execRetryTimerEnd p s
  | .steadyTimerEnd p => Sys2Proof.Machine.execSteadyTimerEnd p s
  | .faultActionApplied => Sys2Proof.Machine.execFaultActionApplied s
  | .cooldownExpiry p => Sys2Proof.Machine.execCooldownExpiry p s
  | .hello p h => Sys2Proof.Machine.execHello p h s
  | .frameOpen p tag width height depth => Sys2Proof.Machine.execFrameOpen p tag width height depth s
  | .frameData p tag offset data => Sys2Proof.Machine.execFrameData p tag offset data s
  | .frameClose p tag total status => Sys2Proof.Machine.execFrameClose p tag total status s
  | .lensState p l => Sys2Proof.Machine.execLensState p l s
  | .idle p voltage => Sys2Proof.Machine.execIdle p voltage s
  | .hushed p => Sys2Proof.Machine.execHushed p s
  | .badPacket p => Sys2Proof.Machine.execBadPacket p s
  | .askInterval p => Sys2Proof.Machine.execAskInterval p s
  | .greetingWaitExpiry p => Sys2Proof.Machine.execGreetingWaitExpiry p s
  | .silenceTimerExpiry p => Sys2Proof.Machine.execSilenceTimerExpiry p s
  | .hushSent p => Sys2Proof.Machine.execHushSent p s
  | .hushWaitExpiry p => Sys2Proof.Machine.execHushWaitExpiry p s
  | .windowEnd => Sys2Proof.Machine.execWindowEnd s
  | .motionChange level stoodNs => Sys2Proof.Machine.execMotionChange level stoodNs s
  | .encoderEdge level stoodNs => Sys2Proof.Machine.execEncoderEdge level stoodNs s
  | .trigEdge level stoodNs => Sys2Proof.Machine.execTrigEdge level stoodNs s
  | .timerSourceEvent prog => Sys2Proof.Machine.execTimerSourceEvent prog s
  | .stepReached prog => Sys2Proof.Machine.execStepReached prog s
  | .strobeEnd l => Sys2Proof.Machine.execStrobeEnd l s
  | .reservedTimeout b => Sys2Proof.Machine.execReservedTimeout b s
  | .fillingSilenceExpiry b => Sys2Proof.Machine.execFillingSilenceExpiry b s
  | .stagingTimerExpiry p => Sys2Proof.Machine.execStagingTimerExpiry p s
  | .stuckTimerExpiry p => Sys2Proof.Machine.execStuckTimerExpiry p s
  | .probeReadyTimeout p => Sys2Proof.Machine.execProbeReadyTimeout p s
  | .pulseSetEnd p samples => Sys2Proof.Machine.execPulseSetEnd p samples s
  | .pcieConfigurationWrite enable vector => Sys2Proof.Machine.execPcieConfigurationWrite enable vector s
  | .downlinkPacketSent p => Sys2Proof.Machine.execDownlinkPacketSent p s
  | .pageReleaseEnd => Sys2Proof.Machine.execPageReleaseEnd s
  | .supplyLoss => Sys2Proof.Machine.execSupplyLoss s

end Sys2Proof.Machine
end

