-- ==== Sys2Proof/Machine/Own.lean ====
section
/-! DEFINITION. What the part does of its own accord while no command waits: the commands it owes at once, and those of the timers
that a tick of 1 µs makes due (R101; log 4). -/

namespace Sys2Proof.Machine

/-- The command of an order's kind, taken from slot n. -/
def Order.command (n : SlotNo) : Order → Instr
  | .start => .start n
  | .halt => .halt n
  | .arm _ => .arm n
  | .disarm _ => .disarm n
  | .cancel _ => .cancel n
  | .cableLoad _ _ => .cableLoad n
  | .cableSave _ _ => .cableSave n
  | .clearBreaks _ _ => .clearBreaks n
  | .clearFaults _ => .clearFaults n
  | .clearStop => .clearStop n
  | .snap _ _ => .snap n
  | .cycle _ => .cycle n
  | .probe _ _ _ => .probe n
  | .learn _ _ => .learn n
  | .sweep _ _ => .sweep n
  | .clearLockout _ => .clearLockout n
  | .checkTest => .checkTest n

/-- The eleven areas. -/
def allAreas : List Area :=
  [.cellSheet, .portSheet 0, .portSheet 1, .portSheet 2, .portSheet 3, .portSheet 4, .portSheet 5, .portSheet 6,
   .portSheet 7, .orders, .pool]

/-- May the area begin its sweep? A POOL sweep waits for a rebuild (R25). -/
def startable (s : State) (a : Area) : Bool :=
  areaState a s == .pending && (a != .pool || s.pool.rebuild.isNone)

/-- The command when the condition holds. -/
def when (b : Bool) (c : Instr) : List Instr := if b then [c] else []

/-- The command that carries out the order handed over (R43). -/
def handedCommand (s : State) : List Instr :=
  match s.handed with
  | some n => match (s.slots.get n).order with
    | some o => [o.command n]
    | none => []
  | none => []

/-- The offset of program i's next step has come: a RUNNING program reaches its step (R107). -/
def stepDue (s : State) (i : ProgNo) : Bool :=
  let g := s.trigger.programs.get i
  g.state == .running && due ((g.record.steps[g.nextStep]?).map fun x => g.runStart + x.offset) s

/-- What the part owes at once: the order handed over, a fault action on its way, a teardown or a release to report ended, the
sweeps that are owed, and the steps that are due: steps of equal offset are reached at the same cell time (R107). -/
def owedNow (s : State) : List Instr :=
  handedCommand s ++ when (!s.faults.sent.isEmpty) .faultActionApplied ++
  when (allSlots.any fun n => (s.slots.get n).halts) .haltTeardownDone ++ when s.page.releasing .pageReleaseEnd ++
  (allAreas.filter (startable s)).map .sweepStart ++ (allProgs.filter (stepDue s)).map .stepReached

/-- The timers of port p that are due. -/
def portTimers (s : State) (p : Port) : List Instr :=
  let q := s.ports.get p
  when (due q.power.chargeAt s) (.chargeTimeExpiry p) ++ when (due q.power.settleAt s) (.settlingEnd p) ++
  when (due q.power.limitAt s) (.limitTimerExpiry p) ++ when (due q.power.wakeAt s) (.wakeSettleEnd p) ++
  when (due q.power.retryAt s) (.retryTimerEnd p) ++ when (due q.power.steadyAt s) (.steadyTimerEnd p) ++
  when (due q.faults.cooldownAt s) (.cooldownExpiry p) ++ when (due q.link.askAt s) (.askInterval p) ++
  when (due q.link.greetAt s) (.greetingWaitExpiry p) ++ when (due q.link.silenceAt s) (.silenceTimerExpiry p) ++
  when (due q.link.hushAt s) (.hushWaitExpiry p) ++ when (due q.lens.stagingAt s) (.stagingTimerExpiry p) ++
  when (due q.lens.stuckAt s) (.stuckTimerExpiry p) ++ when (due (q.cycle.map (·.holdEnd)) s) (.cycleHoldEnd p) ++
  when (due (q.probe.bind (·.readyBy)) s) (.probeReadyTimeout p)

/-- The times of program i that are due. -/
def programTimers (s : State) (i : ProgNo) : List Instr :=
  let g := s.trigger.programs.get i
  when (due g.nextEvent s) (.timerSourceEvent i) ++ when (stepDue s i) (.stepReached i)

/-- The timers of buffer b that are due. -/
def bufferTimers (s : State) (b : Nat) : List Instr :=
  match s.pool.entries[b]? with
  | some x =>
    when (due x.reservedBy s) (.reservedTimeout (Fin.ofNat 128 b)) ++
    when (due x.silenceBy s) (.fillingSilenceExpiry (Fin.ofNat 128 b))
  | none => []

/-- The reads that have had no completion within 50 ms. -/
def readTimers (s : State) : List Instr :=
  when (due s.page.headerReadBy s) .pageHeaderReadTimeout ++
  (allAreas.filter fun a => due (readDeadline a s) s).map .sweepReadTimeout ++
  when (due (s.pool.rebuild.map (·.readBy)) s) (.poolRebuildReadFail none) ++
  (allSlots.filter fun n => due (s.slots.get n).loadBy s).map fun n => .cableLoadTimeout n none

/-- The cell-wide times that are due: the refreshes every 250 ms (R6, R28), the re-check, the window end, the strobes. -/
def cellTimers (s : State) : List Instr :=
  (if s.clock % Config.refreshPeriod = 0 then [.headerRefresh, .portReportRefresh] else []) ++
  when (due s.cell.recheckAt s) .cellRecheck ++ when (due (some s.trigger.windowAt) s) .windowEnd ++
  (allLines.filter fun l => due (s.trigger.strobes.get l) s).map .strobeEnd

/-- Everything that is due. -/
def dueCommands (s : State) : List Instr :=
  readTimers s ++ cellTimers s ++ allPorts.flatMap (portTimers s) ++ allProgs.flatMap (programTimers s) ++
  (List.range s.pool.entries.length).flatMap (bufferTimers s)

/-- A tick: cell time advances by 1 µs, and the commands then due wait in the queue. -/
def tick (s : State) : State :=
  let s1 := { s with clock := s.clock + 1 }
  { s1 with pending := dueCommands s1 }

/-- The step of a part with no command waiting: what it owes at once, or a tick. A part that is unpowered or held in reset
idles. -/
def ownStep (s : State) : State :=
  if live s then
    match owedNow s with
    | [] => tick s
    | cs => { s with pending := cs }
  else s

end Sys2Proof.Machine
end

