-- ==== Sys2Proof/Safety.lean ====
section
/-! DEFINITION. What the statements about the part are said with: the state after its port reports are rewritten, the states a
run can reach, and the invariants. -/

namespace Sys2Proof.Machine

/-! ## The end of an event -/

/-- The state s after the report parts of the ports given are rewritten, in that order, each with its ATTENTION.PORT flag
(R28). While the page is not HELD nothing is written and no flag is set. -/
def State.reported (ps : List Port) (s : State) : State := (forPorts ps reportPort (Event.of s)).toState

/-- The state s after its header report is rewritten and a set of flags is set (R6, R14). -/
def State.headerShown (bits : BitVec 14) (s : State) : State := (attend bits (writeHeader (Event.of s))).toState

/-- The state s after slot n has reached a final state with a reason, a field number and results (R38 to R40). -/
def State.finished (n : SlotNo) (st : SlotState) (r : Reason) (field : Nat) (results : List Byte) (s : State) : State :=
  (finishSlot n st r field results (Event.of s)).toState

/-- The state s after slot n has become RUNNING and its answer part is written (R40). -/
def State.ran (n : SlotNo) (s : State) : State := (runSlot n (Event.of s)).toState

/-- The state s once the record being dealt with in a sweep of area a is done: the sweep goes on with its next read or ends
(R11, R12). -/
def State.nextRead (a : Area) (s : State) : State := (nextRecord a (Event.of s)).toState

/-- The state s once the order handed over has been carried out: the ORDERS sweep goes on (R12, R43). -/
def State.carried (s : State) : State := State.nextRead .orders { s with handed := none }

/-- The flags AND the mask: what the ATTENTION register shows, and whose rise from zero sends a message (R15). -/
def State.uncovered (s : State) : BitVec 14 := s.page.attention &&& s.page.mask

/-- The interrupt message that is sent when messages are enabled and a vector is granted (R15, R184). -/
def State.messages (s : State) : List Traffic :=
  match s.pcie.enable, s.pcie.vector with
  | true, some (a, d) => [.message a d]
  | _, _ => []

/-- The messages that a change to these flags and this mask sends: one when flags AND mask rises from zero (R15). -/
def State.risen (flags mask : BitVec 14) (s : State) : List Traffic :=
  if s.uncovered = 0 ∧ flags &&& mask ≠ 0 then s.messages else []

/-- The three writes that rewrite a part-written area at `a` whose report count stood at `count` (R10). -/
def areaWrites (a : Addr) (count : Word) (fields : List Byte) : List Traffic :=
  [.write a (leBytes 4 (count + 1).toNat), .write (a + 4) fields, .write a (leBytes 4 (count + 2).toNat)]

/-- The three writes that rewrite port p's report part (R28, R10). -/
def portWrites (s : State) (p : Port) : List Traffic :=
  areaWrites (sheetAddr p s + 0x180) (s.ports.get p).reportCount
    ((portReport p ((s.ports.get p).reportCount + 1) s).drop 4)

/-- The three writes that rewrite mirror record n of a page at `a` from a log, its report count having stood at `count` (R18,
R10). -/
def mirrorWrites (a : Addr) (count : Word) (log : List BreakRec) (n : Fin 16) : List Traffic :=
  areaWrites (a + BitVec.ofNat 64 (0x3500 + n.val * 0x40)) count (mirrorBody n.val (log.find? fun r => r.number == n.val))

/-- The state s with the tracker of a new layout (R24): every entry OUT without an owner, its hand not loaded; a trace whose buffer is
lost is omitted (R25); and, when there is a record, the read of record 0's hand issued with its limit of 50 ms. -/
def State.rebuilt (l : Layout) (s : State) : State :=
  { s with
    ports := s.ports.map fun q => { q with probe := q.probe.map fun r =>
      { r with trace := if r.trace.buffer.isSome then .omitted else r.trace } }
    pool := { s.pool with
      layout := some l, entries := List.replicate l.count Entry.fresh, rebuildOwed := none
      rebuild := if l.count = 0 then none else some { next := 0, readBy := s.clock + 50000 } }
    reads := if l.count = 0 then s.reads else s.reads.issued .hand
    traffic := s.traffic ++ if l.count = 0 then [] else [.read s.reads.next (l.addr + 0x0F) 1] }

/-- The claims that a walk grants and those it leaves waiting: from the oldest on, each that fits the room then left (R63). -/
def walked : Nat → List PowerClaim → List PowerClaim × List PowerClaim
  | _, [] => ([], [])
  | room, c :: cs =>
    if c.amount ≤ room then (c :: (walked (room - c.amount) cs).1, (walked (room - c.amount) cs).2)
    else ((walked room cs).1, c :: (walked room cs).2)

/-- The POWER_UP claim of port p, for its declared power (R60, R62, R65). -/
def powerUpClaim (s : State) (p : Port) : PowerClaim :=
  { port := p, kind := .powerUp, amount := allotment p (declaredPower (s.ports.get p)) s
    rating := declaredPower (s.ports.get p) }

/-- A power record that a granted POWER_UP claim has put in the inrush queue (R66). -/
def PortPower.granted (c : PowerClaim) (w : PortPower) : PortPower :=
  { w with state := .queued, base := c.amount, rating := some c.rating }

/-- The stage of an inrush queue: a FREE one serves the head (R67). -/
def stageOf (stage : InrushStage) (queue : List Port) : InrushStage :=
  match stage, queue with
  | .free, p :: _ => .trimming p
  | x, _ => x

/-- The CANCEL in slot n has ended the order running in slot t, alone in the queue of port p, at its safe point: the target is CANCELLED
with these results, the CANCEL is DONE with result 1, and the queue is empty (R45). -/
abbrev StopAnswered (n t : SlotNo) (p : Port) (results : List Byte) (s : State) : Prop :=
  (s.slots.get t).state = .cancelled ∧ (s.slots.get t).reason = .cancelledByOrder ∧ (s.slots.get t).results = results ∧
  (s.slots.get t).stopMark = false ∧ (s.slots.get n).state = .done ∧ (s.slots.get n).results = [1] ∧ (s.ports.get p).queue = []

/-- A lens record that is ABSENT, UNKNOWN or MOVING after a take of the want w (R138): nothing is claimed or moved. -/
def LensRec.noted (w : Axes) (r : LensRec) : LensRec :=
  if r.state = .absent then (r.formWant w).2 else { (r.formWant w).2 with staged := (r.formWant w).1, stagedBy := .sheet }

/-! ## Runs -/

/-- The states that a run reaches: from reset, by steps, with any commands sent by anyone at any time. -/
inductive Reachable : State → Prop where
  | reset : Reachable State.reset
  | send (s : State) (c : Instr) : Reachable s → Reachable { s with pending := s.pending ++ [c] }
  | step (s t : State) : Reachable s → step s = .next t → Reachable t

/-! ## Invariants -/

/-- What the hand-off, the mode and the sheet keep between them (R2, R20, R29, R33, R36, R61, R103): the cell is in SETUP
exactly while the page is not HELD; the re-check timer runs exactly in RUN; a header read is outstanding exactly in TAKING; RUN
has a standing sheet, and a standing sheet is a copy; there is a budget in force only in RUN; and the encoder remainder is 0 or
below the divider. -/
structure HandOff (s : State) : Prop where
  held : s.page.taken = .held ↔ s.cell.mode ≠ .setup
  recheck : s.cell.recheckAt.isSome = true ↔ s.cell.mode = .run
  header : s.page.headerReadBy.isSome = true ↔ s.page.taken = .taking
  standing : s.cell.mode = .run → s.cell.standing = true
  copied : s.cell.standing = true → s.cell.sheet.isSome = true
  funded : s.budget.inForce ≠ 0 → s.cell.mode = .run
  divided : s.trigger.remainder = 0 ∨ s.trigger.remainder < (encoderSetting s).2

/-- The break log holds at most 16 records, with distinct numbers below 16 (R175). -/
structure LogOk (log : List BreakRec) : Prop where
  room : log.length ≤ 16
  distinct : (log.map (·.number)).Nodup
  numbered : ∀ r ∈ log, r.number < 16

/-- R175's law of the break log: no two ACTIVE records share port and kind with echo times within 8 ticks of each other, nor are
there two ACTIVE FLICKER records for one port. -/
def LogApart (log : List BreakRec) : Prop :=
  log.Pairwise fun a b => a.active = true → b.active = true → a.port = b.port → a.kind = b.kind →
    a.kind ≠ .flicker ∧ 8 < absDiff (a.ticks.getD 0) (b.ticks.getD 0)

/-- The laws of the allotments and of the budget, and the law that a link is DARK unless its port is powered (R60, R61, R65, R88,
R94). -/
structure Budgeted (s : State) : Prop where
  base : ∀ p, (s.ports.get p).power.base ≠ 0 ↔ (s.ports.get p).power.state.powered = true
  motion : ∀ p, (s.ports.get p).power.motion ≠ 0 ↔ (s.ports.get p).lens.state = .moving
  inRun : s.cell.mode = .run → s.budget.inForce = sheetBudget s
  outside : s.cell.mode ≠ .run → s.budget.inForce = 0
  within : allotted s ≤ s.budget.inForce
  settled : s.cell.mode ≠ .run → ∀ p, (s.ports.get p).power.state = .off ∨ (s.ports.get p).power.state = .held ∨
    (s.ports.get p).power.state = .lockedOut
  dark : ∀ p, (s.ports.get p).link.state ≠ .dark → (s.ports.get p).power.state.powered = true

/-- The laws of the inrush queue, of the wait list and of the inrush stage (R66, R67). -/
structure Queued (s : State) : Prop where
  once : s.budget.inrush.Nodup
  exact : ∀ p, p ∈ s.budget.inrush ↔ (s.ports.get p).power.state = .queued
  claims : (s.budget.waitList.map fun c => (c.port, c.kind)).Nodup
  single : ∀ p q, (s.ports.get p).power.state = .inrush → (s.ports.get q).power.state = .inrush → p = q

/-- The law of frames in flight (R122) and the share law (R120). -/
structure InFlight (s : State) : Prop where
  talks : ∀ x ∈ s.pool.entries, ∀ p, x.kind = .frame → Entry.inFlight p x = true → (s.ports.get p).link.state = .talk
  owned : ∀ x ∈ s.pool.entries, x.state = .reserved ∨ x.state = .filling → x.owner.isSome = true
  two : ∀ p, inFlight p s ≤ 2
  one : ∀ p, s.pool.entries.countP (fun x => x.state == .filling && x.owner == some p) ≤ 1
  share : s.cell.mode = .run → ∀ p, openHoldings p s ≤ shareCap p s

end Sys2Proof.Machine
end

