-- ==== Sys2Proof/Certificates/Slice0/Obligations.lean ====
section
/-! DEFINITION. The statements for the provers, each with the rules of the spec it says. -/

open Sys2Proof Sys2Proof.Machine


/-! ## The step and the frame of every command -/

/-- A step with command c at the front of the queue is exec of c on the state with the queue's rest. -/
def Obligations.StepRunsFront : Prop :=
  ∀ (c : Instr) (rest : List Instr) (s : State),
    step { s with pending := c :: rest } = exec c { s with pending := rest }

/-- The model's choice (log 4): with no command waiting, a part that owes nothing lets 1 µs pass and queues what is then due; one
that owes commands queues them at the same cell time; an unpowered or held part idles. -/
def Obligations.EmptyQueueTicks : Prop :=
  ∀ s : State, s.pending = [] →
    (live s = true → owedNow s = [] → ∃ t, step s = .next t ∧ t.clock = s.clock + 1 ∧
      t.pending = dueCommands { s with clock := s.clock + 1 } ∧ { t with clock := s.clock, pending := [] } = s) ∧
    (live s = true → owedNow s ≠ [] → step s = .next { s with pending := owedNow s }) ∧
    (live s = false → step s = .next s)

/-- Every command answers a next state in every state and leaves the queue of waiting commands as it is; so no run of the part stops. That
it does so also where its event cannot occur (log 12) and where the part is unpowered or held in a line reset (log 29) is the model's
choice. -/
def Obligations.EveryCommandCompletes : Prop :=
  ∀ (c : Instr) (s : State), ∃ t, exec c s = .next t ∧ t.pending = s.pending

/-! ## Resets and registers -/

/-- POWER_ON_RESET puts every block at the values of its reset table (R19, R37, R58, R82, R100, R114, R134, R149, R166, R181, R182), the
filters taking the raw levels (R102). LINE_RESET of a powered part does the same but keeps the cable table, the break log and the PCIe
configuration, and holds the part: registers but IDENT read zero. LINE_RESET_RELEASE ends the hold, cell time beginning at 0. A line
reset lasts while RST_N stays low, through a power-on reset too (R182). SUPPLY_LOSS leaves the part unpowered with the STOP_OUT contact
open (R170, R182). PCIE_CONFIGURATION_WRITE changes the message enable and the vector alone (R184). The queue, what was issued and the
model's counters of reads and free values stand through all of them. The model's choice: a part that is unpowered or held in a line
reset keeps its state through every other command (log 29). The header read of a take under way, by its number: the right signature and
format make the page HELD and the cell CONFIGURE, zero every taken hand, take report, counter and count of the page, write the header,
16 zero records and the mirror of the log, and set ATTENTION.CELL (R4, R18); anything else, or 50 ms, fails the take (R3); any other
completion is discarded (R2; log 42). PAGE_TAKE of a HELD page is its release and the new take in one event (the model's choice: log 11);
an unaligned address fails at once (R2, R3). At PAGE_RELEASE_END an unaligned pair that waited fails, and a zero pair releases again. The
reset records take in values that the spec does not state, the model's choice too: the measured current and voltage are 0 (log 16), and
so are the page address, the program records and the lens limits (log 32). -/
def Obligations.ResetsAndTakes : Prop :=
  ((∀ (enc trig motion : Bool) (s : State), ∃ t, exec (.powerOnReset enc trig motion) s = .next t ∧
     t.powered = true ∧ t.resetHeld = s.resetHeld ∧ t.clock = 0 ∧ t.page = PageIf.reset ∧ t.pcie = Pcie.reset ∧
     t.cell = CellCtl.reset ∧ (∀ n, t.slots.get n = Slot.reset) ∧ t.handed = none ∧ t.budget = Budget.reset ∧
     (∀ p, t.ports.get p = PortState.reset CableRec.absent) ∧ t.trigger = Trigger.reset enc trig motion ∧
     t.pool = Pool.reset ∧ t.faults = FaultUnit.reset ∧
     t.pending = s.pending ∧ t.traffic = s.traffic ∧ t.cableOut = s.cableOut ∧ t.reads = s.reads ∧ t.free = s.free) ∧
   (∀ s : State, s.powered = true → ∃ t, exec .lineReset s = .next t ∧
     t.powered = true ∧ t.resetHeld = true ∧ t.clock = 0 ∧ t.page = PageIf.reset ∧ t.pcie = s.pcie ∧
     t.cell = CellCtl.reset ∧ (∀ n, t.slots.get n = Slot.reset) ∧ t.handed = none ∧ t.budget = Budget.reset ∧
     (∀ p, t.ports.get p = PortState.reset (s.ports.get p).cable) ∧
     t.trigger = Trigger.reset s.trigger.enc s.trigger.trig s.trigger.motion ∧
     t.pool = Pool.reset ∧ t.faults = { FaultUnit.reset with log := s.faults.log } ∧
     t.pending = s.pending ∧ t.traffic = s.traffic ∧ t.cableOut = s.cableOut ∧ t.reads = s.reads ∧ t.free = s.free ∧
     registerValue 0 t = Config.ident ∧ ∀ o, o ≠ 0 → registerValue o t = 0) ∧
   (∀ (enc trig motion : Bool) (s : State), s.powered = true → s.resetHeld = true →
     exec (.lineResetRelease enc trig motion) s =
       .next { s with resetHeld := false, clock := 0, trigger := Trigger.reset enc trig motion }) ∧
   (∀ s : State, ∃ t, exec .supplyLoss s = .next t ∧ t.powered = false ∧ stopContactClosed t = false ∧
     t.pending = s.pending ∧ t.traffic = s.traffic ∧ t.cableOut = s.cableOut) ∧
   (∀ (on : Bool) (v : Option (Addr × Word)) (s : State), s.powered = true →
     exec (.pcieConfigurationWrite on v) s = .next { s with pcie := { enable := on, vector := v } }) ∧
   (∀ (c : Instr) (s : State), live s = false → (∀ a b d, c ≠ .powerOnReset a b d) → c ≠ .supplyLoss →
     (s.powered = true → c ≠ .lineReset ∧ (∀ a b d, c ≠ .lineResetRelease a b d) ∧ ∀ a b, c ≠ .pcieConfigurationWrite a b) →
     exec c s = .next s)) ∧
  ((∀ s : State, live s = true → s.page.taken = .taking → ∃ t,
     exec (.pageHeaderReadComplete ⟨s.reads.header, some (0x4B573843, 1)⟩) s = .next t ∧
     t.page = { s.page with
       taken := .held, headerReadBy := none, readErrors := 0, headerCount := 2
       mirrorCounts := Vector.ofFn fun n : Fin 16 => if s.faults.log.any (fun r => r.number == n.val) then 2 else 0
       attention := s.page.attention ||| flagCell } ∧
     t.cell = { s.cell with take := TakeReport.reset, mode := .configure, cause := some .pageTake } ∧
     (∀ n, (t.slots.get n) = { s.slots.get n with takenHand := 0, answerCount := 0 }) ∧
     (∀ p, (t.ports.get p) = { s.ports.get p with take := TakeReport.reset, reportCount := 0 }) ∧
     t.pool = { s.pool with handErrors := 0 } ∧ t.faults = { s.faults with logFull := 0, dropped := 0 } ∧
     t.traffic = s.traffic ++ areaWrites (s.page.addr + 0x40) 0 (headerBody t) ++
       allNumbers.map (fun n => .write (s.page.addr + BitVec.ofNat 64 (0x3500 + n.val * 0x40)) (List.replicate 64 0)) ++
       (allNumbers.filter fun n => s.faults.log.any fun r => r.number == n.val).flatMap
         (mirrorWrites s.page.addr 0 s.faults.log) ++
       s.risen (s.page.attention ||| flagCell) s.page.mask ∧
     { t with page := s.page, cell := s.cell, slots := s.slots, ports := s.ports, pool := s.pool, faults := s.faults
              traffic := s.traffic } = s) ∧
   (∀ (c : Instr) (s : State), live s = true → s.page.taken = .taking →
     ((∃ r, c = .pageHeaderReadComplete ⟨s.reads.header, r⟩ ∧ r ≠ some (0x4B573843, 1)) ∨
       (c = .pageHeaderReadTimeout ∧ due s.page.headerReadBy s = true)) →
     exec c s = .next { s with
       page := { s.page with taken := .absent, headerReadBy := none, attention := s.page.attention ||| flagPage }
       traffic := s.traffic ++ s.risen (s.page.attention ||| flagPage) s.page.mask }) ∧
   (∀ k r (s : State), live s = true → s.page.taken ≠ .taking ∨ k ≠ s.reads.header →
     exec (.pageHeaderReadComplete ⟨k, r⟩) s = .next s) ∧
   (∀ s : State, live s = true → s.page.taken ≠ .taking ∨ due s.page.headerReadBy s = false →
     exec .pageHeaderReadTimeout s = .next s)) ∧
  ((∀ (hi : Word) (s : State), live s = true → s.page.taken = .held → s.page.releasing = false →
     ∀ a : Addr, a = hi ++ s.page.lo → a ≠ 0 → ∃ u, exec .pageRelease { s with page := { s.page with lo := 0 } } = .next u ∧
     (a &&& 0xFFF = 0 → exec (.pageTake hi) s = .next { u with
       page := { u.page with
         lo := s.page.lo, hi := hi, releasing := false, taken := .taking, addr := a, headerReadBy := some (s.clock + 50000) }
       reads := u.reads.issued .header, traffic := u.traffic ++ [.read u.reads.next a 8] }) ∧
     (a &&& 0xFFF ≠ 0 → exec (.pageTake hi) s = .next { u with
       page := { u.page with
         lo := s.page.lo, hi := hi, releasing := false, taken := .absent, headerReadBy := none
         attention := u.page.attention ||| flagPage }
       traffic := u.traffic ++ u.risen (u.page.attention ||| flagPage) u.page.mask })) ∧
   (∀ s : State, live s = true → s.page.releasing = true → s.page.hiOwed = true → s.page.taken = .absent →
     (pagePair s = 0 → exec .pageReleaseEnd s = .next { s with page := { s.page with
       releasing := false, hiOwed := false, headerReadBy := none, attention := s.page.attention &&& flagPage
       service := .closed } }) ∧
     (pagePair s &&& 0xFFF ≠ 0 → exec .pageReleaseEnd s = .next { s with
       page := { s.page with
         releasing := false, hiOwed := false, headerReadBy := none, attention := s.page.attention ||| flagPage }
       traffic := s.traffic ++ s.risen (s.page.attention ||| flagPage) s.page.mask })))

/-- REGISTER_WRITE_OTHER: an aligned 32-bit write of PAGE_LO stores the value and changes nothing else; every other write that the
row describes (a narrow write, IDENT, an unused offset) is discarded (R1, R2), and so is a 4-byte write at an offset that is no multiple
of 4, which no rule names (log 35, DEDUCED). ATTENTION_CLEAR clears the flags written as
1, masked or not; ATTENTION_MASK_WRITE takes bits 0 to 13, and one message is sent exactly when flags AND mask rises from zero (R14,
R15). Each NOTICE while the page is HELD makes an IDLE area PENDING, leaves a PENDING one, and sets the sweep-again flag of a SWEEPING
one; while the page is not HELD it is discarded (R3, R11). Nothing else changes. -/
def Obligations.RegisterWrites : Prop :=
  (∀ (o : BitVec 12) (size : Nat) (v : Word) (s : State), live s = true →
     (Instr.registerWriteOther o size v).wellFormed = true →
     exec (.registerWriteOther o size v) s =
       .next (if o = 0x08 ∧ size = 4 then { s with page := { s.page with lo := v } } else s)) ∧
  ((∀ (v : Word) (s : State), live s = true → ∃ t, exec (.attentionClear v) s = .next t ∧
     (∀ i : Fin 14, t.page.attention.getLsbD i.val = (s.page.attention.getLsbD i.val && !v.getLsbD i.val)) ∧
     { t with page := { t.page with attention := s.page.attention } } = s) ∧
   (∀ (v : Word) (s : State), live s = true → ∃ t, exec (.attentionMaskWrite v) s = .next t ∧
     t.page.mask = v.setWidth 14 ∧
     t.traffic = s.traffic ++ (if s.uncovered = 0 ∧ t.uncovered ≠ 0 then s.messages else []) ∧
     { t with page := { t.page with mask := s.page.mask }, traffic := s.traffic } = s)) ∧
  (∀ (a : Area) (c : Instr) (s : State), live s = true →
     (c = .noticeCellSheet ∧ a = .cellSheet ∨ (∃ p, c = .noticePortSheet p ∧ a = .portSheet p) ∨
       c = .noticeOrders ∧ a = .orders ∨ c = .noticePool ∧ a = .pool) →
     (s.page.taken ≠ .held → exec c s = .next s) ∧
     (s.page.taken = .held → ∃ t, exec c s = .next t ∧
       areaState a t = (match areaState a s with
         | .idle => .pending
         | .pending => .pending
         | .sweeping _ n d => .sweeping true n d) ∧
       (∀ b, b ≠ a → areaState b t = areaState b s) ∧ { t with page := { t.page with areas := s.page.areas } } = s))

/-- The SERVICE table: each state under a write of 1, of 2, and of any other value, in any mode and page-taken state; no other register
write moves it. The write that opens service rewrites the header report with the service-open flag, and ARMED is not shown there. A page
release, a line reset and a power-on reset leave it CLOSED. Only while it is OPEN is a service-only order accepted, and has LEARN's force
flag effect (R16, R6). -/
def Obligations.ServiceTable : Prop :=
  (∀ (v : Word) (s : State), live s = true →
    (∀ x : Service,
      x.written v = match x with
        | .closed => if v = 1 then .armed else .closed
        | .armed => if v = 1 then .armed else if v = 2 then .opened else .closed
        | .opened => .opened) ∧
    exec (.serviceWrite v) s = .next
      (let u : State := { s with page := { s.page with service := s.page.service.written v } }
       if s.page.service = .armed ∧ v = 2 then u.headerShown 0 else u) ∧
    (∀ (o : BitVec 12) (size : Nat) (w : Word) (c : Instr) (t : State), (Instr.registerWriteOther o size w).wellFormed = true →
      (c = .registerWriteOther o size w ∨ c = .attentionClear w ∨ c = .attentionMaskWrite w ∨ c = .noticeCellSheet ∨
        (∃ p, c = .noticePortSheet p) ∨ c = .noticeOrders ∨ c = .noticePool) →
      exec c s = .next t → t.page.service = s.page.service)) ∧
  (∀ s : State, headerBody { s with page := { s.page with service := .armed } } =
      headerBody { s with page := { s.page with service := .closed } } ∧
    (headerBody s)[2]? = some (BitVec.ofNat 8 (flagCode s.faults.stopLatch + 2 * flagCode (s.page.service == .opened)))) ∧
  (∀ (s t : State), (∃ a b d, exec (.powerOnReset a b d) s = .next t) ∨ (s.powered = true ∧ exec .lineReset s = .next t) ∨
      (live s = true ∧ s.page.releasing = false ∧ s.page.lo = 0 ∧ exec .pageRelease s = .next t) →
    t.page.service = .closed) ∧
  (∀ (o : Order) (s : State), o.serviceOnly = true → s.page.service ≠ .opened → orderRefusal o s = some .serviceOnly) ∧
  (∀ (p : Port) (n : SlotNo) (force : Bool) (e : Event), e.cell.standing = true → breaksActive p e.faults.log = true →
    (probeRefusal p (.learn n) false force e = none ↔ e.page.service = .opened ∧ force = true))

/-! ## The hand-off of the page -/

/-- PAGE_TAKE, a non-zero pair written to PAGE_HI, in ABSENT: an aligned address is TAKING, its header read of 8 bytes issued and
its limit of 50 ms running; an unaligned one fails at once, with ATTENTION.PAGE and no read (R2, R3). In TAKING the take under way
is abandoned first, with a page release's clearing of the flags but PAGE and of service (R2, R5). While a release is in progress
the write waits for its end (R2). PAGE_RELEASE in ABSENT or TAKING clears the flags but PAGE, closes service and abandons a take, and
changes nothing else (R5). PAGE_RELEASE_END ends the release; with a PAGE_HI write waiting, the pair is then acted on: an aligned one
starts its take (R2). -/
def Obligations.PagePairActs : Prop :=
  (∀ (hi : Word) (s : State), live s = true → ∀ a : Addr, a = hi ++ s.page.lo → a ≠ 0 →
     (s.page.releasing = true →
       exec (.pageTake hi) s = .next { s with page := { s.page with hi := hi, hiOwed := true } }) ∧
     (s.page.releasing = false → s.page.taken ≠ .held → ∃ flags service,
       (s.page.taken = .absent → flags = s.page.attention ∧ service = s.page.service) ∧
       (s.page.taken = .taking → flags = s.page.attention &&& flagPage ∧ service = .closed) ∧
       (a &&& 0xFFF = 0 → exec (.pageTake hi) s = .next { s with
         page := { s.page with hi := hi, taken := .taking, addr := a, headerReadBy := some (s.clock + 50000)
                               attention := flags, service := service }
         reads := s.reads.issued .header, traffic := s.traffic ++ [.read s.reads.next a 8] }) ∧
       (a &&& 0xFFF ≠ 0 → exec (.pageTake hi) s = .next { s with
         page := { s.page with hi := hi, taken := .absent, headerReadBy := none, attention := flags ||| flagPage
                               service := service }
         traffic := s.traffic ++ State.risen (flags ||| flagPage) s.page.mask
           { s with page := { s.page with attention := flags } } }))) ∧
  ((∀ s : State, live s = true → s.page.taken ≠ .held → s.page.releasing = false → s.page.lo = 0 →
     exec .pageRelease s = .next { s with page := { s.page with
       hi := 0, taken := .absent, headerReadBy := none, attention := s.page.attention &&& flagPage, service := .closed } }) ∧
   (∀ s : State, live s = true → s.page.releasing = true → s.page.hiOwed = false →
     exec .pageReleaseEnd s = .next { s with page := { s.page with releasing := false } }) ∧
   (∀ s : State, live s = true → s.page.releasing = true → s.page.hiOwed = true → s.page.taken = .absent →
     pagePair s ≠ 0 → pagePair s &&& 0xFFF = 0 →
     exec .pageReleaseEnd s = .next { s with
       page := { s.page with releasing := false, hiOwed := false, taken := .taking, addr := pagePair s
                             headerReadBy := some (s.clock + 50000) }
       reads := s.reads.issued .header, traffic := s.traffic ++ [.read s.reads.next (pagePair s) 8] }))

/-- PAGE_RELEASE of a HELD page: ABSENT and SETUP, every area IDLE, the flags but PAGE cleared and service closed with mask and
PAGE_LO kept (R5, R19); no sheet, order, run, claim, buffer or armed program is left (R36, R58, R114, R134); every port is OFF and
DARK, but that LOCKED_OUT stays with its retry count, which is else 0, the trim 0 (R82, R94); taken hands, the cable table, the stop
latch and the break log are kept (R19, R166, R181). Before the layout is dropped every FILLING buffer's report part is written as OUT and
SPOILED, every RESERVED one's as GIVEN, and nothing else is issued but the interrupt message (R129, R134). The order of those deliveries
and the mask of the flags, which leaves no ATTENTION.POOL behind them, is the model's reading (log 18, DEDUCED). -/
def Obligations.PageReleaseEndsUse : Prop :=
  ∀ s : State, live s = true → s.page.taken = .held → s.page.releasing = false → s.page.lo = 0 → ∃ t,
    exec .pageRelease s = .next t ∧
    t.page.taken = .absent ∧ t.page.releasing = true ∧ t.page.lo = 0 ∧ t.page.hi = 0 ∧ t.page.mask = s.page.mask ∧
    t.page.attention = s.page.attention &&& flagPage ∧ t.page.service = .closed ∧ (∀ a, areaState a t = .idle) ∧
    t.cell = { CellCtl.reset with cause := s.cell.cause, take := s.cell.take } ∧
    t.budget = Budget.reset ∧
    (∀ n, t.slots.get n = { Slot.reset with
      takenHand := (s.slots.get n).takenHand, answerCount := (s.slots.get n).answerCount }) ∧
    (∀ p, (t.ports.get p).sheet = none ∧ (t.ports.get p).queue = [] ∧ (t.ports.get p).snap = none ∧
      (t.ports.get p).cycle = none ∧ (t.ports.get p).sweep = none ∧ (t.ports.get p).probe = none ∧
      (t.ports.get p).power.state = (if (s.ports.get p).power.state = .lockedOut then .lockedOut else .off) ∧
      (t.ports.get p).power.base = (if (s.ports.get p).power.state.powered then 0 else (s.ports.get p).power.base) ∧
      (t.ports.get p).power.retry =
        (if (s.ports.get p).power.state = .lockedOut then (s.ports.get p).power.retry else 0) ∧
      (t.ports.get p).power.trim = 0 ∧ (t.ports.get p).power.trimClamped = false ∧ (t.ports.get p).power.owed = false ∧
      (t.ports.get p).lens = LensRec.reset ∧
      (t.ports.get p).cable = (s.ports.get p).cable ∧ (t.ports.get p).faults = (s.ports.get p).faults) ∧
    (∀ p, (s.ports.get p).power.state.powered = true → (t.ports.get p).link.state = .dark) ∧
    (∀ i, (t.trigger.programs.get i).state = .disarmed) ∧
    t.pool = { Pool.reset with handErrors := s.pool.handErrors } ∧
    t.faults.stopLatch = s.faults.stopLatch ∧ t.faults.log = s.faults.log ∧
    ∀ shown : Layout → Nat → Entry → List Traffic, (shown = fun l b x => areaWrites (recordAddr l b + 0x10) x.count
      (bufferBody (if x.state = .filling then { x with state := .out, summary := some (summaryOf x .spoiled) }
        else { x with state := .given }))) →
    ∀ w, w = t.traffic.drop s.traffic.length → t.traffic = s.traffic ++ w ∧
    (∀ l (b : Nat) (x : Entry), s.pool.layout = some l → s.pool.entries[b]? = some x → x.state = .filling ∨ x.state = .reserved →
      ∀ m ∈ shown l b x, m ∈ w) ∧
    ∀ m ∈ w, m ∈ s.messages ∨ ∃ l, s.pool.layout = some l ∧ ∃ z ∈ s.pool.entries.zipIdx,
      (z.1.state = .filling ∨ z.1.state = .reserved) ∧ m ∈ shown l z.2 z.1

/-! ## What the part writes -/

/-- HEADER_REFRESH and PORT_REPORT_REFRESH while the page is HELD issue exactly the writings of the header report, and of the
eight port report parts in ascending number, and advance their counts by 2; no flag is set. While the page is not HELD they change
nothing. A report of port p at an event's end, said once for every statement that ends in `reported [p]`, is the three writes of its
report part, its count advanced by 2, and ATTENTION.PORT p; while the page is not HELD it is nothing (R6, R10, R17, R28). A slot's final
state, said once for every statement that uses `finished`: state, reason, field and results are stored and the stop mark cleared; while
the page is HELD its answer part is rewritten and ATTENTION.ORDERS set; a pending offer asks for a sweep of the ORDERS area as a notice
does (R38, R39, R40). -/
def Obligations.ReportsWritten : Prop :=
  (∀ s : State, live s = true →
     (s.page.taken = .held →
       exec .headerRefresh s = .next { s with
         page := { s.page with headerCount := s.page.headerCount + 2 }
         traffic := s.traffic ++ areaWrites (s.page.addr + 0x40) s.page.headerCount (headerBody s) } ∧
       exec .portReportRefresh s = .next { s with
         ports := s.ports.map fun q => { q with reportCount := q.reportCount + 2 }
         traffic := s.traffic ++ allPorts.flatMap (portWrites s) }) ∧
     (s.page.taken ≠ .held → exec .headerRefresh s = .next s ∧ exec .portReportRefresh s = .next s)) ∧
  (∀ (p : Port) (s : State),
     (s.page.taken ≠ .held → s.reported [p] = s) ∧
     (s.page.taken = .held → s.reported [p] = { s with
       ports := modAt s.ports p fun q => { q with reportCount := q.reportCount + 2 }
       page := { s.page with attention := s.page.attention ||| flagPort p }
       traffic := s.traffic ++ portWrites s p ++ s.risen (s.page.attention ||| flagPort p) s.page.mask })) ∧
  (∀ (n : SlotNo) (st : SlotState) (r : Reason) (field : Nat) (results : List Byte) (s : State) (x : Slot),
     x = { s.slots.get n with state := st, stopMark := false, reason := r, field := field, results := results
                              loadBy := none } →
     (s.page.taken ≠ .held → s.finished n st r field results = { s with slots := putAt s.slots n x }) ∧
     (s.page.taken = .held → s.finished n st r field results = { s with
       slots := putAt s.slots n { x with answerCount := x.answerCount + 2 }
       page := { s.page with
         attention := s.page.attention ||| flagOrders
         areas := if x.offerPending = true then putAt s.page.areas (Area.index .orders) (noticed (areaState .orders s))
           else s.page.areas }
       traffic := s.traffic ++ areaWrites (slotAddr n s + 0x60) x.answerCount (answerBody x) ++
         s.risen (s.page.attention ||| flagOrders) s.page.mask }))

/-! ## Notices, sweeps and records -/

/-- SWEEP_START of a PENDING area (for POOL: no rebuild reading hands) that has records: SWEEPING with sweep-again clear, and the
read of record 0's request part issued, with its limit of 50 ms; the claims that asked for a POOL sweep are marked as answered by
this one (R11, R12, R13, R25). An area that is not PENDING is left. A sweep goes on with the read of its next record, or ends: IDLE, or
PENDING when sweep-again is set, which is cleared (R11, R12). SWEEP_READ_FAIL and SWEEP_READ_TIMEOUT of an area with a read outstanding:
the record is treated as unread, the page read error count advances, which rewrites the header report, ATTENTION.PAGE is set, and the
sweep goes on (R13). Each read gets the next number, its reader's latest, and an error of any other read of the area is discarded (the
model's choice, logs 42 and 43). Stated for POOL while no claim waits on its sweep, and its end while no rebuild is owed. -/
def Obligations.SweepReads : Prop :=
  (∀ (a : Area) (s : State), live s = true →
     (areaState a s ≠ .pending → exec (.sweepStart a) s = .next s) ∧
     (areaState a s = .pending → (a = .pool → s.pool.rebuild = none ∧ areaCount .pool s ≠ 0) → ∃ from_ size,
       (a = .cellSheet → from_ = s.page.addr + 0x100 ∧ size = 0x400) ∧
       (∀ p, a = .portSheet p → from_ = s.page.addr + BitVec.ofNat 64 (0x500 + p.val * 0x200) ∧ size = 0x180) ∧
       (a = .orders → from_ = s.page.addr + 0x1500 ∧ size = 0x60) ∧
       (a = .pool → ∀ l, s.pool.layout = some l → from_ = l.addr ∧ size = 0x10) ∧
       exec (.sweepStart a) s = .next { s with
         page := { s.page with areas := putAt s.page.areas (Area.index a) (.sweeping false 0 (some (s.clock + 50000))) }
         pool := if a = .pool then { s.pool with claims := s.pool.claims.map fun c => { c with begun := true } } else s.pool
         reads := s.reads.issued (.area a), traffic := s.traffic ++ [.read s.reads.next from_ size] })) ∧
  (∀ (a : Area) (again : Bool) (n : Nat) (d : Option Nat) (s : State), areaState a s = .sweeping again n d →
     (n + 1 < areaCount a s → s.nextRead a = { s with
       page := { s.page with
         areas := putAt s.page.areas (Area.index a) (.sweeping again (n + 1) (some (s.clock + 50000))) }
       reads := s.reads.issued (.area a)
       traffic := s.traffic ++ [.read s.reads.next (recordPart a (n + 1) s).1 (recordPart a (n + 1) s).2] }) ∧
     (areaCount a s ≤ n + 1 → (a = .pool → s.pool.claims = [] ∧ s.pool.rebuildOwed = none) → s.nextRead a = { s with
       page := { s.page with areas := putAt s.page.areas (Area.index a) (if again then .pending else .idle) } })) ∧
  (∀ (a : Area) (c : Instr) (n : Nat) (s : State), live s = true → s.page.taken = .held → outstanding a s = some n →
     (a = .pool → s.pool.claims = []) →
     (c = .sweepReadFail ⟨readNumber (.area a) s, a⟩ ∨ (c = .sweepReadTimeout a ∧ due (readDeadline a s) s = true)) →
     exec c s = .next ((State.headerShown flagPage { s with
       page := { s.page with readErrors := s.page.readErrors + 1 } }).nextRead a)) ∧
  (∀ (a : Area) (k : Nat) (s : State), k ≠ readNumber (.area a) s → exec (.sweepReadFail ⟨k, a⟩) s = .next s) ∧
  (∀ (c d : Channel) (s : State), readNumber c { s with reads := s.reads.issued c } = s.reads.next ∧
    (s.reads.issued c).next = s.reads.next + 1 ∧
    (d ≠ c → readNumber d { s with reads := s.reads.issued c } = readNumber d s))

/-- The hand rule (R7): a record whose hand equals the taken hand is not new, and nothing happens but that the sweep goes on; with no read
of the area outstanding a completion is discarded (R5), and so is that of any other read than the area's latest (log 42). The first test
of every record is its check: with a wrong CRC over the bytes before the check field, a Cell Sheet, a Port Sheet, an order, a buffer
record and a cable record are each refused BAD_CHECK with field 0, whatever else they hold (R8). -/
def Obligations.HandAndCheck : Prop :=
  (∀ (a : Area) (bytes : List Byte) (s : State), live s = true → s.handed = none →
     (∀ k, outstanding a s = none ∨ k ≠ readNumber (.area a) s → exec (.sweepRecordRead a ⟨k, bytes⟩) s = .next s) ∧
     (∀ n, outstanding a s = some n → (a = .pool → s.pool.claims = []) →
       (match a with
        | .cellSheet => handOf 0x400 bytes = s.cell.take.hand
        | .portSheet p => handOf 0x180 bytes = (s.ports.get p).take.hand
        | .orders => handOf 0x60 bytes = (s.slots.get (Fin.ofNat 32 n)).takenHand
        | .pool => ∀ x, s.pool.entries[n]? = some x → x.loaded = true ∧ handOf 0x10 bytes = x.hand) →
       exec (.sweepRecordRead a ⟨readNumber (.area a) s, bytes⟩) s = .next (s.nextRead a))) ∧
  ((∀ bytes, bytes.length = 0x400 → (crc16 (bytes.take 0x3FD)).toNat ≠ leNat ((bytes.drop 0x3FD).take 2) →
     judgeCellSheet bytes = .error (.badCheck, 0)) ∧
   (∀ bytes, bytes.length = 0x180 → (crc16 (bytes.take 0x17D)).toNat ≠ leNat ((bytes.drop 0x17D).take 2) →
     judgePortSheet bytes = .error (.badCheck, 0)) ∧
   (∀ bytes, bytes.length = 0x60 → (crc16 (bytes.take 0x5D)).toNat ≠ leNat ((bytes.drop 0x5D).take 2) →
     judgeOrder bytes = .error (.badCheck, 0)) ∧
   (∀ bytes, bytes.length = 0x10 → (crc16 (bytes.take 0x0D)).toNat ≠ leNat ((bytes.drop 0x0D).take 2) →
     judgeSettings bytes = .error (.badCheck, 0)) ∧
   (∀ bytes, bytes.length = 0x80 → (crc16 (bytes.take 0x7D)).toNat ≠ leNat ((bytes.drop 0x7D).take 2) →
     judgeCable bytes = .error (.badCheck, 0)))

/-- A new Cell Sheet record (R21, R7): one that fails its check, spares or values is REFUSED with that reason and field in either mode,
one that passes in RUN is REFUSED WRONG_MODE with field 0, and neither changes the copy; one that passes in CONFIGURE is TAKEN and
replaces the copy whole, another encoder setting clearing the remainder (R103). Every outcome takes the hand, rewrites the header report
(R6) and sets ATTENTION.CELL; nothing else changes but by the pool layout (R24, R25). The address and count already held: the tracker is
kept and a rebuild owed is dropped. Others: while a POOL sweep is under way the rebuild is owed; else the tracker is rebuilt at once, one
OUT entry without an owner and with no hand loaded for each record, and the read of record 0's hand issued; a rebuild under way is
replaced, its hand read abandoned (log 44). An owed rebuild begins at the end of the POOL sweep (log 39), whatever has been started
meanwhile (log 45); stated for a sweep whose last record is not new and that no claim waits for. POOL_REBUILD_HAND_READ of the latest hand
read loads the hand as the entry's taken hand; POOL_REBUILD_READ_FAIL, by an error of that read or 50 ms, counts a page read error,
rewrites the header report, sets ATTENTION.PAGE and leaves the entry unloaded. Either way the next hand is read, with 50 ms of its own, or
the rebuild ends; that the hands are read one at a time in ascending number is the model's choice (log 75). A completion of another read,
or with no rebuild under way, is discarded (log 42). -/
def Obligations.CellSheetJudged : Prop :=
  (∀ (bytes : List Byte) (n : Nat) (s : State), live s = true → s.page.taken = .held → s.handed = none →
    outstanding .cellSheet s = some n → handOf 0x400 bytes ≠ s.cell.take.hand →
    ∀ k, k = readNumber (.area .cellSheet) s →
    (∀ r f, judgeCellSheet bytes = .error (r, f) →
      exec (.sweepRecordRead .cellSheet ⟨k, bytes⟩) s = .next ((State.headerShown flagCell { s with
        cell := { s.cell with take := { hand := handOf 0x400 bytes, verdict := .refused, reason := r, field := f } } }).nextRead
          .cellSheet)) ∧
    (∀ c, judgeCellSheet bytes = .ok c → s.cell.mode ≠ .configure →
      exec (.sweepRecordRead .cellSheet ⟨k, bytes⟩) s = .next ((State.headerShown flagCell { s with
        cell := { s.cell with take := { hand := handOf 0x400 bytes, verdict := .refused, reason := .wrongMode
                                        field := 0 } } }).nextRead .cellSheet)) ∧
    (∀ c, judgeCellSheet bytes = .ok c → s.cell.mode = .configure → ∀ (l : Layout) (u : State),
      l = { addr := c.poolAddr, count := c.bufCount } →
      u = { s with
        cell := { s.cell with sheet := some c, standing := true
                              take := { hand := handOf 0x400 bytes, verdict := .taken, reason := .none, field := 0 } }
        trigger := if encoderSetting s = (c.edge, c.divider) then s.trigger else { s.trigger with remainder := 0 } } →
      (s.pool.layout = some l → exec (.sweepRecordRead .cellSheet ⟨k, bytes⟩) s =
        .next ((State.headerShown flagCell { u with pool := { s.pool with rebuildOwed := none } }).nextRead .cellSheet)) ∧
      (s.pool.layout ≠ some l → (∃ again m d, areaState .pool s = .sweeping again m d) →
        exec (.sweepRecordRead .cellSheet ⟨k, bytes⟩) s =
          .next ((State.headerShown flagCell { u with pool := { s.pool with rebuildOwed := some l } }).nextRead .cellSheet)) ∧
      (s.pool.layout ≠ some l → areaState .pool s = .idle ∨ areaState .pool s = .pending →
        exec (.sweepRecordRead .cellSheet ⟨k, bytes⟩) s =
          .next ((State.headerShown flagCell (u.rebuilt l)).nextRead .cellSheet)))) ∧
  (Entry.fresh.state = .out ∧ Entry.fresh.owner = none ∧ Entry.fresh.loaded = false ∧ Entry.fresh.count = 0) ∧
  (∀ (bytes : List Byte) (again : Bool) (n : Nat) (d : Option Nat) (l : Layout) (x : Entry) (s : State), live s = true →
    s.handed = none → areaState .pool s = .sweeping again n d → d ≠ none → areaCount .pool s ≤ n + 1 → s.pool.claims = [] →
    s.pool.entries[n]? = some x → x.loaded = true → handOf 0x10 bytes = x.hand → s.pool.rebuildOwed = some l →
    exec (.sweepRecordRead .pool ⟨readNumber (.area .pool) s, bytes⟩) s = .next (State.rebuilt l { s with
      page := { s.page with areas := putAt s.page.areas (Area.index .pool) (if again then .pending else .idle) } })) ∧
  (∀ (r : Rebuild) (l : Layout) (s : State), live s = true → s.pool.rebuild = some r → s.pool.layout = some l →
     ∀ go : State → State, (go = fun u => { u with
       pool := { u.pool with
         rebuild := if r.next + 1 < l.count then some { next := r.next + 1, readBy := s.clock + 50000 } else none }
       reads := if r.next + 1 < l.count then u.reads.issued .hand else u.reads
       traffic := u.traffic ++ if r.next + 1 < l.count then
         [.read u.reads.next (l.addr + BitVec.ofNat 64 ((r.next + 1) * 0x40) + 0x0F) 1] else [] }) →
     (∀ hand, exec (.poolRebuildHandRead ⟨s.reads.hand, hand⟩) s = .next (go { s with pool := { s.pool with
       entries := modNth s.pool.entries r.next fun x => { x with hand := hand, loaded := true } } })) ∧
     (∀ error, error = some s.reads.hand ∨ (error = none ∧ r.readBy ≤ s.clock) → s.page.taken = .held →
       exec (.poolRebuildReadFail error) s = .next (go (State.headerShown flagPage { s with
         page := { s.page with readErrors := s.page.readErrors + 1 } }))) ∧
     (s.clock < r.readBy → exec (.poolRebuildReadFail none) s = .next s)) ∧
  (∀ (k : Nat) (hand : Byte) (s : State), live s = true → s.pool.rebuild = none ∨ k ≠ s.reads.hand →
    exec (.poolRebuildHandRead ⟨k, hand⟩) s = .next s ∧ exec (.poolRebuildReadFail (some k)) s = .next s)

/-- A new Port Sheet record (R26, R27, R7), judged alike in CONFIGURE and in RUN: one that fails its check, spares or values is
REFUSED with that reason and field, and the copy is kept; any other is TAKEN and replaces the copy whole. Either outcome takes the
hand. No other port's copy or take report changes. -/
def Obligations.PortSheetJudged : Prop :=
  ∀ (p : Port) (bytes : List Byte) (n : Nat) (s : State), live s = true → s.handed = none →
    outstanding (.portSheet p) s = some n → handOf 0x180 bytes ≠ (s.ports.get p).take.hand →
    ∀ k, k = readNumber (.area (.portSheet p)) s →
    (∀ r f, judgePortSheet bytes = .error (r, f) → exec (.sweepRecordRead (.portSheet p) ⟨k, bytes⟩) s =
      .next ((State.nextRead (.portSheet p) { s with ports := modAt s.ports p fun q => { q with
        take := { hand := handOf 0x180 bytes, verdict := .refused, reason := r, field := f } } }).reported [p])) ∧
    (∀ sheet, judgePortSheet bytes = .ok sheet → ∃ t, exec (.sweepRecordRead (.portSheet p) ⟨k, bytes⟩) s = .next t ∧
      (t.ports.get p).sheet = some sheet ∧
      (t.ports.get p).take = { hand := handOf 0x180 bytes, verdict := .taken, reason := .none, field := 0 } ∧
      (∀ q, q ≠ p → (t.ports.get q).sheet = (s.ports.get q).sheet ∧ (t.ports.get q).take = (s.ports.get q).take) ∧
      t.cell = s.cell)

/-- What a TAKEN Port Sheet does at once. SETUP is given in TALK, owed in HUSHING and HUSH (R95); camera changed is cleared. The want acts
by the power state (R76), stated without a running probe but where one is named: LOCKED_OUT is left, HELD moves to OFF first, whatever
the want, during a probe too, which owes the power-up (R27, R76, R77; how this stands beside R79 is log 48);
OFF with a want in RUN powers up, its claim granted if it fits or waiting (R62, R63, R65); WAITING and RETRY_WAIT with OFF are OFF; a
powered port with OFF loses its power (R78); ON with STANDBY in TALK enters STANDBY: SLEEP, the standby allotment, and a walk of all the
claims waiting (R63, R74); STANDBY with ON makes a WAKE claim, which granted makes WAKING, and with STANDBY withdraws it (R75). While a
probe runs a change is owed (R77). The lens want is fitted to kind and limits, shorn of what a sweep set and of present positions
(R138; that step 4 compares the clamped focus with the last want as
handed over is the model's choice, log 71). It is staged in IDLE and STUCK, replaced in STAGED, UNKNOWN, MOVING and WAIT_POWER, in the last also judged again (R141); empty,
it is staged by nothing: STAGED and WAIT_POWER become IDLE. While a sweep runs it is held (R144). Lens clauses are stated where the
power is left, and with hold-frames set and no frame gap where a want would be tested at once; power clauses for a lens that the take
cannot stage, removal also without SNAP, sweep or claims. A HELLO of more than the rating raises allotment and rating if the raise fits
the room; else OVER_CLASS is counted and acts (R73, R79). -/
def Obligations.PortSheetActs : Prop :=
  (∀ (p : Port) (bytes : List Byte) (n : Nat) (sheet : PortSheet) (s : State), live s = true →
    outstanding (.portSheet p) s = some n → handOf 0x180 bytes ≠ (s.ports.get p).take.hand → judgePortSheet bytes = .ok sheet →
    ∀ c, c = Instr.sweepRecordRead (.portSheet p) ⟨readNumber (.area (.portSheet p)) s, bytes⟩ →
    ∀ q, q = s.ports.get p → ∀ w, w = q.power → ∀ r, r = q.lens → ∀ link, link = (match q.link.state with
      | .talk => enqueue (.setup sheet.exposure sheet.depth) { q.link with cameraChanged := false }
      | .hushing | .hush => { q.link with cameraChanged := false, owedSetup := true }
      | .dark | .wake => { q.link with cameraChanged := false }) →
    ∀ x, x = { q with sheet := some sheet, link := link
                      take := { hand := handOf 0x180 bytes, verdict := .taken, reason := .none, field := 0 } } →
    ∀ res : Budget → PortState → State, (res = fun b y => (State.nextRead (.portSheet p) { s with
      budget := b, ports := putAt s.ports p y }).reported [p]) →
    ∀ without : ClaimKind → Budget, (without = fun k => { s.budget with
      waitList := s.budget.waitList.filter fun d => !(d.port == p && d.kind == k) }) →
    ((w.state = .lockedOut ∨ (w.state = .off ∧ (sheet.want = .off ∨ s.cell.mode ≠ .run)) ∨ (w.state = .on ∧ sheet.want = .on) ∨
        (sheet.want ≠ .off ∧ w.state ∈ [PowerState.waiting, .queued, .inrush, .settling, .limit, .waking])) →
      ∀ want, want = (r.formWant sheet.lens).1 → ∀ rec', rec' = (r.formWant sheet.lens).2 →
      ∀ staged : LensRec, staged = { rec' with
        state := .staged, staged := want, stagedBy := .sheet, stagingAt := some (s.clock + 200000), stagingMark := false } →
      ∀ idle : LensRec, idle = { rec' with
        state := .idle, staged := Axes.none, stagedBy := .sheet, stagingAt := none, stagingMark := false } →
      (q.sweep = none →
        (r.state = .absent ∨ r.state = .unknown ∨ r.state = .moving →
          exec c s = .next (res s.budget { x with lens := r.noted sheet.lens })) ∧
        (r.state = .idle ∨ r.state = .stuck →
          (want = Axes.none → exec c s = .next (res s.budget { x with lens := r.noted sheet.lens })) ∧
          (want ≠ Axes.none → sheet.hold = true → frameGap p s = false →
            exec c s = .next (res s.budget { x with lens := staged }))) ∧
        (r.state = .staged → exec c s = .next (res s.budget { x with
          lens := if want = Axes.none then idle else { rec' with staged := want, stagedBy := .sheet } })) ∧
        (r.state = .waitPower →
          (want = Axes.none → exec c s = .next (res (without .lensMotion) { x with lens := idle })) ∧
          (want ≠ Axes.none → (sheet.hold = false ∧ r.stagingMark = true) ∨ (sheet.hold = true ∧ frameGap p s = true) →
            exec c s = .next (res s.budget { x with lens := { rec' with staged := want, stagedBy := .sheet } })) ∧
          (want ≠ Axes.none → sheet.hold = true → frameGap p s = false → exec c s = .next (res (without .lensMotion)
            { x with lens := { rec' with state := .staged, staged := want, stagedBy := .sheet } })))) ∧
      (q.sweep ≠ none → r.state ≠ .waitPower → exec c s = .next (res s.budget { x with lens := { rec' with held := want } }))) ∧
    (q.sweep = none → r.state = .absent ∨ r.state = .unknown ∨ r.state = .moving → ∀ z, z = { x with lens := r.noted sheet.lens } →
      (q.probe = none →
        (w.state = .held → sheet.want = .off ∨ s.cell.mode ≠ .run →
          exec c s = .next (res s.budget { z with power := { w with state := .off } })) ∧
        (w.state = .off ∨ w.state = .held → sheet.want ≠ .off → s.cell.mode = .run → q.cycle = none → s.budget.waitList = [] →
          ∀ d : PowerClaim, d = { port := p, kind := .powerUp, amount := allotment p sheet.declared s
                                  rating := sheet.declared } →
          (d.amount ≤ room s → exec c s = .next (res { s.budget with
            inrush := s.budget.inrush ++ [p], stage := stageOf s.budget.stage (s.budget.inrush ++ [p]) }
            { z with power := w.granted d })) ∧
          (room s < d.amount → exec c s = .next (res { s.budget with waitList := [d] }
            { z with power := { w with state := .waiting } }))) ∧
        (w.state = .waiting → sheet.want = .off →
          exec c s = .next (res (without .powerUp) { z with power := { w with state := .off } })) ∧
        (w.state = .retryWait → sheet.want = .off → exec c s = .next (res s.budget
          { z with power := { w with state := .off, retryAt := none, retryEnded := false } })) ∧
        (w.state = .standby → sheet.want = .standby → exec c s = .next (res (without .wake) z)) ∧
        (w.state = .standby → sheet.want = .on → s.budget.waitList = [] →
          (w.full - w.base ≤ room s → exec c s = .next (res s.budget { z with
            power := { w with state := .waking, base := w.full, wakeAt := some (s.clock + sheet.wakeSettle * 1000) }
            link := if q.link.state = .talk then enqueue .wake link else link })) ∧
          (room s < w.full - w.base → exec c s = .next (res { s.budget with
            waitList := [{ port := p, kind := .wake, amount := w.full - w.base, rating := 0 }] } z))) ∧
        (w.state = .on → sheet.want = .standby → q.link.state = .talk →
          (∀ d ∈ s.budget.waitList, d.kind = .powerUp ∧ d.port ≠ p ∧ (s.ports.get d.port).power.state = .waiting ∧
            (s.ports.get d.port).power.base = 0 ∧ (s.ports.get d.port).probe = none) →
          (s.budget.waitList.map (·.port)).Nodup → ∀ base, base = min w.full (allotment p (standbyPower q) s) →
          ∀ walk, walk = walked (s.budget.inForce - (allotted s - w.base + base)) s.budget.waitList → ∃ t,
          exec c s = .next t ∧ (t.ports.get p).power = { w with state := .standby, base := base } ∧
          (t.ports.get p).link = enqueue .sleep link ∧
          t.budget = { s.budget with
            waitList := walk.2, inrush := s.budget.inrush ++ walk.1.map (·.port)
            stage := if walk.1 = [] then s.budget.stage else stageOf s.budget.stage (s.budget.inrush ++ walk.1.map (·.port)) } ∧
          (∀ d ∈ walk.1, (t.ports.get d.port).power = (s.ports.get d.port).power.granted d) ∧
          ∀ o, o ≠ p → o ∉ walk.1.map (·.port) → (t.ports.get o).power = (s.ports.get o).power)) ∧
      (q.probe ≠ none →
        (w.state.powered = true ∧ sheet.want = .off) ∨ (w.state = .standby ∧ sheet.want = .on) ∨
          (w.state = .on ∧ sheet.want = .standby ∧ q.link.state = .talk) ∨
          (w.state = .off ∧ sheet.want ≠ .off ∧ s.cell.mode = .run ∧ q.cycle = none) →
        exec c s = .next (res (if sheet.want = .off then without .wake else s.budget)
          { z with power := { w with owed := true } })) ∧
      (∀ run, q.probe = some run → run.phase = .draining ∨ run.phase = .pulsing → w.state = .held →
        exec c s = .next (res s.budget { z with power := { w with
          state := .off, owed := w.owed || (sheet.want != .off && s.cell.mode == .run && q.cycle.isNone) } }))) ∧
    (w.state.powered = true → sheet.want = .off → q.probe = none → q.snap = none → q.sweep = none → s.budget.waitList = [] → ∃ t,
      exec c s = .next t ∧ (t.ports.get p).sheet = some sheet ∧ (t.ports.get p).take = x.take ∧
      (t.ports.get p).power.state = .off ∧ (t.ports.get p).power.base = 0 ∧ (t.ports.get p).power.motion = 0 ∧
      (t.ports.get p).power.retry = w.retry ∧ (t.ports.get p).link.state = .dark ∧ (t.ports.get p).link.identity = none ∧
      (t.ports.get p).lens.state = .unknown ∧ (t.ports.get p).lens.staged = sheet.lens ∧ (t.ports.get p).faults = q.faults ∧
      ∀ o, o ≠ p → (t.ports.get o).power = (s.ports.get o).power)) ∧
  (∀ (r : LensRec) (w : Axes), r.kind = some .focus → ∀ v, w.focus = some v → r.focusLimits.low ≤ r.focusLimits.high →
    ∀ at', at' = max r.focusLimits.low (min v r.focusLimits.high) →
    ∀ drop : Bool, drop = ((r.fromSweep && r.lastWant.focus == some at') || r.pos.focus == some at') →
    r.formWant w = ({ Axes.none with focus := if drop then none else some at' }, { r with
      lastWant := w, fromSweep := r.fromSweep && drop
      clamped := at' != v || w.iris != none || w.zoom != none })) ∧
  (∀ (p : Port) (h : HelloPacket) (s : State), live s = true → (s.ports.get p).link.state = .wake →
    helloOk h = true → (lensKindOf h.lensCode.toNat).isSome = true → (s.ports.get p).probe = none → ∀ w, w = (s.ports.get p).power →
    w.state = .on ∨ w.state = .limit → wantOf (s.ports.get p) ≠ .standby → w.motion = 0 → w.rating.getD 0 < h.maxPower.toNat →
    s.budget.waitList = [] → (s.ports.get p).snap = none → (s.ports.get p).sweep = none →
    ∀ raised, raised = allotment p h.maxPower.toNat s → ∃ t, exec (.hello p h) s = .next t ∧
    (raised ≤ w.base + room s → (t.ports.get p).link.state = .talk ∧ (t.ports.get p).faults = (s.ports.get p).faults ∧
      (t.ports.get p).power = { w with base := raised, full := raised, rating := some h.maxPower.toNat }) ∧
    (w.base + room s < raised → (t.ports.get p).faults = { (s.ports.get p).faults with
        counts := modAt (s.ports.get p).faults.counts 3 (fun k => min 255 (k + 1))
        latched := putAt (s.ports.get p).faults.latched 3 true, last := some .overClass } ∧
      ((reactionOf .overClass s).action = .nothing → (t.ports.get p).power = w ∧ (t.ports.get p).link.state = .talk) ∧
      ((reactionOf .overClass s).action = .cut → (t.ports.get p).power.state = .held ∧ (t.ports.get p).power.base = 0 ∧
        (t.ports.get p).link.state = .dark)))

/-- A new order record in a slot that is not QUEUED or RUNNING (R39, R41): one that fails its check, spares or values is REFUSED
with that reason and field; one that passes is judged by service, then by mode, then by its queue's room, and refused with field 0;
any other is accepted, a queue order as the tail of its port's queue in state QUEUED, and handed over, its own command carrying it out
(the model's choice, log 13). In a QUEUED or RUNNING slot only the offer is noted. -/
def Obligations.OrderJudged : Prop :=
  ∀ (bytes : List Byte) (m : Nat) (s : State), live s = true → s.page.taken = .held → s.handed = none →
    outstanding .orders s = some m → ∀ n : SlotNo, n = Fin.ofNat 32 m → handOf 0x60 bytes ≠ (s.slots.get n).takenHand →
    ∀ k, k = readNumber (.area .orders) s →
    ((s.slots.get n).state = .queued ∨ (s.slots.get n).state = .running →
      exec (.sweepRecordRead .orders ⟨k, bytes⟩) s =
        .next (State.nextRead .orders { s with slots := modAt s.slots n fun x => { x with offerPending := true } })) ∧
    ((s.slots.get n).state ≠ .queued → (s.slots.get n).state ≠ .running →
      (∀ r f, (judgeOrder bytes = .error (r, f) ∨ ∃ o, judgeOrder bytes = .ok o ∧ f = 0 ∧
        ((o.serviceOnly = true ∧ s.page.service ≠ .opened ∧ r = .serviceOnly) ∨
         ((o.serviceOnly = true → s.page.service = .opened) ∧ o.acceptedIn s.cell.mode = false ∧ r = .wrongMode) ∨
         ((o.serviceOnly = true → s.page.service = .opened) ∧ o.acceptedIn s.cell.mode = true ∧ r = .queueFull ∧
          ∃ p, o.queuePort = some p ∧ 8 ≤ (s.ports.get p).queue.length))) → ∃ t,
        exec (.sweepRecordRead .orders ⟨k, bytes⟩) s = .next t ∧ t.handed = none ∧
        (t.slots.get n).state = .refused ∧ (t.slots.get n).takenHand = handOf 0x60 bytes ∧
        (t.slots.get n).reason = r ∧ (t.slots.get n).field = f ∧
        t.page.attention = s.page.attention ||| flagOrders ∧ t.ports = s.ports ∧
        ∀ k, k ≠ n → t.slots.get k = s.slots.get k) ∧
      (∀ o, judgeOrder bytes = .ok o → (o.serviceOnly = true → s.page.service = .opened) →
        o.acceptedIn s.cell.mode = true → (∀ p, o.queuePort = some p → (s.ports.get p).queue.length < 8) → ∃ t,
        exec (.sweepRecordRead .orders ⟨k, bytes⟩) s = .next t ∧ t.handed = some n ∧
        (t.slots.get n).order = some o ∧ (t.slots.get n).takenHand = handOf 0x60 bytes ∧
        (∀ p, (t.ports.get p).queue = (s.ports.get p).queue ++ (if o.queuePort = some p then [.order n] else [])) ∧
        (o.queuePort ≠ none → (t.slots.get n).state = .queued) ∧
        ∀ k, k ≠ n → t.slots.get k = s.slots.get k))

/-- A buffer record read (R117, R118): an unloaded entry takes the hand and nothing else; an OUT entry with a new hand is GIVEN with
the settings read, without an owner or a summary, give result 1, or keeps its state when they are refused, give result 0x80 plus
the reason and the field; an entry in any other state takes the hand as a hand error, give result 0x80 plus BUSY_TARGET, its state,
owner and settings kept, and the hand error count advances. Every other entry is kept. The sweep then goes on. -/
def Obligations.BufferRecordRead : Prop :=
  (∀ (bytes : List Byte) (b : Nat) (s : State), live s = true → s.handed = none → s.pool.claims = [] →
    outstanding .pool s = some b → exec (.sweepRecordRead .pool ⟨readNumber (.area .pool) s, bytes⟩) s =
      .next ((dealBuffer b bytes (Event.of s)).toState.nextRead .pool)) ∧
  ∀ (bytes : List Byte) (b : Nat) (x : Entry) (e : Event), e.pool.entries[b]? = some x → ∃ y,
    (dealBuffer b bytes e).pool.entries[b]? = some y ∧
    (∀ k, k ≠ b → (dealBuffer b bytes e).pool.entries[k]? = e.pool.entries[k]?) ∧
    (x.loaded = false → y = { x with hand := handOf 0x10 bytes, loaded := true }) ∧
    (x.loaded = true → handOf 0x10 bytes = x.hand → y = x) ∧
    (x.loaded = true → handOf 0x10 bytes ≠ x.hand → y.hand = handOf 0x10 bytes ∧
      (∀ g, x.state = .out → judgeSettings bytes = .ok g → y.state = .given ∧ y.settings = some g ∧ y.owner = none ∧
        y.summary = none ∧ y.giveResult = 1 ∧ y.giveField = 0) ∧
      (∀ r f, x.state = .out → judgeSettings bytes = .error (r, f) → y.state = .out ∧ y.settings = x.settings ∧
        y.giveResult = BitVec.ofNat 8 (0x80 + r.code) ∧ y.giveField = f) ∧
      (x.state ≠ .out → y.state = x.state ∧ y.owner = x.owner ∧ y.settings = x.settings ∧ y.giveResult = 0x87 ∧
        (dealBuffer b bytes e).pool.handErrors = e.pool.handErrors + 1))

/-! ## Order slots: final states and the orders that run at once -/

/-- START (R29, R30). Refused WRONG_MODE without a standing sheet, and OVER_SHARE when a port holds more open buffers than its share
cap. Otherwise the cell is in RUN with cause START, the computed check stored, the first re-check 100 ms on and the sheet's budget
in force; all programs are DISARMED, the encoder count and remainder 0; with no claim waiting and no probe running the answer is
DONE. -/
def Obligations.StartMovesToRun : Prop :=
  ∀ (n : SlotNo) (s : State), live s = true → handedOrder n s = some .start → s.cell.mode = .configure →
    (s.cell.standing = false →
      exec (.start n) s = .next (s.finished n .refused .wrongMode 0 []).carried) ∧
    (s.cell.standing = true → (∃ p, shareCap p s < openHoldings p s) →
      exec (.start n) s = .next (s.finished n .refused .overShare 0 []).carried) ∧
    (s.cell.standing = true → (∀ p, openHoldings p s ≤ shareCap p s) → ∃ t, exec (.start n) s = .next t ∧
      t.cell = { s.cell with mode := .run, cause := some .start, storedCheck := sheetCheck s
                             recheckAt := some (s.clock + 100000) } ∧
      t.budget.inForce = sheetBudget s ∧ t.trigger.encCount = 0 ∧ t.trigger.remainder = 0 ∧
      (∀ i, t.trigger.programs.get i = (s.trigger.programs.get i).disarm) ∧ t.handed = none ∧
      (s.budget.waitList = [] → (∀ p, (s.ports.get p).probe = none) →
        (t.slots.get n).state = .done ∧ ∀ k, k ≠ n → t.slots.get k = s.slots.get k))

/-- START's power-up (R30): every OFF port that wants ON or STANDBY offers its POWER_UP claim, in ascending port number, and each is granted
in turn if it fits the room then left, or waits behind those passed over: granted ports are QUEUED with their base allotment and rating,
in the inrush queue in that order, the others WAITING (R62, R63, R65 to R67). Stated with no claim waiting before and no port that a
probe or a CYCLE holds. HALT in RUN (R31, R32, R61): CONFIGURE with cause HALT, no re-check, no budget in force and all programs
DISARMED; the slot is RUNNING until HALT_TEARDOWN_DONE, which makes every RUNNING HALT DONE and leaves every other slot (log 37). Every
port that is not HELD or LOCKED_OUT is OFF with allotments 0 and its link DARK; no queue entry, run or held-back change is left; every
order that was queued or running in a queue is ABORTED HALTED, and no other slot changes. FILLING buffers are OUT, delivered SPOILED to
their owner, RESERVED ones are GIVEN, no other entry changes; a waiting trace claim that finds a GIVEN buffer takes it, and it is
delivered SPOILED (R134; log 22). No fault, cable record or copy changes. Stated for a HALT that is in no port's queue, the link of a port that is not powered being DARK, as
BudgetLaws says of every run. -/
def Obligations.HaltTearsDown : Prop :=
  (∀ (n : SlotNo) (s : State), live s = true → handedOrder n s = some .start → s.cell.mode = .configure →
    s.cell.standing = true → (∀ p, openHoldings p s ≤ shareCap p s) → s.budget.waitList = [] →
    (∀ p, (s.ports.get p).probe = none ∧ (s.ports.get p).cycle = none) →
    (∀ p, (s.ports.get p).power.state = .off → (s.ports.get p).power.base = 0) →
    ∀ offers, offers = (allPorts.filter fun p =>
        (s.ports.get p).power.state == .off && wantOf (s.ports.get p) != .off).map (powerUpClaim s) →
      ∀ walk, walk = walked (sheetBudget s - allotted s) offers → ∃ t, exec (.start n) s = .next t ∧
      t.cell.mode = .run ∧ t.budget = { s.budget with
        inForce := sheetBudget s, waitList := walk.2, inrush := s.budget.inrush ++ walk.1.map (·.port)
        stage := if walk.1 = [] then s.budget.stage else stageOf s.budget.stage (s.budget.inrush ++ walk.1.map (·.port)) } ∧
      (∀ c ∈ walk.1, (t.ports.get c.port).power = (s.ports.get c.port).power.granted c) ∧
      (∀ c ∈ walk.2, (t.ports.get c.port).power = { (s.ports.get c.port).power with state := .waiting }) ∧
      (∀ p, p ∉ offers.map (·.port) → (t.ports.get p).power = (s.ports.get p).power)) ∧
  (∀ (n : SlotNo) (s : State), live s = true → handedOrder n s = some .halt → s.cell.mode = .run →
    (∀ p, QEntry.order n ∉ (s.ports.get p).queue) →
    (∀ p, (s.ports.get p).link.state ≠ .dark → (s.ports.get p).power.state.powered = true) → ∃ t, exec (.halt n) s = .next t ∧
    t.cell = { s.cell with mode := .configure, cause := some .halt, recheckAt := none } ∧
    t.budget = Budget.reset ∧ t.handed = none ∧ t.faults = s.faults ∧ t.pool.claims = [] ∧ t.pool.layout = s.pool.layout ∧
    (∀ i, t.trigger.programs.get i = (s.trigger.programs.get i).disarm) ∧ t.trigger.strobes = s.trigger.strobes ∧
    (t.slots.get n).state = .running ∧ (t.slots.get n).order = some .halt ∧ (t.slots.get n).reason = .none ∧
    (t.slots.get n).results = [] ∧
    (∀ p, (t.ports.get p).queue = [] ∧ (t.ports.get p).snap = none ∧ (t.ports.get p).cycle = none ∧
      (t.ports.get p).sweep = none ∧ (t.ports.get p).probe = none ∧ (t.ports.get p).power.owed = false ∧
      (t.ports.get p).power.state = (match (s.ports.get p).power.state with
        | .held => .held
        | .lockedOut => .lockedOut
        | _ => .off) ∧
      (t.ports.get p).power.retry = (s.ports.get p).power.retry ∧
      ((s.ports.get p).power.state.powered = true → (t.ports.get p).power.base = 0 ∧ (t.ports.get p).power.motion = 0) ∧
      (t.ports.get p).link.state = .dark ∧
      (t.ports.get p).faults = (s.ports.get p).faults ∧ (t.ports.get p).cable = (s.ports.get p).cable ∧
      (t.ports.get p).sheet = (s.ports.get p).sheet) ∧
    (∀ p m, QEntry.order m ∈ (s.ports.get p).queue → (t.slots.get m).state = .aborted ∧ (t.slots.get m).reason = .halted) ∧
    (∀ m, m ≠ n → (∀ p, QEntry.order m ∉ (s.ports.get p).queue) → t.slots.get m = s.slots.get m) ∧
    (s.pool.claims = [] → ∀ (b : Nat) (x : Entry), s.pool.entries[b]? = some x → ∃ y, t.pool.entries[b]? = some y ∧
      (x.state = .filling → y.state = .out ∧ y.owner = x.owner ∧ y.summary = some (summaryOf x .spoiled)) ∧
      (x.state = .reserved → y.state = .given ∧ y.owner = none ∧ y.stamp = none) ∧
      (x.state = .out ∨ x.state = .given → y = x)) ∧
    (∀ (p : Port) (c : BufClaim) (b : Nat) (x : Entry), s.pool.claims = [c] → c.port = p → c.requester = .trace →
      c.status = .live → (∀ z ∈ s.pool.entries, z.state = .out ∨ z.state = .given) → judgeClaim p .trace s = .got b →
      s.pool.entries[b]? = some x → ∃ y, t.pool.entries[b]? = some y ∧ y.state = .out ∧ y.kind = .trace ∧ y.owner = some p ∧
      y.summary.map (·.outcome) = some .spoiled)) ∧
  (∀ s : State, live s = true → ∃ t, exec .haltTeardownDone s = .next t ∧
    (∀ n, (s.slots.get n).halts = true → (t.slots.get n).state = .done ∧ (t.slots.get n).results = []) ∧
    (∀ n, (s.slots.get n).halts = false → t.slots.get n = s.slots.get n) ∧
    t.cell = s.cell ∧ t.ports = s.ports ∧ t.pool = s.pool ∧ t.trigger = s.trigger ∧ t.faults = s.faults)

/-- ARM of a DISARMED program takes its record from the copy: ARMED, no step pending, overruns 0, its timer a period on or its target
the encoder count plus n. ARM of another leaves it. DISARM of an ARMED or RUNNING program drops its timer, target, pending steps and
waiting decisions; strobes stay. Both are DONE with the state and the overrun count (R44, R105, R106). -/
def Obligations.ArmAndDisarm : Prop :=
  ∀ (n : SlotNo) (i : ProgNo) (c : CellSheet) (s : State), live s = true → s.cell.mode = .run → s.cell.sheet = some c →
    (handedOrder n s = some (.arm i) → ∃ g, g = (if (s.trigger.programs.get i).state = .disarmed then
        { s.trigger.programs.get i with
          state := .armed, record := c.programs.get i, overruns := 0, nextStep := 0
          nextEvent := if (c.programs.get i).source = .timer then some (s.clock + (c.programs.get i).period) else none
          target := if (c.programs.get i).source = .encoder then
            some (s.trigger.encCount + BitVec.ofNat 32 (c.programs.get i).spacing) else none }
        else s.trigger.programs.get i) ∧
      exec (.arm n) s = .next (State.finished n .done .none 0 (armResults g)
        { s with trigger := { s.trigger with programs := putAt s.trigger.programs i g } }).carried) ∧
    (handedOrder n s = some (.disarm i) → (s.trigger.programs.get i).state ≠ .disarmed → ∃ g,
      g = { s.trigger.programs.get i with state := .disarmed, nextEvent := none, target := none, nextStep := 0 } ∧
      exec (.disarm n) s = .next (State.finished n .done .none 0 (armResults g) { s with
        trigger := { s.trigger with programs := putAt s.trigger.programs i g }
        pool := { s.pool with
          claims := s.pool.claims.map fun x =>
            if Requester.isStep i x.requester = true ∧ x.status = .live then { x with status := .dropped } else x } }).carried) ∧
    (handedOrder n s = some (.disarm i) → (s.trigger.programs.get i).state = .disarmed →
      exec (.disarm n) s = .next (s.finished n .done .none 0 (armResults (s.trigger.programs.get i))).carried)

/-- CANCEL (R45): REFUSED NOT_CANCELLABLE on its own slot, on a target that is IDLE or final, and on a RUNNING one that is no queue
order. A QUEUED target leaves its queue CANCELLED, answered before the CANCEL, which is DONE with result 0; a head that leaves shows in
the port report, and the next entry begins (said for a CYCLE), or waits for a CABLE_LOAD. A RUNNING target: DONE, result 1. One whose
mark is set, or whose safe point is not reached, gets or keeps its mark and goes on: a SNAP whose frame is FILLING (R56), a sweep after
the grant of its move (R147), or, by the model's choice, in a step that needed no move (log 67), a probe HUSHING or CLAIMING (R158). At its safe point it is CANCELLED with the results of that end. A SNAP
that has not fired: no buffer, no tag, its claim dropped; one whose buffer is RESERVED: the buffer GIVEN, the tag (R56), and no
entry touched where a rebuild has removed the SNAP's own (the model's choice, log 45). A CYCLE hold:
the state found, the port left as it is (R57). A sweep before the grant: its steps and the focus position, its hold on wants released
(R147). A probe in CLASSING, DRAINING or PULSING: its trace fields and path, the link resumed, a trace delivered SPOILED, no finding and
no cable record (R157, R158). The model's choice: a QUEUED target's result bytes are all zero (log 46), the fields before a cancelled
probe's own are zero (log 17), and the path of a probe that took none is either value (log 14). Stated for a RUNNING target alone in its
queue, the only run of its port; a CYCLE whose port is not OFF or wants OFF; no change of power held back by the probe. -/
def Obligations.CancelTable : Prop :=
  ∀ (n t : SlotNo) (s : State), live s = true → s.cell.mode ≠ .setup → handedOrder n s = some (.cancel t) →
    ((t = n ∨ (s.slots.get t).state = .idle ∨ (s.slots.get t).state.final = true ∨
        ((s.slots.get t).state = .running ∧ (s.slots.get t).order.bind Order.queuePort = none)) →
      exec (.cancel n) s = .next (s.finished n .refused .notCancellable 0 []).carried) ∧
    (∀ p, t ≠ n → (s.slots.get t).order.bind Order.queuePort = some p →
      ((s.slots.get t).state = .queued → (s.ports.get p).queue.head? ≠ some (.order t) →
        exec (.cancel n) s = .next (State.finished n .done .none 0 [0] (State.finished t .cancelled .cancelledByOrder 0 []
          { s with ports := modAt s.ports p fun q => { q with queue := q.queue.filter (· != .order t) } })).carried) ∧
      (∀ rest, (s.slots.get t).state = .queued → (s.ports.get p).queue = .order t :: rest → .order t ∉ rest →
        rest = [] ∨ (loadRuns p s = true ∧ rest.head? = some .probe) →
        exec (.cancel n) s = .next ((State.finished n .done .none 0 [0] (State.finished t .cancelled .cancelledByOrder 0 []
          { s with ports := modAt s.ports p fun q => { q with queue := rest } })).carried.reported [p])) ∧
      (∀ m rest, (s.slots.get t).state = .queued → (s.ports.get p).queue = .order t :: .order m :: rest →
        .order t ∉ rest → m ≠ t → m ≠ n → (s.slots.get m).state = .queued → (s.slots.get m).order = some (.cycle p) →
        (s.ports.get p).power.state = .off →
        exec (.cancel n) s = .next (State.reported [p] { (State.finished n .done .none 0 [0] (State.finished t .cancelled
            .cancelledByOrder 0 [] s)).carried.ran m with
          ports := modAt s.ports p fun q => { q with
            queue := .order m :: rest, cycle := some { slot := m, found := .off, holdEnd := s.clock + 500000 } } })) ∧
      ((s.slots.get t).state = .running → (s.slots.get t).stopMark = true →
        exec (.cancel n) s = .next (State.finished n .done .none 0 [1]
          { s with slots := modAt s.slots t fun y => { y with stopMark := true } }).carried) ∧
      ((s.slots.get t).state = .running → (s.slots.get t).stopMark = false → (s.ports.get p).queue = [.order t] →
        ((∀ r, (s.ports.get p).snap = some r → r.shot ≠ none → r.opened = true →
            exec (.cancel n) s = .next (State.finished n .done .none 0 [1]
              { s with slots := modAt s.slots t fun y => { y with stopMark := true } }).carried) ∧
          (∀ w, (s.ports.get p).sweep = some w → (s.ports.get p).snap = none → (s.ports.get p).cycle = none →
            w.phase = .deciding ∨ w.phase = .frame ∨ ((w.phase = .moving ∨ w.phase = .best) ∧
              (s.ports.get p).lens.state ≠ .staged ∧ (s.ports.get p).lens.state ≠ .waitPower) →
            exec (.cancel n) s = .next (State.finished n .done .none 0 [1]
              { s with slots := modAt s.slots t fun y => { y with stopMark := true } }).carried)) ∧
        (∀ r, (s.ports.get p).snap = some r → (s.ports.get p).probe = none → r.slot = t → r.shot = none → ∃ u, exec (.cancel n) s = .next u ∧
          StopAnswered n t p (snapResults none none none) u ∧ (u.ports.get p).snap = none ∧ u.pool.entries = s.pool.entries ∧
          u.pool.claims = s.pool.claims.map fun c =>
            if c.requester = .snap t ∧ c.status = .live then { c with status := .dropped } else c) ∧
        (∀ r, (s.ports.get p).snap = some r → (s.ports.get p).probe = none → r.slot = t → ∀ z, r.shot = some z →
          ∀ tag b, z = (tag, b) → r.opened = false →
          ∃ u, exec (.cancel n) s = .next u ∧
          StopAnswered n t p (snapResults none (some tag) none) u ∧ (u.ports.get p).snap = none ∧
          (∀ x, s.pool.entries[b]? = some x → Entry.joins p .reserved tag x = true →
            (∃ y, u.pool.entries[b]? = some y ∧ y = { x with
              state := .given, owner := none, stamp := none, reservedBy := none, count := y.count }) ∧
            ∀ k, k ≠ b → u.pool.entries[k]? = s.pool.entries[k]?) ∧
          ((∀ x, s.pool.entries[b]? = some x → Entry.joins p .reserved tag x = false) →
            u.pool.entries = s.pool.entries)) ∧
        (∀ c, (s.ports.get p).cycle = some c → (s.ports.get p).snap = none → (s.ports.get p).probe = none → c.slot = t →
          (s.ports.get p).power.state ≠ .off ∨ wantOf (s.ports.get p) = .off → ∃ u, exec (.cancel n) s = .next u ∧
          StopAnswered n t p [BitVec.ofNat 8 c.found.code] u ∧ (u.ports.get p).cycle = none ∧
          (u.ports.get p).power = (s.ports.get p).power ∧ u.budget = s.budget) ∧
        (∀ w, (s.ports.get p).sweep = some w → (s.ports.get p).snap = none → (s.ports.get p).cycle = none →
          (s.ports.get p).probe = none → w.slot = t →
          (w.phase = .moving ∨ w.phase = .best) → (s.ports.get p).lens.state = .staged ∨ (s.ports.get p).lens.state = .waitPower →
          ∃ u, exec (.cancel n) s = .next u ∧ StopAnswered n t p (sweepResults w.steps (s.ports.get p).lens.pos.focus) u ∧
          (u.ports.get p).sweep = none ∧ (u.ports.get p).lens.held = Axes.none) ∧
        (∀ r, (s.ports.get p).probe = some r → (s.ports.get p).snap = none → (s.ports.get p).cycle = none →
          (s.ports.get p).sweep = none → r.job = .learn t ∨ (∃ asked, r.job = .order t asked) →
          r.phase = .classing ∨ r.phase = .draining ∨ r.phase = .pulsing → (s.ports.get p).power.owed = false →
          ∃ u, exec (.cancel n) s = .next u ∧
          ((r.path = some .hushed ∧ StopAnswered n t p (earlyResults r.job r.trace 1) u) ∨
            (r.path = some .dark ∧ StopAnswered n t p (earlyResults r.job r.trace 0) u) ∨ (r.path = none ∧
              (StopAnswered n t p (earlyResults r.job r.trace 0) u ∨ StopAnswered n t p (earlyResults r.job r.trace 1) u))) ∧
          (u.ports.get p).probe = none ∧ (u.ports.get p).cable = (s.ports.get p).cable ∧ u.faults.log = s.faults.log ∧
          ((s.ports.get p).link.state = .hush → (u.ports.get p).link.state = .talk) ∧
          ∀ b, r.trace.buffer = some b → ∀ x, s.pool.entries[b]? = some x → x.state = .filling → ∃ y, u.pool.entries[b]? = some y ∧
            y.state = .out ∧ y.owner = x.owner ∧ y.summary.map (·.outcome) = some .spoiled)) ∧
      ((s.slots.get t).state = .running → (s.slots.get t).stopMark = false → ∀ r, (s.ports.get p).probe = some r →
        (s.ports.get p).snap = none → (s.ports.get p).cycle = none → (s.ports.get p).sweep = none →
        r.phase = .hushing ∨ r.phase = .claiming →
        exec (.cancel n) s = .next (State.finished n .done .none 0 [1]
          { s with slots := modAt s.slots t fun y => { y with stopMark := true } }).carried))

/-- CABLE_LOAD: REFUSED BUSY_TARGET while a probe or another load runs on the port; else RUNNING with the read of 128 bytes issued and its
limit of 50 ms. The read's completion replaces the record whole, DONE with its state, or ends REFUSED with the reason and field in error;
a completion error or 50 ms without one ends ABORTED TIMEOUT; then the record is kept and the result bytes are zero (R49, R151; log 47). A
completion of another read is discarded (log 42). The ends are stated for a port whose queue is empty, so that no probe has waited for
them. CABLE_SAVE: REFUSED BUSY_TARGET while a load for the port runs; else the 128 bytes of the record as it stands are written, and the
order is DONE with the record's state; the Cable Table is left (R50, R152). -/
def Obligations.CableOrders : Prop :=
  (∀ (n : SlotNo) (p : Port) (a : Addr) (s : State), live s = true →
     (handedOrder n s = some (.cableLoad p a) → s.cell.mode ≠ .setup →
       ((s.ports.get p).probe ≠ none ∨ loadRuns p s = true →
         exec (.cableLoad n) s = .next (s.finished n .refused .busyTarget 0 []).carried) ∧
       ((s.ports.get p).probe = none → loadRuns p s = false → ∃ u, u = (State.ran n { s with
           slots := modAt s.slots n fun x =>
             { x with loadBy := some (s.clock + 50000), reason := .none, field := 0, results := [] } }) ∧
         exec (.cableLoad n) s = .next (State.carried { u with
           reads := u.reads.issued (.load n), traffic := u.traffic ++ [.read u.reads.next a 128] }))) ∧
     ((s.slots.get n).state = .running → (s.slots.get n).order = some (.cableLoad p a) → (s.ports.get p).queue = [] →
       ∀ k, k = readNumber (.load n) s →
       (∀ bytes c, judgeCable bytes = .ok c → exec (.cableLoadReadComplete n ⟨k, bytes⟩) s =
         .next (State.finished n .done .none 0 [BitVec.ofNat 8 c.state.code]
           { s with ports := modAt s.ports p fun q => { q with cable := c } })) ∧
       (∀ bytes r f, judgeCable bytes = .error (r, f) → exec (.cableLoadReadComplete n ⟨k, bytes⟩) s =
         .next (s.finished n .refused r f [])) ∧
       (∀ error, error = some k ∨ (error = none ∧ due (s.slots.get n).loadBy s = true) →
         exec (.cableLoadTimeout n error) s = .next (s.finished n .aborted .timeout 0 [])) ∧
       (∀ j bytes, j ≠ k → exec (.cableLoadReadComplete n ⟨j, bytes⟩) s = .next s ∧
         exec (.cableLoadTimeout n (some j)) s = .next s))) ∧
  (∀ (n : SlotNo) (p : Port) (a : Addr) (s : State), live s = true → s.cell.mode ≠ .setup →
     handedOrder n s = some (.cableSave p a) →
     (loadRuns p s = true → exec (.cableSave n) s = .next (s.finished n .refused .busyTarget 0 []).carried) ∧
     (loadRuns p s = false → exec (.cableSave n) s = .next (State.finished n .done .none 0
       [BitVec.ofNat 8 (s.ports.get p).cable.state.code]
       { s with traffic := s.traffic ++ [.write a (s.ports.get p).cable.bytes] }).carried))

/-- CLEAR_BREAKS removes exactly the records of the port named, or of any port, that are RESOLVED or, with active-too set, any; the
others keep their order. It is DONE with the number removed; ATTENTION.BREAKS is set when one was removed and the page is HELD. No
fault count or latched set changes (R48). -/
def Obligations.ClearBreaksRemoves : Prop :=
  ∀ (n : SlotNo) (port : Option Port) (activeToo : Bool) (s : State), live s = true → s.page.taken = .held →
    s.cell.mode ≠ .setup → handedOrder n s = some (.clearBreaks port activeToo) → ∃ t,
    exec (.clearBreaks n) s = .next t ∧
    t.faults.log = s.faults.log.filter (fun r =>
      !((activeToo || !r.active) && (match port with | some p => r.port == p | none => true))) ∧
    (t.slots.get n).state = .done ∧
    (t.slots.get n).results = [BitVec.ofNat 8 (s.faults.log.length - t.faults.log.length)] ∧
    (t.page.attention = s.page.attention ||| flagOrders |||
      (if t.faults.log.length < s.faults.log.length then flagBreaks else 0)) ∧
    t.ports = s.ports ∧ t.cell = s.cell ∧ t.faults.stopLatch = s.faults.stopLatch ∧
    ∀ k, k ≠ n → t.slots.get k = s.slots.get k

/-- CLEAR_FAULTS empties the latched set and answers it as it stood, counts and last kind kept; an empty set is left and nothing is
rewritten. CLEAR_LOCKOUT moves a LOCKED_OUT port to HELD with its retry count 0, the result flag set; a port in any other power state is
left, with the flag clear. Both are DONE in either case (R46). CLEAR_LOCKOUT is stated for a port without a probe. -/
def Obligations.PortClears : Prop :=
  (∀ (n : SlotNo) (p : Port) (s : State), live s = true → s.cell.mode ≠ .setup → handedOrder n s = some (.clearFaults p) →
     ((s.ports.get p).faults.latched.toList.any id = true → exec (.clearFaults n) s =
       .next ((State.finished n .done .none 0 (latchResults (s.ports.get p).faults.latched) { s with
         ports := modAt s.ports p fun q => { q with
           faults := { q.faults with latched := Vector.replicate 9 false } } }).carried.reported [p])) ∧
     ((s.ports.get p).faults.latched.toList.any id = false → exec (.clearFaults n) s =
       .next (s.finished n .done .none 0 (latchResults (s.ports.get p).faults.latched)).carried)) ∧
  (∀ (n : SlotNo) (p : Port) (s : State), live s = true → s.cell.mode ≠ .setup →
     handedOrder n s = some (.clearLockout p) → (s.ports.get p).probe = none →
     ((s.ports.get p).power.state = .lockedOut → exec (.clearLockout n) s =
       .next ((State.finished n .done .none 0 [1] { s with ports := modAt s.ports p fun q => { q with
         power := { q.power with state := .held, retry := 0 } } }).carried.reported [p])) ∧
     ((s.ports.get p).power.state ≠ .lockedOut → exec (.clearLockout n) s =
       .next (s.finished n .done .none 0 [0]).carried))

/-- CLEAR_STOP (R47): a set latch is cleared, STOP_OUT becoming inactive, and the header report is rewritten; a clear latch is left and
nothing is rewritten for it. DONE either way, the result flag giving whether the latch was set; ATTENTION.STOP is left. -/
def Obligations.ClearStopClears : Prop :=
  ∀ (n : SlotNo) (s : State), live s = true → s.cell.mode ≠ .setup → handedOrder n s = some .clearStop →
    (s.faults.stopLatch = true → ∃ u, u = State.headerShown 0 { s with faults := { s.faults with stopLatch := false } } ∧
      stopOut u = false ∧ u.page.attention = s.page.attention ∧
      exec (.clearStop n) s = .next (u.finished n .done .none 0 [1]).carried) ∧
    (s.faults.stopLatch = false → exec (.clearStop n) s = .next (s.finished n .done .none 0 [0]).carried)

/-- CHECK_TEST stores the bitwise complement of the check that the copy computes to and is DONE; the copy is left (R35). CELL_RECHECK
due in RUN: a copy that computes to the stored check changes nothing but the next expiry, 100 ms on (R33); a mismatch is CELL_CHECK: the
cell is in CONFIGURE with that cause, the re-check stopped, and the stop latch set, with no other change of the Fault Unit (R34). The
teardown is HALT's (R32): the budget, the wait list and the inrush queue are empty, the programs DISARMED, every order queued or running
in a queue ABORTED HALTED and no other slot changed, no queue entry or run left; every port that is not HELD or LOCKED_OUT is OFF, a
powered one with allotments 0 and its lens UNKNOWN; every link is DARK, without an identity; retry counts, fault sets, cable records and
copies are kept; FILLING buffers are OUT, SPOILED, to their owner, RESERVED ones GIVEN. Stated with the link of a port that is not powered
DARK, as BudgetLaws says of every run. -/
def Obligations.CellCheckFaults : Prop :=
  (∀ (n : SlotNo) (c : CellSheet) (s : State), live s = true → s.cell.mode = .run → s.cell.sheet = some c →
    handedOrder n s = some .checkTest → exec (.checkTest n) s = .next (State.finished n .done .none 0 []
      { s with cell := { s.cell with storedCheck := some (~~~ c.check) } }).carried) ∧
  (∀ (d : Nat) (s : State), live s = true → s.cell.mode = .run → s.cell.recheckAt = some d → d ≤ s.clock →
    (s.cell.sheet.map CellSheet.check = s.cell.storedCheck → exec .cellRecheck s =
      .next { s with cell := { s.cell with recheckAt := some (d + 100000) } }) ∧
    (s.cell.sheet.map CellSheet.check ≠ s.cell.storedCheck →
      (∀ p, (s.ports.get p).link.state ≠ .dark → (s.ports.get p).power.state.powered = true) → ∃ t, exec .cellRecheck s = .next t ∧
      t.cell = { s.cell with mode := .configure, cause := some .cellCheck, recheckAt := none } ∧
      t.faults = { s.faults with stopLatch := true } ∧ stopOut t = true ∧ t.budget = Budget.reset ∧
      (∀ i, t.trigger.programs.get i = (s.trigger.programs.get i).disarm) ∧ t.trigger.strobes = s.trigger.strobes ∧
      t.pool.claims = [] ∧ t.pool.layout = s.pool.layout ∧
      (∀ p m, QEntry.order m ∈ (s.ports.get p).queue → (t.slots.get m).state = .aborted ∧ (t.slots.get m).reason = .halted) ∧
      (∀ m, (∀ p, QEntry.order m ∉ (s.ports.get p).queue) → t.slots.get m = s.slots.get m) ∧
      (∀ p, (t.ports.get p).queue = [] ∧ (t.ports.get p).snap = none ∧ (t.ports.get p).cycle = none ∧
        (t.ports.get p).sweep = none ∧ (t.ports.get p).probe = none ∧
        (t.ports.get p).power.state = (match (s.ports.get p).power.state with
          | .held => .held
          | .lockedOut => .lockedOut
          | _ => .off) ∧
        (t.ports.get p).power.retry = (s.ports.get p).power.retry ∧ (t.ports.get p).power.owed = false ∧
        ((s.ports.get p).power.state.powered = true → (t.ports.get p).power.base = 0 ∧ (t.ports.get p).power.motion = 0 ∧
          (t.ports.get p).lens.state = .unknown ∧ (t.ports.get p).lens.move = none) ∧ (t.ports.get p).link.state = .dark ∧
        ((s.ports.get p).link.state ≠ .dark → (t.ports.get p).link.identity = none) ∧
        (t.ports.get p).faults = (s.ports.get p).faults ∧ (t.ports.get p).cable = (s.ports.get p).cable ∧
        (t.ports.get p).sheet = (s.ports.get p).sheet) ∧
      (s.pool.claims = [] → ∀ (b : Nat) (x : Entry), s.pool.entries[b]? = some x → ∃ y, t.pool.entries[b]? = some y ∧
        (x.state = .filling → y.state = .out ∧ y.owner = x.owner ∧ y.summary = some (summaryOf x .spoiled)) ∧
        (x.state = .reserved → y.state = .given ∧ y.owner = none ∧ y.stamp = none) ∧
        (x.state = .out ∨ x.state = .given → y = x))))

/-! ## Queue orders -/

/-- SNAP at the head of its queue in RUN, on a port that is ON and TALK without a probe, its lens not held back, with a claim that finds
buffer b: the slot is RUNNING; the next fire tag is used and FIRE given to the downlink; b is RESERVED for the port with a stamp
without program and step, and its timer of exposure + 100 ms runs; the fires accepted count advances. No other buffer, port or
allotment changes (R55, R109, R111, R120, R123). On a port that is not ON, or whose link is DARK or WAKE, the skip NOT_READY is counted,
the slot is ABORTED LINK_LOST, and the queue is left empty (R55, R109). A queue order that is not the head of its port's queue waits there:
its command changes nothing but that the ORDERS sweep goes on (R43, R52). -/
def Obligations.SnapAtTheHead : Prop :=
  (∀ (n : SlotNo) (p : Port) (v b : Nat) (x : Entry) (s : State), live s = true →
     handedOrder n s = some (.snap p v) → (s.ports.get p).queue = [.order n] → (s.slots.get n).state = .queued →
     s.cell.mode = .run → (s.ports.get p).power.state = .on → (s.ports.get p).link.state = .talk →
     (s.ports.get p).probe = none →
     (holdsFrames (s.ports.get p) = false ∨ ((s.ports.get p).lens.state ≠ .staged ∧
       (s.ports.get p).lens.state ≠ .waitPower ∧ (s.ports.get p).lens.state ≠ .moving)) →
     judgeClaim p .frame s = .got b → s.pool.entries[b]? = some x →
     ∀ exposure, exposure = (if v = 0 then defaultExposure (s.ports.get p) else v) → ∃ t y,
     exec (.snap n) s = .next t ∧ t.pool.entries[b]? = some y ∧
     (t.slots.get n).state = .running ∧ t.handed = none ∧
     t.trigger = { s.trigger with nextTag := s.trigger.nextTag + 1 } ∧
     t.ports.get p = { s.ports.get p with
       snap := some { slot := n, shot := some (s.trigger.nextTag, b), opened := false }
       link := enqueue (.fire s.trigger.nextTag exposure) (s.ports.get p).link
       fires := (s.ports.get p).fires + 1, reportCount := (t.ports.get p).reportCount } ∧
     (∀ q, q ≠ p → t.ports.get q = s.ports.get q) ∧
     y = { x with
       state := .reserved, owner := some p, kind := .frame, count := y.count
       stamp := some { port := p, tag := s.trigger.nextTag, step := none, time := cellTime s, exposure := exposure
                       lens := (s.ports.get p).lens.pos, moving := (s.ports.get p).lens.state == .moving
                       sweepStep := none }
       reservedBy := some (s.clock + (exposure + 100000)) } ∧
     (∀ k, k ≠ b → t.pool.entries[k]? = s.pool.entries[k]?) ∧ t.budget = s.budget ∧ t.cell = s.cell ∧ t.faults = s.faults) ∧
  (∀ (n : SlotNo) (p : Port) (v : Nat) (s : State), live s = true →
     handedOrder n s = some (.snap p v) → (s.ports.get p).queue = [.order n] → (s.slots.get n).state = .queued →
     ((s.ports.get p).power.state ≠ .on ∨ (s.ports.get p).link.state = .dark ∨ (s.ports.get p).link.state = .wake) →
     (s.ports.get p).probe = none → (s.ports.get p).sweep = none → ∃ t,
     exec (.snap n) s = .next t ∧ (t.slots.get n).state = .aborted ∧ (t.slots.get n).reason = .linkLost ∧
     (t.ports.get p).queue = [] ∧ (t.ports.get p).snap = none ∧
     (t.ports.get p).skips = modAt (s.ports.get p).skips 0 (· + 1) ∧ t.pool = s.pool ∧ t.trigger = s.trigger) ∧
  (∀ (n m : SlotNo) (p : Port) (o : Order) (c : Instr) (rest : List QEntry) (s : State), live s = true →
     handedOrder n s = some o → o.queuePort = some p → c = Order.command n o →
     (s.ports.get p).queue = .order m :: rest → (s.slots.get m).state = .running → exec c s = .next s.carried)

/-- CYCLE at the head of its queue records the power state found and holds the port for 500 ms. OFF, HELD and LOCKED_OUT are left; a
WAITING port's claim is withdrawn and it is OFF; RETRY_WAIT is abandoned, its retry count kept, and the port is OFF; a powered port
loses its power, allotments 0 and its link DARK, and is OFF (R57, R78). Stated for a port without a probe, the last case with no claim
waiting. CYCLE_HOLD_END of a CYCLE that is alone in its queue: DONE, the results giving the power state found, and the queue empty; a port
that is not OFF, or whose want is OFF, is left as it stands (R57). An OFF port that wants ON or STANDBY begins its power-up in that event:
its POWER_UP claim is granted if it fits the room, the port QUEUED with its allotment and rating at the tail of the inrush queue, which a
FREE stage serves; else it waits, the port WAITING (R57, R62, R63, R65 to R67; said for RUN, an empty wait list and no probe). -/
def Obligations.CycleRuns : Prop :=
  (∀ (n : SlotNo) (p : Port) (s : State), live s = true →
     handedOrder n s = some (.cycle p) → (s.ports.get p).queue = [.order n] → (s.slots.get n).state = .queued →
     (s.ports.get p).probe = none →
     ∀ run : CycleRun, run = { slot := n, found := (s.ports.get p).power.state, holdEnd := s.clock + 500000 } →
     ((s.ports.get p).power.state = .off ∨ (s.ports.get p).power.state = .held ∨ (s.ports.get p).power.state = .lockedOut →
       exec (.cycle n) s = .next (State.reported [p] { (s.ran n).carried with
         ports := modAt s.ports p fun q => { q with cycle := some run } })) ∧
     ((s.ports.get p).power.state = .waiting →
       exec (.cycle n) s = .next (State.reported [p] { (s.ran n).carried with
         ports := modAt s.ports p fun q => { q with cycle := some run, power := { q.power with state := .off } }
         budget := { s.budget with
           waitList := s.budget.waitList.filter fun c => !(c.port == p && c.kind == .powerUp) } })) ∧
     ((s.ports.get p).power.state = .retryWait →
       exec (.cycle n) s = .next (State.reported [p] { (s.ran n).carried with
         ports := modAt s.ports p fun q => { q with
           cycle := some run, power := { q.power with state := .off, retryAt := none, retryEnded := false } } })) ∧
     ((s.ports.get p).power.state.powered = true → s.budget.waitList = [] → (s.ports.get p).snap = none →
       (s.ports.get p).sweep = none → ∃ t, exec (.cycle n) s = .next t ∧
       (t.slots.get n).state = .running ∧ (t.ports.get p).cycle = some run ∧ (t.ports.get p).power.state = .off ∧
       (t.ports.get p).power.base = 0 ∧ (t.ports.get p).power.motion = 0 ∧ (t.ports.get p).link.state = .dark ∧
       (t.ports.get p).power.retry = (s.ports.get p).power.retry ∧
       ∀ q, q ≠ p → (t.ports.get q).power = (s.ports.get q).power)) ∧
  (∀ (p : Port) (c : CycleRun) (s : State), live s = true → (s.ports.get p).cycle = some c → c.holdEnd ≤ s.clock →
     (s.ports.get p).queue = [.order c.slot] → (s.ports.get p).power.state ≠ .off ∨ wantOf (s.ports.get p) = .off →
     exec (.cycleHoldEnd p) s = .next ((State.finished c.slot .done .none 0 [BitVec.ofNat 8 c.found.code] { s with
       ports := modAt s.ports p fun q => { q with cycle := none, queue := [] } }).reported [p])) ∧
  (∀ (p : Port) (c : CycleRun) (s : State), live s = true → s.cell.mode = .run → (s.ports.get p).cycle = some c →
     c.holdEnd ≤ s.clock → (s.ports.get p).queue = [.order c.slot] → (s.ports.get p).power.state = .off →
     wantOf (s.ports.get p) ≠ .off → (s.ports.get p).probe = none → s.budget.waitList = [] →
     ∀ d, d = powerUpClaim s p →
     (d.amount ≤ room s → exec (.cycleHoldEnd p) s = .next
       ((State.finished c.slot .done .none 0 [BitVec.ofNat 8 c.found.code] { s with
         ports := modAt s.ports p fun q => { q with cycle := none, queue := [], power := q.power.granted d }
         budget := { s.budget with
           inrush := s.budget.inrush ++ [p], stage := stageOf s.budget.stage (s.budget.inrush ++ [p]) } }).reported [p])) ∧
     (room s < d.amount → exec (.cycleHoldEnd p) s = .next
       ((State.finished c.slot .done .none 0 [BitVec.ofNat 8 c.found.code] { s with
         ports := modAt s.ports p fun q => { q with cycle := none, queue := [], power := { q.power with state := .waiting } }
         budget := { s.budget with waitList := [d] } }).reported [p])))

/-- PROBE and LEARN at the head of their queue on an unpowered port whose link is DARK, with a standing sheet: the settings are fixed,
the port is classed and pulsed DARK at once. A PROBE that asks for a trace claims a buffer first: one found is RESERVED and then
FILLING as a trace; a port with two buffers in flight has its trace omitted (R153, R154, R156, R131). They are REFUSED at their
beginning: WRONG_MODE without a standing sheet; a PROBE that requires a reference, NO_REFERENCE on a port with neither baseline nor
length; a LEARN, BREAKS_ACTIVE on a port with an ACTIVE OPEN or SHORT record, unless service is OPEN and force is set. The entry then
leaves, and no probe runs (R153, R163, R164). -/
def Obligations.ProbeBegins : Prop :=
  (∀ (n : SlotNo) (p : Port) (c : CellSheet) (run : ProbeRun) (s : State), live s = true →
     (s.ports.get p).queue = [.order n] → (s.slots.get n).state = .queued → (s.slots.get n).stopMark = false →
     loadRuns p s = false → s.cell.standing = true → s.cell.sheet = some c →
     (s.ports.get p).probe = none → (s.ports.get p).link.state = .dark → (s.ports.get p).lens.state ≠ .waitPower →
     ((s.ports.get p).power.state = .off ∨ (s.ports.get p).power.state = .retryWait ∨
       (s.ports.get p).power.state = .held ∨ (s.ports.get p).power.state = .lockedOut) →
     run.phase = .pulsing → run.window = c.window → run.echoThreshold = c.echoThreshold → run.openLevel = c.openLevel →
     run.shortLevel = c.shortLevel → run.velocity = (s.ports.get p).cable.velocity.getD c.velocityDefault →
     run.length = (s.ports.get p).cable.length → run.joints = (s.ports.get p).cable.joints →
     run.baseline = (s.ports.get p).cable.baseline → run.beganPowered = ((s.ports.get p).power.base != 0) →
     run.readyBy = none → run.path = some .dark → run.sets = [] →
     ((∀ requireRef, handedOrder n s = some (.probe p false requireRef) →
         (requireRef = true → (s.ports.get p).cable.baseline ≠ [] ∨ (s.ports.get p).cable.length ≠ none) →
         run.job = .order n false → run.trace = .unasked →
         exec (.probe n) s = .next (State.reported [p] { (s.ran n).carried with
           ports := modAt s.ports p fun q => { q with probe := some run } })) ∧
       (∀ force, handedOrder n s = some (.learn p force) →
         (breaksActive p s.faults.log = true → s.page.service = .opened ∧ force = true) →
         run.job = .learn n → run.trace = .unasked →
         exec (.learn n) s = .next (State.reported [p] { (s.ran n).carried with
           ports := modAt s.ports p fun q => { q with probe := some run } })) ∧
       (∀ b x, handedOrder n s = some (.probe p true false) → judgeClaim p .trace s = .got b →
         s.pool.entries[b]? = some x → run.job = .order n true → run.trace = .got b → ∃ t y,
         exec (.probe n) s = .next t ∧ t.pool.entries[b]? = some y ∧ (t.ports.get p).probe = some run ∧
         y.state = .filling ∧ y.kind = .trace ∧ y.owner = some p ∧ y.stamp = none ∧
         y.openTime = cellTime s ∧ y.bytes = 0) ∧
       (handedOrder n s = some (.probe p true false) → 2 ≤ inFlight p s → run.job = .order n true →
         run.trace = .omitted →
         exec (.probe n) s = .next (State.reported [p] { (s.ran n).carried with
           ports := modAt s.ports p fun q => { q with probe := some run } })))) ∧
  (∀ (n : SlotNo) (p : Port) (o : Order) (why : Reason) (s : State), live s = true →
     handedOrder n s = some o → (s.ports.get p).queue = [.order n] → (s.slots.get n).state = .queued →
     loadRuns p s = false → (s.ports.get p).probe = none → (s.ports.get p).sweep = none →
     ((∃ trace ref force, (o = .probe p trace ref ∨ o = .learn p force) ∧ s.cell.standing = false ∧ why = .wrongMode) ∨
       (∃ trace, o = .probe p trace true ∧ s.cell.standing = true ∧ (s.ports.get p).cable.baseline = [] ∧
         (s.ports.get p).cable.length = none ∧ why = .noReference) ∨
       (∃ force, o = .learn p force ∧ s.cell.standing = true ∧ breaksActive p s.faults.log = true ∧
         (s.page.service ≠ .opened ∨ force = false) ∧ why = .breaksActive)) → ∃ t,
     exec (Order.command n o) s = .next t ∧ (t.slots.get n).state = .refused ∧ (t.slots.get n).reason = why ∧
     (t.slots.get n).field = 0 ∧ (t.ports.get p).queue = [] ∧ (t.ports.get p).probe = none ∧ t.faults.log = s.faults.log ∧
     (t.ports.get p).cable = (s.ports.get p).cable)

/-- SWEEP at the head of its queue: without a contrast region REFUSED NO_REGION, without a lens kind ABORTED LINK_LOST, with kind NONE
REFUSED BAD_VALUE field 3, on a STUCK lens ABORTED TIMEOUT; the entry leaves and the lens record is kept. On a lens that is UNKNOWN or
MOVING an accepted sweep takes its hold, the staged want moving into the held want and, with go to best, losing its focus axis, and
waits with no step made (R144, R145). -/
def Obligations.SweepJudged : Prop :=
  ∀ (n : SlotNo) (p : Port) (params : SweepParams) (s : State), live s = true →
    handedOrder n s = some (.sweep p params) → (s.ports.get p).queue = [.order n] → (s.slots.get n).state = .queued →
    (∀ (st : SlotState) (why : Reason) (field : Nat),
      (regionOf (s.ports.get p) = none ∧ st = .refused ∧ why = .noRegion ∧ field = 0) ∨
      (regionOf (s.ports.get p) ≠ none ∧ (s.ports.get p).lens.kind = none ∧ st = .aborted ∧ why = .linkLost ∧ field = 0) ∨
      (regionOf (s.ports.get p) ≠ none ∧ (s.ports.get p).lens.kind = some .none ∧ st = .refused ∧ why = .badValue ∧
        field = 3) ∨
      (regionOf (s.ports.get p) ≠ none ∧ (∃ k, (s.ports.get p).lens.kind = some k ∧ k ≠ .none) ∧
        (s.ports.get p).lens.state = .stuck ∧ st = .aborted ∧ why = .timeout ∧ field = 0) →
      exec (.sweep n) s = .next ((State.finished n st why field []
        { (s.ran n) with ports := modAt s.ports p fun q => { q with queue := [] } }).carried.reported [p])) ∧
    (regionOf (s.ports.get p) ≠ none → (∃ k, (s.ports.get p).lens.kind = some k ∧ k ≠ .none) →
      (s.ports.get p).lens.state = .unknown ∨ (s.ports.get p).lens.state = .moving →
      (s.slots.get n).stopMark = false → params.count ≠ 0 →
      exec (.sweep n) s = .next (State.reported [p] { (s.ran n).carried with
        ports := modAt s.ports p fun q => { q with
          sweep := some { slot := n, params := params, index := 0, phase := .choose, focus := 0, shot := none, steps := [] }
          lens := { q.lens with
            staged := Axes.none, stagedBy := .sheet, stagingAt := none, stagingMark := false
            held := if params.goBest = true then { q.lens.staged with focus := none } else q.lens.staged
            fromSweep := q.lens.fromSweep || params.goBest } } }))

/-- The steps of a focus sweep. Step i stands at start + i × (end − start) / (n − 1), truncated toward zero and clamped to the limits
(R145). SWEEP on an IDLE lens off its first position takes its hold and moves there; the end of a step's move fires its frame through
the fire decision, recording the focus; a skip records no buffer and no contrast (R112, R144, R145). The step's frame delivered records
its buffer and its contrast; one returned to GIVEN records neither. Then, with the stop mark set, the sweep ends CANCELLED (that a
step that needed no move is recorded first is the model's choice: log 67); with a step
left it moves on; after the last it is DONE, or with go to best set and the best step elsewhere it moves there first (R145 to R147). The
best step has the highest contrast, of equal ones the lowest index (R146). The end of the best move ends the sweep DONE, the position
source SWEEP; STUCK ends it ABORTED TIMEOUT; a fall of the link ABORTED LINK_LOST, a FILLING frame being recorded with its buffer and no
contrast. Every end gives the steps recorded, and releases the hold: the held want becomes the staged one, and is moved to if an axis is
off its position (R146 to R148). Stated with no claim waiting, room for a move, no probe, no SNAP and no want staged. -/
def Obligations.SweepSteps : Prop :=
  (∀ (q : SweepParams) (i : Nat) (l : Limits), 2 ≤ q.count → i < q.count → l.low ≤ l.high →
    stepPosition q i l = max l.low (min l.high (if q.first ≤ q.last then q.first + i * (q.last - q.first) / (q.count - 1)
      else q.first - i * (q.first - q.last) / (q.count - 1)))) ∧
  (∀ (steps : List SweepStep),
    (bestStep steps 0 none = none ↔ ∀ x ∈ steps, x.contrast = none) ∧
    (∀ i x c, bestStep steps 0 none = some (i, x, c) → steps[i]? = some x ∧ x.contrast = some c ∧
      ∀ j y d, steps[j]? = some y → y.contrast = some d → d ≤ c ∧ (j < i → d < c))) ∧
  (∀ (p : Port) (n : SlotNo) (s : State), live s = true → ∀ q, q = s.ports.get p →
    q.link.state = .talk → q.probe = none → q.snap = none → q.lens.staged = Axes.none → q.lens.stagedBy = .sheet →
    s.budget.waitList = [] → s.pool.claims = [] → q.queue = [.order n] →
    ∀ amount, amount = max 1 (q.link.identity.map Identity.motionPower |>.getD 0) →
    ∀ still : LensRec → LensRec, (still = fun r => { r with
      staged := Axes.none, stagedBy := .sheet, stagingAt := none, stagingMark := false }) →
    ∀ moving : Axes → Server → Bool → PortState → PortState, (moving = fun want server best y => { y with
      power := { y.power with motion := amount }, link := enqueue (.lensMove want) y.link
      lens := { still y.lens with
        state := .moving, stuckAt := some (s.clock + 3000000)
        move := some { targets := want, server := server, best := best } } }) →
    ∀ ended : PortState → PortState, (ended = fun y =>
      let z := { y with sweep := none, queue := [], lens := { still y.lens with held := Axes.none } }
      if y.lens.held.unlike y.lens.pos = Axes.none then z else moving (y.lens.held.unlike y.lens.pos) .sheet false z) →
    (∀ params, q.lens.state = .idle → q.sweep = none → frameGap p s = true → q.power.motion = 0 → amount ≤ room s →
      handedOrder n s = some (.sweep p params) → (s.slots.get n).state = .queued → (s.slots.get n).stopMark = false →
      regionOf q ≠ none → (∃ k, q.lens.kind = some k ∧ k ≠ .none) → params.count ≠ 0 →
      ∀ target, target = stepPosition params 0 q.lens.focusLimits → q.lens.pos.focus ≠ some target → ∃ t, exec (.sweep n) s = .next t ∧
      (t.slots.get n).state = .running ∧ t.ports.get p = moving { Axes.none with focus := some target } .sweep false { q with
        reportCount := (t.ports.get p).reportCount
        lens := { q.lens with held := Axes.none, fromSweep := q.lens.fromSweep || params.goBest }
        sweep := some { slot := n, params := params, index := 0, phase := .moving, focus := 0, shot := none, steps := [] } }) ∧
    (∀ w, q.sweep = some w → w.slot = n →
      (∀ (b : BufNo) (z : Entry) (st : Stamp) (total : Word) (status : Byte) (c : Instr) (delivered : Bool), w.phase = .frame →
        w.shot = some (st.tag, b.val) → s.pool.entries[b.val]? = some z → z.kind = .frame → z.owner = some p →
        z.stamp = some st → q.lens.state = .idle → inFlight p s = 1 → q.power.motion = 0 → amount ≤ room s →
        (c = .frameClose p st.tag total status ∧ z.state = .filling ∧ joined p .filling st.tag s = some b.val ∧
            delivered = true) ∨
          (c = .reservedTimeout b ∧ z.state = .reserved ∧ due z.reservedBy s = true ∧ delivered = false) → ∃ t,
        exec c s = .next t ∧ ∀ x : SweepStep,
        x = { position := w.focus, buffer := (if delivered then some b.val else none)
              contrast := if delivered then contrastOf b.val t else none } →
        ∀ y : PortState, y = { q with
          reportCount := (t.ports.get p).reportCount
          link := if delivered then { q.link with silenceAt := some (s.clock + 100000) } else q.link
          delivered := if delivered then q.delivered + 1 else q.delivered } →
        ∀ run : SweepPhase → PortState, (run = fun ph => { y with
          sweep := some { w with phase := ph, index := w.index + 1, shot := none, steps := w.steps ++ [x] } }) →
        ∀ results, results = sweepResults (w.steps ++ [x]) q.lens.pos.focus →
        ((s.slots.get n).stopMark = true → (t.slots.get n).state = .cancelled ∧ (t.slots.get n).reason = .cancelledByOrder ∧
          (t.slots.get n).results = results ∧ t.ports.get p = ended y) ∧
        ((s.slots.get n).stopMark = false → ∀ target, target = stepPosition w.params (w.index + 1) q.lens.focusLimits →
          w.index + 1 < w.params.count → q.lens.pos.focus ≠ some target →
          t.slots.get n = s.slots.get n ∧
          t.ports.get p = moving { Axes.none with focus := some target } .sweep false (run .moving)) ∧
        ((s.slots.get n).stopMark = false → w.params.count ≤ w.index + 1 →
          (bestStep (w.steps ++ [x]) 0 none = none → (t.slots.get n).state = .done ∧ (t.slots.get n).results = results ∧
            t.ports.get p = ended { y with lens := { y.lens with fromSweep := false } }) ∧
          (∀ i best d, bestStep (w.steps ++ [x]) 0 none = some (i, best, d) →
            (w.params.goBest = false ∨ q.lens.pos.focus = some best.position → (t.slots.get n).state = .done ∧
              (t.slots.get n).results = results ∧ t.ports.get p = ended y) ∧
            (w.params.goBest = true → q.lens.pos.focus ≠ some best.position → t.slots.get n = s.slots.get n ∧
              t.ports.get p = moving { Axes.none with focus := some best.position } .sweep true (run .best))))) ∧
      (∀ (l : LensPacket) (m : Move), q.lens.state = .moving → q.lens.move = some m → l.moving = 0 →
        lensStateOk l = true → ∀ pos, pos = q.lens.takePositions l →
        ∀ y : PortState, y = { q with
          link := { q.link with silenceAt := some (s.clock + 100000) }, power := { q.power with motion := 0 }
          lens := { still q.lens with
            state := .idle, pos := pos, move := none, stuckAt := none, fromSweep := q.lens.fromSweep || m.best } } →
        (∀ b, w.phase = .moving → q.power.state = .on → s.cell.mode = .run → judgeClaim p .frame s = .got b →
          ∀ exposure, exposure = (if w.params.exposure = 0 then defaultExposure q else w.params.exposure) → ∃ t,
          exec (.lensState p l) s = .next t ∧ t.ports.get p = { y with
            reportCount := (t.ports.get p).reportCount, fires := q.fires + 1
            link := enqueue (.fire s.trigger.nextTag exposure) y.link
            sweep := some { w with phase := .frame, focus := pos.focus.getD 0, shot := some (s.trigger.nextTag, b) } } ∧
          t.trigger = { s.trigger with nextTag := s.trigger.nextTag + 1 } ∧
          (t.pool.entries[b]?).bind (·.stamp) = some {
            port := p, tag := s.trigger.nextTag, step := none, time := cellTime s, exposure := exposure, lens := pos
            moving := false, sweepStep := some w.index }) ∧
        (w.phase = .moving → q.power.state = .on → 2 ≤ inFlight p s → (s.slots.get n).stopMark = false →
          w.index + 1 < w.params.count → ∀ target, target = stepPosition w.params (w.index + 1) q.lens.focusLimits →
          pos.focus ≠ some target → ∃ t, exec (.lensState p l) s = .next t ∧ t.ports.get p = { y with
            reportCount := (t.ports.get p).reportCount, skips := modAt q.skips 3 (· + 1)
            lens := { y.lens with
              state := .staged, staged := { Axes.none with focus := some target }, stagedBy := .sweep
              stagingAt := some (s.clock + 200000) }
            sweep := some { w with
              focus := pos.focus.getD 0, index := w.index + 1, shot := none
              steps := w.steps ++ [{ position := pos.focus.getD 0, buffer := none, contrast := none }] } }) ∧
        (w.phase = .best → q.lens.held.unlike pos = Axes.none → ∃ t, exec (.lensState p l) s = .next t ∧
          (t.slots.get n).state = (if (s.slots.get n).stopMark = true then .cancelled else .done) ∧
          (t.slots.get n).results = sweepResults w.steps pos.focus ∧
          t.ports.get p = ended { y with reportCount := (t.ports.get p).reportCount })) ∧
      (q.lens.state = .moving → due q.lens.stuckAt s = true → ∃ t, exec (.stuckTimerExpiry p) s = .next t ∧
        (t.slots.get n).state = .aborted ∧ (t.slots.get n).reason = .timeout ∧
        (t.slots.get n).results = sweepResults w.steps q.lens.pos.focus ∧ (t.ports.get p).sweep = none ∧
        (t.ports.get p).queue = [] ∧ (t.ports.get p).lens.held = Axes.none) ∧
      (∀ (b : Nat) (tag : Half) (z : Entry), w.phase = .frame → w.shot = some (tag, b) → due q.link.silenceAt s = true →
        s.pool.entries[b]? = some z → Entry.joins p z.state tag z = true → ∃ t, exec (.silenceTimerExpiry p) s = .next t ∧
        (t.slots.get n).state = .aborted ∧ (t.slots.get n).reason = .linkLost ∧ (t.ports.get p).sweep = none ∧
        (t.ports.get p).queue = [] ∧ (t.ports.get p).lens.held = Axes.none ∧
        (t.slots.get n).results = sweepResults (w.steps ++
          if z.state = .filling then [{ position := w.focus, buffer := some b, contrast := none }] else []) none)))

/-! ## Port power -/

/-- The allotment and the overload limit by the rules' own arithmetic, with the worked figures of the chapter: 120 dW gives 625 mA and
125 dW 652 mA; and a walk grants the oldest claim that fits, passing over larger ones (R60, R63, R71). RETRY_TIMER_END of a port in
RETRY_WAIT, no probe and no CYCLE running: with a want of ON or STANDBY in RUN it is WAITING and its POWER_UP claim for the declared power
arrives. With no other claim waiting, one that fits the room is granted at once: QUEUED, its base allotment the claim's amount and its
rating the declared power, at the tail of the inrush queue, which a FREE stage begins to serve; one that does not fit waits. With a want
of OFF, or outside RUN, the port is OFF (R62, R63, R65, R66, R67, R81). STEADY_TIMER_END sets the retry count to 0 and COOLDOWN_EXPIRY
ends the cool-down; each changes nothing else, and nothing at all before its time (R81, R172). -/
def Obligations.AllotmentsAndRetries : Prop :=
  ((∀ (p : Port) (power : Nat) (s : State), allotment p power s = power + (power * power * loopOf p s + 5759999) / 5760000) ∧
   (∀ w : PortPower, w.limit = ((w.base + w.motion) * 125 + 23) / 24) ∧
   (∀ w : PortPower, w.motion = 0 → (w.base = 120 → w.limit = 625) ∧ (w.base = 125 → w.limit = 652)) ∧
   (∀ (room : Nat) (older newer : List PowerClaim) (c : PowerClaim), (∀ d ∈ older, room < d.amount) → c.amount ≤ room →
     firstFit room (older ++ c :: newer) = some (c, older ++ newer))) ∧
  (∀ (p : Port) (s : State), live s = true → (s.ports.get p).power.state = .retryWait →
     due (s.ports.get p).power.retryAt s = true → (s.ports.get p).probe = none → (s.ports.get p).cycle = none →
     ∀ amount, amount = allotment p (declaredPower (s.ports.get p)) s →
     (wantOf (s.ports.get p) = .off ∨ s.cell.mode ≠ .run →
       exec (.retryTimerEnd p) s = .next (State.reported [p] { s with ports := modAt s.ports p fun q => { q with
         power := { q.power with state := .off, retryAt := none, retryEnded := false } } })) ∧
     (wantOf (s.ports.get p) ≠ .off → s.cell.mode = .run → s.budget.waitList = [] →
       (amount ≤ room s → exec (.retryTimerEnd p) s = .next (State.reported [p] { s with
         ports := modAt s.ports p fun q => { q with power := { q.power with
           state := .queued, retryAt := none, retryEnded := false, base := amount, rating := some (declaredPower q) } }
         budget := { s.budget with
           inrush := s.budget.inrush ++ [p]
           stage := match s.budget.stage with
             | .free => .trimming ((s.budget.inrush ++ [p]).headD p)
             | x => x } })) ∧
       (room s < amount → exec (.retryTimerEnd p) s = .next (State.reported [p] { s with
         ports := modAt s.ports p fun q => { q with power := { q.power with
           state := .waiting, retryAt := none, retryEnded := false } }
         budget := { s.budget with waitList := [{ port := p, kind := .powerUp, amount := amount
                                                  rating := declaredPower (s.ports.get p) }] } })))) ∧
  (∀ (p : Port) (s : State), live s = true →
     (due (s.ports.get p).power.steadyAt s = true → exec (.steadyTimerEnd p) s = .next { s with
       ports := modAt s.ports p fun q => { q with power := { q.power with retry := 0, steadyAt := none } } }) ∧
     (due (s.ports.get p).power.steadyAt s = false → exec (.steadyTimerEnd p) s = .next s) ∧
     (due (s.ports.get p).faults.cooldownAt s = true → exec (.cooldownExpiry p) s = .next { s with
       ports := modAt s.ports p fun q => { q with faults := { q.faults with cooldownAt := none } } }) ∧
     (due (s.ports.get p).faults.cooldownAt s = false → exec (.cooldownExpiry p) s = .next s))

/-- TRIM_COMPLETE of the TRIMMING port stores the average of the 16 readings, rounded toward zero and held within ±63 mA with the
clamped mark (R67; that the rounded average is what the limit is tested on is the model's choice, log 49), takes the port out of the inrush queue into INRUSH with its charge time of 50 ms, and makes the stage CHARGING.
INRUSH_VOLTAGE_REACHED at 90 % of the measured supply: SETTLING for 20 ms, the charge time stopped, and the stage free for the head of
the inrush queue; below 90 % nothing changes. SETTLING_END after 20 ms: the port is ON, its full allotment its base, the steady timer of
60 s started; the link is WAKE, ASK is given to the downlink, and the ASK interval of 250 ms and the greeting wait of 2000 ms run.
WAKE_SETTLE_END: a WAKING port is ON (R67, R68, R69, R75, R88, R89). Stated for a port without a probe. -/
def Obligations.PowerUpPath : Prop :=
  (∀ (p : Port) (readings : Vector Int 16) (s : State), live s = true →
     (s.budget.stage = .trimming p → (s.ports.get p).power.state = .queued → (s.ports.get p).probe = none →
       ∃ trim clamped,
       (readings.toList.sum.tdiv 16 < -63 → trim = -63 ∧ clamped = true) ∧
       (63 < readings.toList.sum.tdiv 16 → trim = 63 ∧ clamped = true) ∧
       (-63 ≤ readings.toList.sum.tdiv 16 → readings.toList.sum.tdiv 16 ≤ 63 →
         trim = readings.toList.sum.tdiv 16 ∧ clamped = false) ∧
       exec (.trimComplete p readings) s = .next (State.reported [p] { s with
         ports := modAt s.ports p fun q => { q with power := { q.power with
           state := .inrush, trim := trim, trimClamped := clamped, chargeAt := some (s.clock + 50000) } }
         budget := { s.budget with inrush := s.budget.inrush.filter (· != p), stage := .charging p } })) ∧
     (s.budget.stage ≠ .trimming p → exec (.trimComplete p readings) s = .next s)) ∧
  (∀ (p : Port) (voltage supply : Nat) (s : State), live s = true → (s.ports.get p).power.state = .inrush →
     (s.ports.get p).probe = none → s.budget.stage = .charging p →
     (supply * 90 ≤ voltage * 100 → exec (.inrushVoltageReached p voltage supply) s = .next (State.reported [p] { s with
       ports := modAt s.ports p fun q => { q with power := { q.power with
         state := .settling, chargeAt := none, settleAt := some (s.clock + 20000) } }
       budget := { s.budget with
         inrush := s.budget.inrush.filter (· != p)
         stage := match s.budget.inrush.filter (· != p) with
           | [] => .free
           | q :: _ => .trimming q } })) ∧
     (voltage * 100 < supply * 90 → exec (.inrushVoltageReached p voltage supply) s = .next s)) ∧
  ((∀ (p : Port) (s : State), live s = true → (s.ports.get p).power.state = .settling →
     due (s.ports.get p).power.settleAt s = true → (s.ports.get p).probe = none → (s.ports.get p).link.state = .dark →
     exec (.settlingEnd p) s = .next (State.reported [p] { s with ports := modAt s.ports p fun q => { q with
       power := { q.power with state := .on, full := q.power.base, settleAt := none, steadyAt := some (s.clock + 60000000) }
       link := enqueue .ask { q.link with
         state := .wake, askAt := some (s.clock + 250000), greetAt := some (s.clock + 2000000) } } })) ∧
   (∀ (p : Port) (s : State), live s = true → (s.ports.get p).power.state = .waking →
     due (s.ports.get p).power.wakeAt s = true → (s.ports.get p).probe = none →
     ((s.ports.get p).link.state ≠ .talk ∨ wantOf (s.ports.get p) ≠ .standby) →
     exec (.wakeSettleEnd p) s = .next (State.reported [p] { s with ports := modAt s.ports p fun q => { q with
       power := { q.power with state := .on, wakeAt := none } } })))

/-- CHARGE_TIME_EXPIRY in INRUSH is INRUSH_TIMEOUT and LIMIT_TIMER_EXPIRY in LIMIT is OVERLOAD: the kind is counted up to 255, latched
and remembered, and the action of its row applied in the same event: CUT makes the port HELD, CUT_LOCK LOCKED_OUT, CUT_RETRY RETRY_WAIT
for 1000 ms with the trip counted, or LOCKED_OUT at the fourth; the allotments are 0 and the link DARK (R68, R71, R78 to R81, R168).
Stated for a port on which nothing runs, with no claim waiting and no internal probe made. -/
def Obligations.PowerFaultActs : Prop :=
  ∀ (p : Port) (k : FaultKind) (c : Instr) (s : State), live s = true → s.budget.waitList = [] →
    ((c = .chargeTimeExpiry p ∧ k = .inrushTimeout ∧ (s.ports.get p).power.state = .inrush ∧
        due (s.ports.get p).power.chargeAt s = true) ∨
      (c = .limitTimerExpiry p ∧ k = .overload ∧ (s.ports.get p).power.state = .limit ∧
        due (s.ports.get p).power.limitAt s = true)) →
    (s.ports.get p).probe = none → (s.ports.get p).snap = none → (s.ports.get p).sweep = none →
    autoProbeOn s = false → ∃ t, exec c s = .next t ∧
    (t.ports.get p).faults = { (s.ports.get p).faults with
      counts := modAt (s.ports.get p).faults.counts k.index (fun n => min 255 (n + 1))
      latched := putAt (s.ports.get p).faults.latched k.index true, last := some k } ∧
    ((reactionOf k s).action = .nothing → (t.ports.get p).power = (s.ports.get p).power) ∧
    ((reactionOf k s).action ≠ .nothing → (t.ports.get p).power.base = 0 ∧ (t.ports.get p).power.motion = 0 ∧
      (t.ports.get p).link.state = .dark) ∧
    ((reactionOf k s).action = .cut → (t.ports.get p).power.state = .held) ∧
    ((reactionOf k s).action = .cutLock → (t.ports.get p).power.state = .lockedOut) ∧
    ((reactionOf k s).action = .cutRetry → (t.ports.get p).power.retry = min 4 ((s.ports.get p).power.retry + 1) ∧
      ((s.ports.get p).power.retry < 3 → (t.ports.get p).power.state = .retryWait ∧
        (t.ports.get p).power.retryAt = some (s.clock + 1000000)) ∧
      (3 ≤ (s.ports.get p).power.retry → (t.ports.get p).power.state = .lockedOut)) ∧
    ((reactionOf k s).route = .attentionStop → t.faults.stopLatch = true) ∧
    ((reactionOf k s).route ≠ .attentionStop → t.faults.stopLatch = s.faults.stopLatch)

/-- CURRENT_MEASUREMENT stores for every port the raw current less its trim, 0 when negative, and the voltage, both saturated at 65535, and
then judges each port in ascending number (R70). The judgement finds SHORT above 3000 mA in SETTLING, ON, LIMIT, STANDBY and WAKING,
moves an ON port above its limit to LIMIT with 10 ms to run, moves a LIMIT port below its limit back to ON, where a want of STANDBY is
tried, and leaves any other port (R71, R72, R74). FAULT_ACTION_APPLIED applies the oldest action sent to the port as it stands (R80,
R81, R169). NONE leaves every port; LOCKED_OUT is left by every action, HELD by CUT and CUT_RETRY. CUT makes a port HELD and CUT_LOCK
LOCKED_OUT; CUT_RETRY counts the trip and makes it RETRY_WAIT for 1000 ms, an OFF port staying OFF, or LOCKED_OUT at the fourth. A
WAITING port's claim is withdrawn; a powered port loses its power: allotments 0, link DARK, no further fault. Auto-probe, considered
then for FLICKER, LINK_LOST and NO_CAMERA if it was enabled when the fault was raised and a copy exists (R23, R171; that no copy at
the report starts none is log 59): with the cool-down running or an internal probe held nothing is
appended; else the internal probe joins the tail, at the head beginning at once, or with 8 entries is dropped and counted, which
rewrites the header report. A probe whose hush failed is still at the head; it ends ABORTED LINK_LOST after the consideration (log
54), and what stands behind it begins in the same event: an internal probe appended there, or a SNAP, which is skipped NOT_READY on the
fallen link and ends ABORTED LINK_LOST; a CYCLE, or a PROBE or LEARN that waits for a CABLE_LOAD, stays at the head (R52, R54, R55, R171).
Stated for ports without a running probe, but where one is named; a powered port also without SNAP or sweep, no claim waiting. -/
def Obligations.MeasurementJudged : Prop :=
  ((∀ (readings : Vector Reading 8) (s : State), live s = true →
    ∀ u : State, u = { s with ports := Vector.ofFn fun p => { s.ports.get p with power := { (s.ports.get p).power with
      current := min 65535 ((readings.get p).current - (s.ports.get p).power.trim).toNat
      voltage := min 65535 (readings.get p).voltage } } } →
    exec (.currentMeasurement readings) s = .next (after (fun e => judgeCurrent 7 (judgeCurrent 6 (judgeCurrent 5 (judgeCurrent 4
      (judgeCurrent 3 (judgeCurrent 2 (judgeCurrent 1 (judgeCurrent 0 e)))))))) u) ∧
    ((∀ p, (u.ports.get p).power.current ≤ 3000 ∧
      ((u.ports.get p).power.state = .on → (u.ports.get p).power.current ≤ (u.ports.get p).power.limit) ∧
      ((u.ports.get p).power.state = .limit → (u.ports.get p).power.limit ≤ (u.ports.get p).power.current)) →
      exec (.currentMeasurement readings) s = .next u)) ∧
   (∀ (p : Port) (e : Event), ∀ w, w = (e.port p).power →
    (w.state = .settling ∨ w.state = .on ∨ w.state = .limit ∨ w.state = .standby ∨ w.state = .waking →
      3000 < w.current → judgeCurrent p e = powerFault p .short e) ∧
    (w.state = .on → w.current ≤ 3000 → w.limit < w.current → (e.port p).probe = none →
      (judgeCurrent p e).toState = { e.toState with ports := modAt e.ports p fun q => { q with
        power := { q.power with state := .limit, limitAt := some (e.clock + 10000) } } }) ∧
    (w.state = .limit → w.current ≤ 3000 → w.current < w.limit → (e.port p).probe = none → ∃ f : Event, f.toState = { e.toState with
        ports := modAt e.ports p fun q => { q with power := { q.power with state := .on, limitAt := none } } } ∧
      judgeCurrent p e = (if wantOf (e.port p) = .standby then tryStandby p f else f)) ∧
    ((w.state = .on → w.current ≤ 3000 → w.current ≤ w.limit) → (w.state = .limit → w.current ≤ 3000 → w.limit ≤ w.current) →
      (w.current ≤ 3000 ∨ (w.state ≠ .settling ∧ w.state ≠ .on ∧ w.state ≠ .limit ∧ w.state ≠ .standby ∧ w.state ≠ .waking)) →
      judgeCurrent p e = e))) ∧
  (∀ (p : Port) (k : FaultKind) (a : Action) (rest : List SentAction) (s : State), live s = true →
    (∃ on, s.faults.sent = { port := p, kind := k, action := a, autoProbe := on } :: rest ∧
      (on = false ∨ s.cell.sheet = none ∨ k.probes = false)) →
    (s.ports.get p).probe = none → ∀ w, w = (s.ports.get p).power → ∀ u : State, u = { s with faults := { s.faults with sent := rest } } →
    ∀ goes : PowerState × Nat, goes = (match a, w.state with
        | .nothing, x | _, x@.lockedOut | .cut, x@.held | .cutRetry, x@.held => (x, w.retry)
        | .cut, _ => (.held, w.retry)
        | .cutLock, _ => (.lockedOut, w.retry)
        | .cutRetry, x => (if 3 ≤ w.retry then .lockedOut else if x = .off then .off else .retryWait, min 4 (w.retry + 1))) →
      (a = .nothing ∨ w.state = .lockedOut ∨ (w.state = .held ∧ a ≠ .cutLock) → exec .faultActionApplied s = .next u) ∧
      (a ≠ .nothing → w.state ≠ .lockedOut → (w.state = .held → a = .cutLock) → w.state.powered = false →
        exec .faultActionApplied s = .next (State.reported (if goes.1 = w.state then [] else [p]) { u with
          ports := modAt s.ports p fun q => { q with power := { q.power with
            state := goes.1, retry := goes.2, retryAt := if goes.1 = .retryWait then some (s.clock + 1000000) else none
            retryEnded := false } }
          budget := if w.state = .waiting then { s.budget with
            waitList := s.budget.waitList.filter fun c => !(c.port == p && c.kind == .powerUp) } else s.budget })) ∧
      (a ≠ .nothing → w.state.powered = true → s.budget.waitList = [] → (s.ports.get p).snap = none → (s.ports.get p).sweep = none →
        ∃ t, exec .faultActionApplied s = .next t ∧ (t.ports.get p).power.state = goes.1 ∧ (t.ports.get p).power.retry = goes.2 ∧
        (goes.1 = .retryWait → (t.ports.get p).power.retryAt = some (s.clock + 1000000)) ∧ (t.ports.get p).power.base = 0 ∧
        (t.ports.get p).power.motion = 0 ∧ (t.ports.get p).power.rating = none ∧ (t.ports.get p).link.state = .dark ∧
        (t.ports.get p).lens.state = .unknown ∧ (t.ports.get p).faults = (s.ports.get p).faults ∧
        t.faults = u.faults ∧ t.budget.inrush = s.budget.inrush.filter (· != p) ∧
        ∀ q, q ≠ p → (t.ports.get q).power = (s.ports.get q).power)) ∧
  (∀ (p : Port) (k : FaultKind) (rest : List SentAction) (c : CellSheet) (s : State), live s = true →
    s.faults.sent = { port := p, kind := k, action := .nothing, autoProbe := true } :: rest → s.cell.sheet = some c →
    k = .flicker ∨ k = .linkLost ∨ k = .noCamera → ∀ u : State, u = { s with faults := { s.faults with sent := rest } } →
    (∀ r, (s.ports.get p).probe = some r → r.phase ≠ .ending) →
    ((s.ports.get p).faults.cooldownAt ≠ none ∨ QEntry.probe ∈ (s.ports.get p).queue → exec .faultActionApplied s = .next u) ∧
    ((s.ports.get p).faults.cooldownAt = none → QEntry.probe ∉ (s.ports.get p).queue →
      (8 ≤ (s.ports.get p).queue.length → exec .faultActionApplied s =
        .next (State.headerShown 0 { u with faults := { u.faults with dropped := s.faults.dropped + 1 } })) ∧
      ((s.ports.get p).queue.length < 8 → (s.ports.get p).queue ≠ [] → exec .faultActionApplied s = .next { u with
        ports := modAt s.ports p fun q => { q with queue := q.queue ++ [.probe] } }) ∧
      ((s.ports.get p).queue = [] → (s.ports.get p).probe = none → s.cell.standing = true → loadRuns p s = false →
        ∃ t r, exec .faultActionApplied s = .next t ∧ (t.ports.get p).probe = some r ∧ r.job = .auto ∧
        (t.ports.get p).queue = [.probe]))) ∧
  (∀ (p : Port) (on : Bool) (r : ProbeRun) (n : SlotNo) (behind : List QEntry) (s : State), live s = true →
    s.faults.sent = [{ port := p, kind := .linkLost, action := .nothing, autoProbe := on }] → (s.ports.get p).probe = some r →
    r.phase = .ending → r.job = .order n false → r.trace = .unasked → (s.ports.get p).link.state ≠ .hush →
    (s.ports.get p).queue = .order n :: behind → (s.ports.get p).snap = none → (s.ports.get p).sweep = none →
    (s.ports.get p).power.owed = false → (s.ports.get p).lens.state ≠ .staged → (s.slots.get n).loads p = false →
    s.budget.waitList = [] →
    (on = true → s.cell.sheet ≠ none → (s.ports.get p).faults.cooldownAt = none → QEntry.probe ∉ behind →
      (behind.length = 7 → ∀ m o, behind.head? = some (.order m) → (s.slots.get m).state = .queued → (s.slots.get m).order = some o →
        o = .cycle p ∨ (loadRuns p s = true ∧ ((∃ asked ref, o = .probe p asked ref) ∨ ∃ force, o = .learn p force)) → ∃ t,
        exec .faultActionApplied s = .next t ∧ (t.slots.get n).state = .aborted ∧ (t.slots.get n).reason = .linkLost ∧
        (t.ports.get p).queue = behind ∧ (t.ports.get p).probe = none ∧ t.faults.dropped = s.faults.dropped + 1) ∧
      (behind = [] → s.cell.standing = true → loadRuns p s = false → ∃ t r', exec .faultActionApplied s = .next t ∧
        (t.slots.get n).state = .aborted ∧ (t.slots.get n).reason = .linkLost ∧ (t.ports.get p).queue = [.probe] ∧
        (t.ports.get p).probe = some r' ∧ r'.job = .auto ∧ t.faults.dropped = s.faults.dropped)) ∧
    (on = false → behind = [] → ∃ t, exec .faultActionApplied s = .next t ∧ (t.slots.get n).state = .aborted ∧
      (t.slots.get n).reason = .linkLost ∧ (t.ports.get p).queue = [] ∧ (t.ports.get p).probe = none) ∧
    (∀ m v, on = false → behind = [.order m] → m ≠ n → (s.slots.get m).state = .queued → (s.slots.get m).order = some (.snap p v) →
      (s.ports.get p).link.state = .wake ∨ (s.ports.get p).link.state = .dark → ∃ t, exec .faultActionApplied s = .next t ∧
      (t.slots.get n).state = .aborted ∧ (t.slots.get n).reason = .linkLost ∧ (t.slots.get m).state = .aborted ∧
      (t.slots.get m).reason = .linkLost ∧ (t.ports.get p).queue = [] ∧ (t.ports.get p).probe = none ∧
      (t.ports.get p).skips = modAt (s.ports.get p).skips 0 (· + 1)))

/-! ## The port link -/

/-- A good HELLO in WAKE, on a port without a probe that owes no class raise and no standby: the link is TALK with the identity the HELLO
gives, the ASK interval and the greeting wait stopped, the silence timer of 100 ms running and both histories empty; SETUP with the copy's
exposure and depth is given to the downlink, what waited in WAKE being discarded unsent (R84). The lens record takes its kind and its
limits and is ABSENT for kind NONE, else UNKNOWN with no position; the staged want is kept, but for the axes the kind lacks, and brought
within the limits. A cable record that is not ABSENT takes the serial, and another serial
than its own sets camera changed (R87, R90, R91, R95, R136). Neither the power record nor any other port changes. A HELLO out of its
ranges is a bad packet (R85). -/
def Obligations.HelloEntersTalk : Prop :=
  ∀ (p : Port) (h : HelloPacket) (s : State), live s = true → (s.ports.get p).link.state = .wake →
    (∀ k, helloOk h = true → lensKindOf h.lensCode.toNat = some k → (s.ports.get p).probe = none →
      (s.ports.get p).power.motion = 0 →
      ((s.ports.get p).power.state = .on ∨ (s.ports.get p).power.state = .limit →
        h.maxPower.toNat ≤ (s.ports.get p).power.rating.getD 0) →
      ((s.ports.get p).power.state = .on → wantOf (s.ports.get p) ≠ .standby) → ∃ t, exec (.hello p h) s = .next t ∧
      (t.ports.get p).link = (let l := enqueue (setupPacket (s.ports.get p)) { (s.ports.get p).link with
          state := .talk, waiting := [], askAt := none, greetAt := none, silenceAt := some (s.clock + 100000)
          motionHistory := [], restHistory := [], motionWindow := 0, restWindow := 0
          cameraChanged := (t.ports.get p).link.cameraChanged
          identity := some { serial := h.serial, camClass := h.camClass.toNat, lensKind := k
                             maxPower := h.maxPower.toNat, standbyPower := h.standbyPower.toNat
                             motionPower := h.motionPower.toNat } }
        if (s.ports.get p).power.state = .standby then enqueue .sleep l else l) ∧
      ((s.ports.get p).cable.state = .absent → (t.ports.get p).cable = (s.ports.get p).cable ∧
        (t.ports.get p).link.cameraChanged = (s.ports.get p).link.cameraChanged) ∧
      ((s.ports.get p).cable.state ≠ .absent →
        (t.ports.get p).cable = { (s.ports.get p).cable with serial := some h.serial } ∧
        (t.ports.get p).link.cameraChanged = ((s.ports.get p).link.cameraChanged ||
          ((s.ports.get p).cable.serial.isSome && (s.ports.get p).cable.serial != some h.serial))) ∧
      (t.ports.get p).lens.kind = some k ∧ (t.ports.get p).lens.pos = Axes.none ∧ (t.ports.get p).lens.move = none ∧
      (t.ports.get p).lens.state = (if k = .none then .absent else .unknown) ∧
      ((s.ports.get p).lens.move = none →
        (t.ports.get p).lens.staged = (t.ports.get p).lens.fitWant (s.ports.get p).lens.staged) ∧
      (t.ports.get p).lens.focusLimits = { low := h.focusLow.toNat, high := h.focusHigh.toNat } ∧
      (t.ports.get p).lens.irisLimits = { low := h.irisLow.toNat, high := h.irisHigh.toNat } ∧
      (t.ports.get p).lens.zoomLimits = { low := h.zoomLow.toNat, high := h.zoomHigh.toNat } ∧
      (t.ports.get p).power = (s.ports.get p).power ∧ (∀ q, q ≠ p → t.ports.get q = s.ports.get q) ∧
      t.pool = s.pool ∧ t.faults = s.faults ∧ t.cell = s.cell ∧ t.slots = s.slots) ∧
    (helloOk h = false → exec (.hello p h) s = exec (.badPacket p) s)

/-- FRAME_OPEN in TALK joins the RESERVED frame of its tag, which is FILLING with the packet's width, height and depth, the port's
contrast region, no byte and a silence timer of 500 ms; FRAME_DATA joins the FILLING frame of its tag, writes the bytes that fit the
buffer length at their offset (that an address past 2^64 goes on at 0 is the model's choice: log 73) and restarts its timer. A packet that joins no buffer is a stray and writes nothing. Each restarts the
link's silence timer, and no other buffer changes (R92, R115, R124, R125, R127). A FRAME_OPEN that joins while another frame of the port is
FILLING first delivers that one, TRUNCATED_LATE unless it is SPOILED, OUT to its owner, with ATTENTION.POOL and the frames delivered count
(R124, R127, R129; said for a port without a SNAP or sweep). -/
def Obligations.FramePacketsJoin : Prop :=
  ∀ (p : Port) (tag : Half) (s : State), live s = true → (s.ports.get p).link.state = .talk →
    (∀ (width height : Half) (depth : Byte) (d : Depth), frameOpenOk width height depth = true →
      depthOf depth.toNat = some d →
      (joined p .reserved tag s = none → exec (.frameOpen p tag width height depth) s = .next { s with
        ports := modAt s.ports p fun q => { q with
          stray := q.stray + 1, link := { q.link with silenceAt := some (s.clock + 100000) } } }) ∧
      (∀ b, joined p .reserved tag s = some b → ∀ x, s.pool.entries[b]? = some x → fillingFrame p s = none → ∃ t y,
        exec (.frameOpen p tag width height depth) s = .next t ∧ t.pool.entries[b]? = some y ∧
        y = { x with
          state := .filling, width := width.toNat, height := height.toNat, depth := d, bytes := 0, crcErrors := 0
          region := regionOf (s.ports.get p), data := [], pending := .complete, reservedBy := none
          silenceBy := some (s.clock + 500000), count := y.count } ∧
        (∀ k, k ≠ b → t.pool.entries[k]? = s.pool.entries[k]?) ∧
        (t.ports.get p).link = { (s.ports.get p).link with silenceAt := some (s.clock + 100000) } ∧
        (t.ports.get p).stray = (s.ports.get p).stray ∧ ∀ q, q ≠ p → t.ports.get q = s.ports.get q) ∧
      (∀ b, joined p .reserved tag s = some b → ∀ x, s.pool.entries[b]? = some x → ∀ f, fillingFrame p s = some f →
        ∀ w, s.pool.entries[f]? = some w → (s.ports.get p).snap = none → (s.ports.get p).sweep = none → ∃ t,
        exec (.frameOpen p tag width height depth) s = .next t ∧
        (∃ y, t.pool.entries[b]? = some y ∧ y = { x with
          state := .filling, width := width.toNat, height := height.toNat, depth := d, bytes := 0, crcErrors := 0
          region := regionOf (s.ports.get p), data := [], pending := .complete, reservedBy := none
          silenceBy := some (s.clock + 500000), count := y.count }) ∧
        (∃ z, t.pool.entries[f]? = some z ∧ z = { w with
          state := .out, reservedBy := none, silenceBy := none
          summary := some (summaryOf w (w.pending.worst .truncatedLate)), count := z.count }) ∧
        (∀ k, k ≠ b → k ≠ f → t.pool.entries[k]? = s.pool.entries[k]?) ∧ t.page.attention &&& flagPool = flagPool ∧
        t.slots = s.slots ∧ t.ports = modAt s.ports p fun q => { q with
          delivered := q.delivered + 1, link := { q.link with silenceAt := some (s.clock + 100000) } })) ∧
    (∀ (offset : Word) (data : List Byte), frameDataOk data = true →
      (joined p .filling tag s = none → exec (.frameData p tag offset data) s = .next { s with
        ports := modAt s.ports p fun q => { q with
          stray := q.stray + 1, link := { q.link with silenceAt := some (s.clock + 100000) } } }) ∧
      (∀ b, joined p .filling tag s = some b → ∀ x, s.pool.entries[b]? = some x → ∀ g, x.settings = some g →
        ∀ kept, kept = data.take (g.length - offset.toNat) → exec (.frameData p tag offset data) s = .next { s with
          ports := modAt s.ports p fun q => { q with link := { q.link with silenceAt := some (s.clock + 100000) } }
          pool := { s.pool with entries := modNth s.pool.entries b fun y => { y with
            silenceBy := some (s.clock + 500000), bytes := y.bytes + kept.length
            data := (kept.zipIdx.map fun z => (offset.toNat + z.2, z.1)) ++ y.data
            pending := if kept.length < data.length then y.pending.worst .truncatedLong else y.pending } }
          traffic := s.traffic ++
            (if kept = [] then [] else [.write (g.addr + BitVec.ofNat 64 offset.toNat) kept]) }))

/-- FRAME_CLOSE of a FILLING frame, and FILLING_SILENCE_EXPIRY of one, deliver it: OUT, its owner kept, its timers stopped, with the
delivery summary: the worst of the outcomes it met, TRUNCATED_LATE for the expiry, TRUNCATED_LONG for a total above the buffer length
and SPOILED for a close whose status is not 0. The port's delivered count advances and ATTENTION.POOL is set; the SNAP that fired the
frame, when one did, is DONE with the buffer and its tag and leaves the queue (R55, R126, R127, R129, R133). RESERVED_TIMEOUT of a RESERVED
frame at its time: the buffer is GIVEN again, without an owner, a stamp or a timer; its SNAP ends ABORTED TIMEOUT with its tag; before its
time nothing changes (R55, R123). No other buffer or port changes. Stated for a port on which nothing but such a SNAP runs, its lens not
STAGED. -/
def Obligations.FramesEnd : Prop :=
  (∀ (p : Port) (b : BufNo) (s : State), live s = true → ∀ x, s.pool.entries[b.val]? = some x →
     x.state = .filling → x.kind = .frame → x.owner = some p → ∀ stamp, x.stamp = some stamp → ∀ tag, tag = stamp.tag →
     (s.ports.get p).link.state = .talk → (s.ports.get p).sweep = none → (s.ports.get p).probe = none →
     (s.ports.get p).lens.state ≠ .staged →
     ∀ (total : Word) (status : Byte) (z : Entry) (o : FrameOutcome) (c : Instr),
     ((c = .frameClose p tag total status ∧ joined p .filling tag s = some b.val ∧ o = .complete ∧
         z = { x with pending :=
           if status ≠ 0 then .spoiled
           else if x.settings.any (fun g => decide (g.length < total.toNat)) = true then x.pending.worst .truncatedLong
           else x.pending }) ∨
       (c = .fillingSilenceExpiry b ∧ due x.silenceBy s = true ∧ o = .truncatedLate ∧ z = x)) →
     ((s.ports.get p).snap = none ∨ ∃ r, (s.ports.get p).snap = some r ∧ r.shot = some (tag, b.val) ∧
       (s.ports.get p).queue = [.order r.slot] ∧ (s.slots.get r.slot).stopMark = false) → ∃ t y,
     exec c s = .next t ∧ t.pool.entries[b.val]? = some y ∧
     y = { z with
       state := .out, reservedBy := none, silenceBy := none, summary := some (summaryOf z (z.pending.worst o))
       count := y.count } ∧
     (∀ k, k ≠ b.val → t.pool.entries[k]? = s.pool.entries[k]?) ∧
     (t.ports.get p).delivered = (s.ports.get p).delivered + 1 ∧ t.page.attention &&& flagPool = flagPool ∧
     (∀ q, q ≠ p → t.ports.get q = s.ports.get q) ∧
     ((s.ports.get p).snap = none → t.slots = s.slots ∧ (t.ports.get p).queue = (s.ports.get p).queue) ∧
     (∀ r, (s.ports.get p).snap = some r → (t.slots.get r.slot).state = .done ∧
       (t.slots.get r.slot).results = snapResults (some b.val) (some tag) none ∧
       (t.ports.get p).snap = none ∧ (t.ports.get p).queue = [])) ∧
  (∀ (p : Port) (b : BufNo) (x : Entry) (stamp : Stamp) (s : State), live s = true → s.pool.entries[b.val]? = some x →
     x.state = .reserved → x.owner = some p → x.stamp = some stamp → (s.ports.get p).sweep = none →
     (s.ports.get p).probe = none → (s.ports.get p).lens.state ≠ .staged →
     (due x.reservedBy s = false → exec (.reservedTimeout b) s = .next s) ∧
     (due x.reservedBy s = true →
       ((s.ports.get p).snap = none ∨ ∃ r, (s.ports.get p).snap = some r ∧ r.shot = some (stamp.tag, b.val) ∧
         (s.ports.get p).queue = [.order r.slot] ∧ (s.slots.get r.slot).stopMark = false) → ∃ t y,
       exec (.reservedTimeout b) s = .next t ∧ t.pool.entries[b.val]? = some y ∧
       y = { x with state := .given, owner := none, stamp := none, reservedBy := none, count := y.count } ∧
       (∀ k, k ≠ b.val → t.pool.entries[k]? = s.pool.entries[k]?) ∧
       (∀ q, q ≠ p → t.ports.get q = s.ports.get q) ∧
       ((s.ports.get p).snap = none → t.slots = s.slots) ∧
       (∀ r, (s.ports.get p).snap = some r → (t.slots.get r.slot).state = .aborted ∧
         (t.slots.get r.slot).reason = .timeout ∧
         (t.slots.get r.slot).results = snapResults none (some stamp.tag) none ∧
         (t.ports.get p).snap = none ∧ (t.ports.get p).queue = [])))

/-- LENS_STATE in TALK. UNKNOWN and a report that does not move: the positions are taken and the lens is IDLE, or STAGED when an axis of
the staged want still differs from its position. IDLE: the positions are taken and nothing else changes. A MOVING lens that still moves
takes its positions; one that stands, serving the sheet with nothing staged, is IDLE with its stuck timer stopped and its motion
allotment 0 (R137, R142). Stated for a lens of kind FOCUS, no claim waiting, no sweep and no probe. -/
def Obligations.LensStateTaken : Prop :=
  ∀ (p : Port) (l : LensPacket) (s : State), live s = true → (s.ports.get p).link.state = .talk → lensStateOk l = true →
    (s.ports.get p).lens.kind = some .focus → l.presence = 1 → s.budget.waitList = [] →
    (s.ports.get p).sweep = none → (s.ports.get p).probe = none → ∃ pos : Axes,
    pos = { (s.ports.get p).lens.pos with focus := some l.focus.toNat } ∧
    ((s.ports.get p).lens.state = .idle ∨ ((s.ports.get p).lens.state = .moving ∧ l.moving ≠ 0) →
      exec (.lensState p l) s = .next { s with ports := modAt s.ports p fun q => { q with
        link := { q.link with silenceAt := some (s.clock + 100000) }, lens := { q.lens with pos := pos } } }) ∧
    ((s.ports.get p).lens.state = .unknown → l.moving = 0 → (s.ports.get p).lens.staged.unlike pos = Axes.none →
      exec (.lensState p l) s = .next (State.reported [p] { s with ports := modAt s.ports p fun q => { q with
        link := { q.link with silenceAt := some (s.clock + 100000) }
        lens := { q.lens with state := .idle, pos := pos, staged := Axes.none, stagedBy := .sheet, stagingAt := none
                              stagingMark := false } } })) ∧
    ((s.ports.get p).lens.state = .unknown → l.moving = 0 → (s.ports.get p).lens.staged.unlike pos ≠ Axes.none →
      holdsFrames (s.ports.get p) = true → frameGap p s = false →
      exec (.lensState p l) s = .next (State.reported [p] { s with ports := modAt s.ports p fun q => { q with
        link := { q.link with silenceAt := some (s.clock + 100000) }
        lens := { q.lens with state := .staged, pos := pos, staged := q.lens.staged.unlike pos
                              stagingAt := some (s.clock + 200000), stagingMark := false } } })) ∧
    (∀ m, (s.ports.get p).lens.state = .moving → l.moving = 0 → (s.ports.get p).lens.move = some m → m.best = false →
      (s.ports.get p).lens.staged.unlike pos = Axes.none →
      exec (.lensState p l) s = .next (State.reported [p] { s with ports := modAt s.ports p fun q => { q with
        link := { q.link with silenceAt := some (s.clock + 100000) }
        power := { q.power with motion := 0 }
        lens := { q.lens with state := .idle, pos := pos, staged := Axes.none, stagedBy := .sheet, stagingAt := none
                              stagingMark := false, move := none, stuckAt := none } } }))

/-- Uplink packets by link state: in DARK and HUSH the receiver is closed and nothing is received; in WAKE every good packet but HELLO is
discarded. In TALK, IDLE gives the camera's voltage to the power record and restarts the silence timer. HUSHED in HUSHING makes the link
HUSH with the hush wait stopped, and a probe that waits for it, with no trace to claim and no stop mark, pulses on the hushed path
(R155, R156); in TALK it only restarts the silence timer. A bad packet is counted by the level of MOTION, in the port's total and in its
window, and in every FILLING frame of the port (R86, R87, R97, R98, R125). DOWNLINK_PACKET_SENT and HUSH_SENT: the packet being sent
goes out on the cable with its CRC and the next one waiting begins to be sent; a HUSH sent in HUSHING starts the hush wait of 20 ms.
With no packet of that kind being sent nothing changes (R83, R84, R96). A SETUP carries the copy's values as they stand when its sending
begins (R95). -/
def Obligations.PacketsByLinkState : Prop :=
  (∀ (p : Port) (s : State), live s = true →
     ((s.ports.get p).link.state = .dark ∨ (s.ports.get p).link.state = .hush → ∀ c : Instr,
       ((∃ h, c = .hello p h) ∨ (∃ t w h d, c = .frameOpen p t w h d) ∨ (∃ t o d, c = .frameData p t o d) ∨
         (∃ t n x, c = .frameClose p t n x) ∨ (∃ l, c = .lensState p l) ∨ (∃ v, c = .idle p v) ∨ c = .hushed p ∨
         c = .badPacket p) → exec c s = .next s) ∧
     ((s.ports.get p).link.state = .wake → (∀ v, exec (.idle p v) s = .next s) ∧ exec (.hushed p) s = .next s ∧
       (∀ l, lensStateOk l = true → exec (.lensState p l) s = .next s) ∧
       (∀ tag w h d, frameOpenOk w h d = true → exec (.frameOpen p tag w h d) s = .next s) ∧
       (∀ tag offset data, frameDataOk data = true → exec (.frameData p tag offset data) s = .next s) ∧
       ∀ tag total status, exec (.frameClose p tag total status) s = .next s) ∧
     ((s.ports.get p).link.state = .talk → (∀ v : Half, exec (.idle p v) s = .next { s with
         ports := modAt s.ports p fun q => { q with
           link := { q.link with silenceAt := some (s.clock + 100000) }
           power := { q.power with camVoltage := some v.toNat } } }) ∧
       exec (.hushed p) s = .next { s with
         ports := modAt s.ports p fun q => { q with link := { q.link with silenceAt := some (s.clock + 100000) } } }) ∧
     ((s.ports.get p).link.state = .hushing → ((s.ports.get p).probe = none → exec (.hushed p) s = .next (State.reported [p]
         { s with ports := modAt s.ports p fun q => { q with link := { q.link with state := .hush, hushAt := none } } })) ∧
       (∀ r, (s.ports.get p).probe = some r → r.phase = .hushing → r.job.asksTrace = false → r.trace = .unasked →
         (∀ n, r.job = .order n false ∨ r.job = .learn n → (s.slots.get n).stopMark = false) →
         exec (.hushed p) s = .next (State.reported [p] { s with ports := modAt s.ports p fun q => { q with
           link := { q.link with state := .hush, hushAt := none }
           probe := some { r with phase := .pulsing, path := some .hushed, readyBy := none } } }))) ∧
     ((s.ports.get p).link.state = .wake ∨ (s.ports.get p).link.state = .talk ∨ (s.ports.get p).link.state = .hushing →
       ∃ n, n = (fun q : PortLink => if s.trigger.motion = true then
           { q with crcMotion := q.crcMotion + 1, motionWindow := min 65535 (q.motionWindow + 1) }
         else { q with crcRest := q.crcRest + 1, restWindow := min 65535 (q.restWindow + 1) }) ∧
       exec (.badPacket p) s = .next { s with
         ports := modAt s.ports p fun q => { q with link := n q.link }
         pool := { s.pool with entries := s.pool.entries.map fun x =>
           if x.state = .filling ∧ x.kind = .frame ∧ x.owner = some p then { x with crcErrors := min 255 (x.crcErrors + 1) }
           else x } })) ∧
  (∀ (p : Port) (k : Packet) (s : State), live s = true →
     ((s.ports.get p).link.sending = some k → k ≠ .hush →
       ((s.ports.get p).link.waiting = [] → exec (.downlinkPacketSent p) s = .next { s with
         cableOut := s.cableOut ++ [(p, k.bytes)]
         ports := modAt s.ports p fun q => { q with link := { q.link with sending := none } } }) ∧
       (∀ next rest, (s.ports.get p).link.waiting = next :: rest → exec (.downlinkPacketSent p) s = .next { s with
         cableOut := s.cableOut ++ [(p, k.bytes)]
         ports := modAt s.ports p fun q => { q with link := { q.link with
           waiting := rest
           sending := some (match next with
             | .setup _ _ => setupPacket q
             | x => x) } } }) ∧
       exec (.hushSent p) s = .next s) ∧
     ((s.ports.get p).link.sending = some .hush → (s.ports.get p).link.waiting = [] →
       (s.ports.get p).link.state = .hushing →
       exec (.hushSent p) s = .next { s with
         cableOut := s.cableOut ++ [(p, Packet.hush.bytes)]
         ports := modAt s.ports p fun q => { q with
           link := { q.link with sending := none, hushAt := some (s.clock + 20000) } } } ∧
       exec (.downlinkPacketSent p) s = .next s) ∧
     ((s.ports.get p).link.sending = none → exec (.downlinkPacketSent p) s = .next s ∧ exec (.hushSent p) s = .next s))

/-- The timers of a link in WAKE: every 250 ms ASK is given to the downlink; a greeting wait of 2000 ms without a HELLO is NO_CAMERA,
counted, latched and remembered, its action and the auto-probe enable of this moment (R23) sent to the Power Manager, with the
identity cleared and the wait not started again (R89, R167, R168). Each does nothing before its time. -/
def Obligations.WakeTimers : Prop :=
  ∀ (p : Port) (s : State), live s = true → (s.ports.get p).link.state = .wake →
    (due (s.ports.get p).link.askAt s = true → exec (.askInterval p) s = .next { s with
      ports := modAt s.ports p fun q => { q with link := enqueue .ask { q.link with askAt := some (s.clock + 250000) } } }) ∧
    (due (s.ports.get p).link.greetAt s = true → ∃ t, exec (.greetingWaitExpiry p) s = .next t ∧
      (t.ports.get p).link = { (s.ports.get p).link with greetAt := none, identity := none } ∧
      (t.ports.get p).faults = { (s.ports.get p).faults with
        counts := modAt (s.ports.get p).faults.counts 4 (fun n => min 255 (n + 1))
        latched := putAt (s.ports.get p).faults.latched 4 true, last := some .noCamera } ∧
      t.faults.sent = s.faults.sent ++ [{
        port := p, kind := .noCamera, action := (reactionOf .noCamera s).action, autoProbe := autoProbeOn s }] ∧
      t.faults.stopLatch = (s.faults.stopLatch || (reactionOf .noCamera s).route == .attentionStop) ∧
      (t.ports.get p).power = (s.ports.get p).power ∧ ∀ q, q ≠ p → t.ports.get q = s.ports.get q) ∧
    (due (s.ports.get p).link.askAt s = false → exec (.askInterval p) s = .next s) ∧
    (due (s.ports.get p).link.greetAt s = false → exec (.greetingWaitExpiry p) s = .next s)

/-- The fall of a link: 100 ms of silence in TALK, or a hush wait of 20 ms in HUSHING, puts the link in WAKE, its waiting packets and what
it owed discarded and ASK given to the downlink (that a packet being sent goes on, with ASK behind it, is the model's choice: log 19), its
two timers started, every other link timer stopped and both histories empty. A
frame of the port in flight leaves flight: FILLING is OUT, RESERVED is GIVEN. The lens is UNKNOWN unless ABSENT, its staged want kept with
the host's move targets merged in, also a want that a sweep had staged, which the held want is then merged into (R143, R147; that it is the
sheet's from then on is the model's choice: log 55); LINK_LOST is counted,
latched and remembered, and its action sent with the auto-probe enable of this moment (R23, R92, R93, R96, R128, R143, R168). The identity and the power record but its motion
allotment are kept. A probe whose hush wait expires stays at the head in ENDING (R155, R171; log 54). A draining probe asks for its hush
at a frame gap with the lens not MOVING, here at the end of the port's last frame: the link is HUSHING, HUSH behind what waits, the
silence timer and the ready limit stopped, the histories empty (R96, R155). HUSHED with a trace to claim: a buffer found is FILLING as a
trace and the probe pulses (R131, R156); with the stop mark set the link is resumed and the order CANCELLED (R158). PULSE_SET_END of a
probe on the hushed path resumes the link: TALK with RESUME, then a SETUP and a SLEEP that are owed, given to the downlink, the silence
timer started and the window counts 0 (R97, R157); its trace is OUT, COMPLETE or TRUNCATED_LONG, with the averaged record written from
offset 0 as far as the buffer goes; a probe aborted at a removal of power leaves it SPOILED (R132, R157, R158). Stated for a port with
nothing else in its queue, no SNAP on it and no sweep but the one that falls with it, and no claim for allotment waiting. -/
def Obligations.LinkFalls : Prop :=
  (∀ (p : Port) (c : Instr) (s : State), live s = true → s.budget.waitList = [] →
    ((c = .silenceTimerExpiry p ∧ (s.ports.get p).link.state = .talk ∧ due (s.ports.get p).link.silenceAt s = true ∧
        (s.ports.get p).queue = [] ∧ (s.ports.get p).probe = none) ∨
      (c = .hushWaitExpiry p ∧ (s.ports.get p).link.state = .hushing ∧ due (s.ports.get p).link.hushAt s = true ∧
        ∃ r x, (s.ports.get p).queue = [x] ∧ (s.ports.get p).probe = some r ∧ r.phase = .hushing)) →
    (s.ports.get p).snap = none → (s.ports.get p).sweep = none → ∃ t, exec c s = .next t ∧
    (t.ports.get p).link = enqueue .ask { (s.ports.get p).link with
      state := .wake, askAt := some (s.clock + 250000), greetAt := some (s.clock + 2000000), silenceAt := none
      hushAt := none, waiting := [], owedSetup := false, owedSleep := false, motionHistory := [], restHistory := []
      motionWindow := 0, restWindow := 0 } ∧
    (t.ports.get p).lens.state = (if (s.ports.get p).lens.state = .absent then .absent else .unknown) ∧
    (t.ports.get p).lens.pos = Axes.none ∧ (t.ports.get p).lens.move = none ∧
    (t.ports.get p).lens.staged = (match (s.ports.get p).lens.move with
      | some m => if m.server = .sheet then (s.ports.get p).lens.staged.over m.targets else (s.ports.get p).lens.staged
      | none => (s.ports.get p).lens.staged) ∧
    (t.ports.get p).power = { (s.ports.get p).power with motion := 0 } ∧
    (t.ports.get p).faults = { (s.ports.get p).faults with
      counts := modAt (s.ports.get p).faults.counts 5 (fun n => min 255 (n + 1))
      latched := putAt (s.ports.get p).faults.latched 5 true, last := some .linkLost } ∧
    t.faults.sent = s.faults.sent ++ [{
      port := p, kind := .linkLost, action := (reactionOf .linkLost s).action, autoProbe := autoProbeOn s }] ∧
    (t.ports.get p).queue = (s.ports.get p).queue ∧
    (t.ports.get p).probe = (s.ports.get p).probe.map (fun r => { r with phase := .ending }) ∧
    (∀ (b : Nat) (x y : Entry), s.pool.entries[b]? = some x → t.pool.entries[b]? = some y → x.kind = .frame →
      x.owner = some p → (x.state = .filling → y.state = .out ∧ y.owner = some p) ∧
        (x.state = .reserved → y.state = .given ∧ y.owner = none)) ∧
    ∀ q, q ≠ p → t.ports.get q = s.ports.get q) ∧
  (∀ (p : Port) (c : Instr) (s : State), live s = true → c = .silenceTimerExpiry p ∨ c = .hushWaitExpiry p →
    (c = .silenceTimerExpiry p → (s.ports.get p).link.state ≠ .talk ∨ due (s.ports.get p).link.silenceAt s = false) →
    (c = .hushWaitExpiry p → (s.ports.get p).link.state ≠ .hushing ∨ due (s.ports.get p).link.hushAt s = false) →
    exec c s = .next s) ∧
  (∀ (p : Port) (n : SlotNo) (w : SweepRun) (s : State), live s = true → s.budget.waitList = [] →
    (s.ports.get p).link.state = .talk → due (s.ports.get p).link.silenceAt s = true → (s.ports.get p).queue = [.order n] →
    (s.ports.get p).probe = none → (s.ports.get p).snap = none → (s.ports.get p).sweep = some w → w.slot = n → w.shot = none →
    w.phase = .moving ∨ w.phase = .best → (s.ports.get p).lens.state = .staged ∨ (s.ports.get p).lens.state = .waitPower →
    (s.ports.get p).lens.move = none → ∃ t, exec (.silenceTimerExpiry p) s = .next t ∧
    (t.slots.get n).state = .aborted ∧ (t.slots.get n).reason = .linkLost ∧ (t.ports.get p).sweep = none ∧
    (t.ports.get p).lens.state = .unknown ∧ (t.ports.get p).lens.held = Axes.none ∧ (t.ports.get p).lens.stagedBy = .sheet ∧
    (t.ports.get p).lens.staged = (s.ports.get p).lens.held.over (s.ports.get p).lens.staged) ∧
  (∀ (p : Port) (r : ProbeRun) (b : BufNo) (x : Entry) (s : State), live s = true → (s.ports.get p).probe = some r →
    r.phase = .draining → (s.ports.get p).link.state = .talk → (s.ports.get p).snap = none → (s.ports.get p).sweep = none →
    (s.ports.get p).lens.state ≠ .moving → s.pool.claims = [] → s.pool.entries[b.val]? = some x → x.state = .reserved →
    x.kind = .frame → x.owner = some p → due x.reservedBy s = true → inFlight p s = 1 → ∃ t,
    exec (.reservedTimeout b) s = .next t ∧
    (t.ports.get p).link = enqueue .hush { (s.ports.get p).link with
      state := .hushing, silenceAt := none, motionHistory := [], restHistory := [], motionWindow := 0, restWindow := 0 } ∧
    (t.ports.get p).probe = some { r with phase := .hushing, readyBy := none } ∧ (t.ports.get p).met = false ∧
    (t.ports.get p).power = (s.ports.get p).power ∧ ∀ q, q ≠ p → t.ports.get q = s.ports.get q) ∧
  (∀ (p : Port) (r : ProbeRun) (n : SlotNo) (s : State), live s = true → (s.ports.get p).probe = some r → r.phase = .hushing →
    (s.ports.get p).link.state = .hushing → r.trace = .unasked → (s.ports.get p).queue = [.order n] →
    (s.ports.get p).snap = none → (s.ports.get p).sweep = none →
    (∀ b, r.job = .order n true → (s.slots.get n).stopMark = false → judgeClaim p .trace s = .got b → ∃ t y,
      exec (.hushed p) s = .next t ∧ t.pool.entries[b]? = some y ∧ y.state = .filling ∧ y.kind = .trace ∧ y.owner = some p ∧
      y.openTime = cellTime s ∧ (t.ports.get p).link = { (s.ports.get p).link with state := .hush, hushAt := none } ∧
      (t.ports.get p).probe = some { r with phase := .pulsing, path := some .hushed, readyBy := none, trace := .got b }) ∧
    ((∃ asked, r.job = .order n asked) → (s.slots.get n).stopMark = true → (s.ports.get p).power.owed = false →
      (s.ports.get p).lens.state ≠ .staged → (s.ports.get p).link.owedSetup = false → (s.ports.get p).link.owedSleep = false →
      ((s.ports.get p).power.state = .on → wantOf (s.ports.get p) ≠ .standby) → ∃ t, exec (.hushed p) s = .next t ∧
      (t.slots.get n).state = .cancelled ∧ (t.slots.get n).reason = .cancelledByOrder ∧ (t.ports.get p).queue = [] ∧
      (t.ports.get p).probe = none ∧ (t.ports.get p).link = enqueue .resume { (s.ports.get p).link with
        state := .talk, hushAt := none, silenceAt := some (s.clock + 100000), motionWindow := 0, restWindow := 0 })) ∧
  (∀ (p : Port) (r : ProbeRun) (n : SlotNo) (samples : Vector (List Int) 16) (s : State), live s = true →
    (s.ports.get p).probe = some r → r.phase = .pulsing → r.path = some .hushed → (s.ports.get p).link.state = .hush →
    (∃ asked, r.job = .order n asked) → (s.ports.get p).queue = [.order n] → (s.ports.get p).power.owed = false →
    (s.ports.get p).lens.state ≠ .staged → ((s.ports.get p).power.state = .on → wantOf (s.ports.get p) ≠ .standby) →
    ∀ a, a = averaged r.window samples.toList → ∃ t, exec (.pulseSetEnd p samples) s = .next t ∧
    (t.slots.get n).state = .done ∧ (t.ports.get p).queue = [] ∧ (t.ports.get p).probe = none ∧
    (t.ports.get p).power = (s.ports.get p).power ∧ (t.ports.get p).cable = (s.ports.get p).cable ∧
    (t.ports.get p).link = ([Packet.resume] ++ (if (s.ports.get p).link.owedSetup = true then [setupPacket (s.ports.get p)] else []) ++
        if (s.ports.get p).link.owedSleep = true then [Packet.sleep] else []).foldl (fun l k => enqueue k l)
      { (s.ports.get p).link with
        state := .talk, silenceAt := some (s.clock + 100000), motionWindow := 0, restWindow := 0, owedSetup := false
        owedSleep := false } ∧
    (∀ b x g, r.trace = .got b → s.pool.entries[b]? = some x → x.state = .filling → x.kind = .trace → x.settings = some g →
      x.pending = .complete → ∃ y, t.pool.entries[b]? = some y ∧ y.state = .out ∧ y.owner = x.owner ∧
      y.summary.map (·.kind) = some .trace ∧
      y.summary.map (·.outcome) = some (if g.length < (traceBytes a).length then .truncatedLong else .complete) ∧
      y.summary.map (·.bytes) = some (x.bytes + min g.length (traceBytes a).length) ∧
      (traceBytes a ≠ [] → g.length ≠ 0 → .write g.addr ((traceBytes a).take g.length) ∈ t.traffic) ∧
      (t.ports.get p).delivered = (s.ports.get p).delivered)) ∧
  (∀ (p : Port) (r : ProbeRun) (n : SlotNo) (b : Nat) (x : Entry) (s : State), live s = true → (s.ports.get p).probe = some r →
    r.phase = .pulsing → r.job = .order n true → r.trace = .got b → r.beganPowered = true → s.pool.entries[b]? = some x →
    x.state = .filling → x.kind = .trace → (s.ports.get p).queue = [.order n] → (s.ports.get p).snap = none →
    (s.ports.get p).sweep = none → (s.ports.get p).power.owed = false → (s.ports.get p).power.state = .limit →
    due (s.ports.get p).power.limitAt s = true → s.budget.waitList = [] → (reactionOf .overload s).action = .cut →
    autoProbeOn s = false → ∃ t, exec (.limitTimerExpiry p) s = .next t ∧ (t.slots.get n).state = .aborted ∧
    (t.slots.get n).reason = .powerLost ∧ (t.ports.get p).link.state = .dark ∧ (t.ports.get p).power.state = .held ∧
    ∃ y, t.pool.entries[b]? = some y ∧ y.state = .out ∧ y.summary.map (·.outcome) = some .spoiled)

/-- MOTION_CHANGE: a level other than the filtered one that has stood for 1 µs is taken, and its mark set for this window; a shorter or
an equal one changes nothing (R98, R102). WINDOW_END at its time: the next window ends 100 ms on with its marks set from the line; at
every port both window counts are 0, and where the link is TALK the count of each level that was seen is pushed onto its history of at
most 8 (R98, R99). Stated where no flicker threshold is met and no quiet run is complete. -/
def Obligations.WindowsOfMotion : Prop :=
  (∀ (level : Bool) (stood : Nat) (s : State), live s = true →
    (1000 ≤ stood → level ≠ s.trigger.motion → exec (.motionChange level stood) s = .next { s with
      trigger := { s.trigger with
        motion := level
        seenHigh := s.trigger.seenHigh || level, seenLow := s.trigger.seenLow || !level } }) ∧
    (stood < 1000 ∨ level = s.trigger.motion → exec (.motionChange level stood) s = .next s)) ∧
  (∀ s : State, live s = true → s.trigger.windowAt ≤ s.clock →
    (∀ p, (s.ports.get p).met = false ∧ (s.ports.get p).quiet < 99 ∧
      (∀ n ∈ (s.ports.get p).link.motionHistory, n < flickerThreshold s) ∧
      (s.ports.get p).link.motionWindow < flickerThreshold s) → ∃ t, exec .windowEnd s = .next t ∧
    t.trigger = { s.trigger with
      seenHigh := s.trigger.motion, seenLow := !s.trigger.motion, windowAt := s.trigger.windowAt + 100000 } ∧
    (∀ p, (t.ports.get p).link = { (s.ports.get p).link with
      motionWindow := 0, restWindow := 0
      motionHistory := if (s.ports.get p).link.state = .talk ∧ s.trigger.seenHigh = true then
        ((s.ports.get p).link.motionWindow :: (s.ports.get p).link.motionHistory).take 8
        else (s.ports.get p).link.motionHistory
      restHistory := if (s.ports.get p).link.state = .talk ∧ s.trigger.seenLow = true then
        ((s.ports.get p).link.restWindow :: (s.ports.get p).link.restHistory).take 8
        else (s.ports.get p).link.restHistory }) ∧
    t.faults = s.faults ∧ t.pool = s.pool ∧ t.cell = s.cell)

/-! ## Triggers, steps and strobes -/

/-- A counted edge of ENC_IN: a level other than the filtered one that has stood for 1 µs, of the counted edge's direction, adds 1 to the
remainder; at the divider the remainder is 0 and the encoder count advances, which is offered to the programs. An edge of the other
direction is taken and not counted (R102, R103). An edge of TRIG_IN that no program listens to is taken and starts nothing. On either line
a level that has stood for less, or that is the filtered one, changes nothing (R102, R106). Stated where no ENCODER program's target is
met. -/
def Obligations.LineEdgesFiltered : Prop :=
  (∀ (level : Bool) (stood : Nat) (s : State), live s = true →
     (stood < 1000 ∨ level = s.trigger.enc → exec (.encoderEdge level stood) s = .next s) ∧
     (1000 ≤ stood → level ≠ s.trigger.enc → ∃ edge divider, (edge, divider) = encoderSetting s ∧
       ((edge = .rise ∧ level = false) ∨ (edge = .fall ∧ level = true) →
         exec (.encoderEdge level stood) s = .next { s with trigger := { s.trigger with enc := level } }) ∧
       (edge = .both ∨ (edge = .rise ∧ level = true) ∨ (edge = .fall ∧ level = false) →
         (s.trigger.remainder + 1 < divider → exec (.encoderEdge level stood) s =
           .next { s with trigger := { s.trigger with enc := level, remainder := s.trigger.remainder + 1 } }) ∧
         (divider ≤ s.trigger.remainder + 1 →
           (∀ i, (s.trigger.programs.get i).target ≠ some (s.trigger.encCount + 1)) →
           exec (.encoderEdge level stood) s = .next { s with
             trigger := { s.trigger with enc := level, remainder := 0, encCount := s.trigger.encCount + 1 } })))) ∧
  (∀ (level : Bool) (stood : Nat) (s : State), live s = true →
     (stood < 1000 ∨ level = s.trigger.trig → exec (.trigEdge level stood) s = .next s) ∧
     (1000 ≤ stood → level ≠ s.trigger.trig → (∀ i, (s.trigger.programs.get i).state = .disarmed) →
       exec (.trigEdge level stood) s = .next { s with trigger := { s.trigger with trig := level } }))

/-- A source event to an ARMED program whose first step lies ahead starts its run now: RUNNING, the next step 0. One to a RUNNING program
is an overrun, which leaves the run; one to a DISARMED program does nothing. TIMER_SOURCE_EVENT at its time gives one and sets the next a
period on; TRIG_EDGE gives one to every LINE program of its direction, for a level other than the filtered one that has stood for 1 µs;
an encoder count that meets a program's target gives one and moves the target on by n (R102, R103, R106). -/
def Obligations.SourceEventsRun : Prop :=
  ∀ (i : ProgNo) (g : Program) (s : State), live s = true → g = s.trigger.programs.get i →
    ∀ run : Program → Program, (run = fun h =>
      if h.state = .running then { h with overruns := h.overruns + 1 }
      else { h with state := .running, runStart := s.clock, nextStep := 0 }) →
    ((g.state = .armed ∧ ∃ x xs, g.record.steps = x :: xs ∧ x.offset ≠ 0) ∨ g.state = .running →
      (∀ at', g.nextEvent = some at' → at' ≤ s.clock → exec (.timerSourceEvent i) s = .next { s with
        trigger := { s.trigger with programs := putAt s.trigger.programs i (run { g with
          nextEvent := some (at' + g.record.period) }) } }) ∧
      (∀ (level : Bool) (stood : Nat), 1000 ≤ stood → level ≠ s.trigger.trig →
        g.record.source = (if level = true then .lineRise else .lineFall) →
        (∀ j, j ≠ i → (s.trigger.programs.get j).record.source ≠ g.record.source ∨
          (s.trigger.programs.get j).state = .disarmed) →
        exec (.trigEdge level stood) s = .next { s with
          trigger := { s.trigger with trig := level, programs := putAt s.trigger.programs i (run g) } }) ∧
      (g.record.source = .encoder → g.target = some (s.trigger.encCount + 1) →
        (∀ j, j ≠ i → (s.trigger.programs.get j).target ≠ some (s.trigger.encCount + 1)) →
        (encoderSetting s).2 ≤ s.trigger.remainder + 1 →
        (encoderSetting s).1 = .both ∨ (encoderSetting s).1 = (if s.trigger.enc = true then .fall else .rise) →
        exec (.encoderEdge (!s.trigger.enc) 1000) s = .next { s with trigger := { s.trigger with
          enc := !s.trigger.enc, remainder := 0, encCount := s.trigger.encCount + 1
          programs := putAt s.trigger.programs i (run { g with
            target := some (s.trigger.encCount + 1 + BitVec.ofNat 32 g.record.spacing) }) } })) ∧
    (g.state = .disarmed → exec (.timerSourceEvent i) s = .next s)

/-- STEP_REACHED at a RUNNING program's run start plus its step's offset: every line of the step's strobe set has the later of its end time
and now plus the width; a member port of the step's port set that fails its first condition is skipped NOT_READY; the next step is the
next, and after the last step the program is ARMED. Before its time nothing changes (R107, R108, R109, R113). Stated for steps whose ports
are none of them ON. STROBE_END at a line's end time makes the line inactive with no end time; before it nothing changes. A line is active
exactly while cell time is less than its end time (R113). -/
def Obligations.StepsAndStrobes : Prop :=
  (∀ (i : ProgNo) (g : Program) (x : ProgStep) (s : State), live s = true → g = s.trigger.programs.get i →
     g.state = .running → g.record.steps[g.nextStep]? = some x →
     (s.clock < g.runStart + x.offset → exec (.stepReached i) s = .next s) ∧
     (g.runStart + x.offset ≤ s.clock →
       (∀ p, x.ports.getLsbD p.val = true → (s.ports.get p).power.state ≠ .on ∧ (s.ports.get p).lens.state ≠ .staged ∧
         (s.ports.get p).probe = none) → ∃ t,
       exec (.stepReached i) s = .next t ∧
       t.trigger.programs = putAt s.trigger.programs i { g with
         nextStep := g.nextStep + 1
         state := if g.nextStep + 1 < g.record.steps.length then .running else .armed } ∧
       (∀ l, t.trigger.strobes.get l = if x.strobes.getLsbD l.val = true
         then some (max ((s.trigger.strobes.get l).getD 0) (s.clock + x.width)) else s.trigger.strobes.get l) ∧
       (∀ p, t.ports.get p = if x.ports.getLsbD p.val = true ∧
           (s.ports.get p).sheet.any (fun c => c.members.getLsbD i.val) = true
         then { s.ports.get p with skips := modAt (s.ports.get p).skips 0 (· + 1) } else s.ports.get p) ∧
       t.trigger.nextTag = s.trigger.nextTag ∧ t.pool = s.pool ∧ t.slots = s.slots)) ∧
  (∀ (l : LineNo) (s : State), live s = true →
     (∀ at', s.trigger.strobes.get l = some at' →
       (at' ≤ s.clock → strobeActive l s = false ∧ exec (.strobeEnd l) s = .next { s with
         trigger := { s.trigger with strobes := putAt s.trigger.strobes l none } }) ∧
       (s.clock < at' → strobeActive l s = true ∧ exec (.strobeEnd l) s = .next s)) ∧
     (s.trigger.strobes.get l = none → strobeActive l s = false ∧ exec (.strobeEnd l) s = .next s))

/-- STEP_REACHED of a step in whose port set one member port stands: its decision ends in the event. Skips, each counted once: PROBE when
the camera is hushed or a probe runs; LENS with hold-frames set and the lens staged, waiting for power or moving; BUSY with two buffers
in flight (R109, R110). It fires when a buffer is found: the next tag is taken, FIRE is given, the fires count advances and the buffer
is RESERVED with its stamp and its timer (R108, R111, R123). Finding nothing it waits, asking for a POOL sweep. At that sweep's end it
is judged again: it fires, is skipped BUSY, or NO_BUFFER when the link is not TALK or still nothing is found; a decision dropped by a
DISARM counts nothing and hands its buffer back (R111, R121). Said for one claim and a sweep whose last record is not new; a skip on a
port whose probe drains or whose lens is to be tested at once is left to other statements. Steps of equal offset are reached at the same
cell time: one that is due is owed, and no time passes before it (R107; log 4). A step with offset 0 is reached in the event that starts
the run (R106, R107). -/
def Obligations.FireDecisions : Prop :=
  (∀ (i : ProgNo) (g : Program) (x : ProgStep) (p : Port) (s : State), live s = true → g = s.trigger.programs.get i →
    g.state = .running → g.record.steps[g.nextStep]? = some x → g.runStart + x.offset ≤ s.clock →
    Instr.stepReached i ∈ owedNow s ∧
    ((∀ o, (x.ports.getLsbD o.val = true ∧ (s.ports.get o).sheet.any (fun c => c.members.getLsbD i.val) = true) ↔ o = p) →
      ∀ q, q = s.ports.get p → q.power.state = .on → ∀ lit : Trigger, lit = { s.trigger with
        strobes := Vector.ofFn fun l => if x.strobes.getLsbD l.val = true
          then some (max ((s.trigger.strobes.get l).getD 0) (s.clock + x.width)) else s.trigger.strobes.get l
        programs := putAt s.trigger.programs i { g with
          nextStep := g.nextStep + 1
          state := if g.nextStep + 1 < g.record.steps.length then .running else .armed } } →
      ∀ skipped : Fin 5 → State, (skipped = fun k => { s with
        trigger := lit, ports := modAt s.ports p fun y => { y with skips := modAt y.skips k (· + 1) } }) →
      ((∀ r, q.probe = some r → r.phase ≠ .draining) → (q.lens.state = .staged → inFlight p s ≠ 0) →
        (q.link.state = .hushing ∨ q.link.state = .hush ∨ (q.link.state = .talk ∧ q.probe ≠ none) →
          exec (.stepReached i) s = .next (skipped 1)) ∧
        (q.link.state = .talk → q.probe = none → holdsFrames q = true →
          q.lens.state = .staged ∨ q.lens.state = .waitPower ∨ q.lens.state = .moving →
          exec (.stepReached i) s = .next (skipped 2))) ∧
      (q.link.state = .talk → q.probe = none →
        (holdsFrames q = true → q.lens.state ≠ .staged ∧ q.lens.state ≠ .waitPower ∧ q.lens.state ≠ .moving) →
        ∀ exposure, exposure = (if x.exposure = 0 then defaultExposure q else x.exposure) →
        (2 ≤ inFlight p s → exec (.stepReached i) s = .next (skipped 3)) ∧
        (s.page.taken = .held → judgeClaim p .frame s = .nothing → exec (.stepReached i) s = .next { s with
          trigger := lit
          page := { s.page with areas := putAt s.page.areas (Area.index .pool) (noticed (areaState .pool s)) }
          pool := { s.pool with claims := s.pool.claims ++ [{ port := p, requester := .step i g.nextStep, exposure := exposure
                                                              begun := false, status := .live }] } }) ∧
        (∀ b z, s.cell.mode = .run → judgeClaim p .frame s = .got b → s.pool.entries[b]? = some z → ∃ t y,
          exec (.stepReached i) s = .next t ∧ t.pool.entries[b]? = some y ∧
          y = { z with
            state := .reserved, owner := some p, kind := .frame, count := y.count
            stamp := some { port := p, tag := s.trigger.nextTag, step := some (i, g.nextStep), time := cellTime s
                            exposure := exposure, lens := q.lens.pos, moving := q.lens.state == .moving, sweepStep := none }
            reservedBy := some (s.clock + (exposure + 100000)) } ∧
          t.trigger = { lit with nextTag := s.trigger.nextTag + 1 } ∧
          t.ports = modAt s.ports p (fun y => { y with
            link := enqueue (.fire s.trigger.nextTag exposure) y.link, fires := y.fires + 1 }) ∧
          (∀ k, k ≠ b → t.pool.entries[k]? = s.pool.entries[k]?) ∧ t.slots = s.slots ∧ t.budget = s.budget ∧
          t.faults = s.faults)))) ∧
  (∀ (p : Port) (i : ProgNo) (n : Nat) (c : BufClaim) (z : Entry) (bytes : List Byte) (d : Option Nat) (s : State),
    live s = true → s.handed = none → areaState .pool s = .sweeping false n d → d ≠ none → areaCount .pool s ≤ n + 1 →
    s.pool.entries[n]? = some z → z.loaded = true → handOf 0x10 bytes = z.hand → s.pool.rebuildOwed = none →
    s.pool.claims = [c] → c.begun = true → c.port = p → (∃ m, c.requester = .step i m) →
    (s.ports.get p).probe = none → (s.ports.get p).lens.state ≠ .staged →
    ∀ u : State, u = { s with
      page := { s.page with areas := putAt s.page.areas (Area.index .pool) .idle }, pool := { s.pool with claims := [] } } →
    ∀ go, go = Instr.sweepRecordRead .pool ⟨readNumber (.area .pool) s, bytes⟩ →
    (c.status = .live →
      (2 ≤ inFlight p s →
        exec go s = .next { u with ports := modAt s.ports p fun y => { y with skips := modAt y.skips 3 (· + 1) } }) ∧
      (judgeClaim p .frame s = .noBuffer ∨ judgeClaim p .frame s = .nothing →
        exec go s = .next { u with ports := modAt s.ports p fun y => { y with skips := modAt y.skips 4 (· + 1) } }) ∧
      (∀ b, s.cell.mode = .run → judgeClaim p .frame s = .got b → ∃ t, exec go s = .next t ∧
        t.trigger = { s.trigger with nextTag := s.trigger.nextTag + 1 } ∧ t.pool.claims = [] ∧
        t.ports = modAt s.ports p (fun y => { y with
          link := enqueue (.fire s.trigger.nextTag c.exposure) y.link, fires := y.fires + 1 }) ∧
        (t.pool.entries[b]?).map (·.state) = some .reserved ∧ (t.pool.entries[b]?).bind (·.owner) = some p ∧
        ((t.pool.entries[b]?).bind (·.stamp)).map (·.tag) = some s.trigger.nextTag ∧
        (t.pool.entries[b]?).bind (·.reservedBy) = some (s.clock + (c.exposure + 100000)))) ∧
    (c.status = .dropped →
      (∀ b, judgeClaim p .frame s = .got b → ∃ t, exec go s = .next t ∧ t.ports = s.ports ∧ t.trigger = s.trigger ∧
        t.pool.claims = [] ∧ (t.pool.entries[b]?).map (·.state) = some .given ∧ (t.pool.entries[b]?).bind (·.owner) = none) ∧
      ((∀ b, judgeClaim p .frame s ≠ .got b) → exec go s = .next u))) ∧
  (∀ (i : ProgNo) (g : Program) (x : ProgStep) (rest : List ProgStep) (at' : Nat) (s : State), live s = true →
    g = s.trigger.programs.get i → g.state = .armed → g.record.steps = x :: rest → x.offset = 0 →
    (∀ y, rest.head? = some y → y.offset ≠ 0) → g.nextEvent = some at' → at' ≤ s.clock →
    (∀ o, x.ports.getLsbD o.val = true → (s.ports.get o).sheet.any (fun c => c.members.getLsbD i.val) = false) →
    exec (.timerSourceEvent i) s = .next { s with trigger := { s.trigger with
      strobes := Vector.ofFn fun l => if x.strobes.getLsbD l.val = true
        then some (max ((s.trigger.strobes.get l).getD 0) (s.clock + x.width)) else s.trigger.strobes.get l
      programs := putAt s.trigger.programs i { g with
        nextEvent := some (at' + g.record.period), runStart := s.clock, nextStep := 1
        state := if rest = [] then .armed else .running } } })

/-! ## Timers of frames, lenses and probes -/

/-- STAGING_TIMER_EXPIRY sets the staging mark. A STAGED lens with the hold-frames flag clear, in TALK, without a probe or a sweep, then
claims its motion: 1 dW or the camera's lens motion power. With no other claim waiting, one that fits the room is granted at once: LENS_MOVE
with the staged targets is given to the downlink, the lens is MOVING with its stuck timer of 3000 ms and the claim's amount is the motion
allotment; one that does not fit waits, the lens in WAIT_POWER. With hold-frames set and a buffer in flight the lens stays STAGED (R62,
R140, R141). STUCK_TIMER_EXPIRY of a MOVING lens: it is STUCK, its move over and its motion allotment 0, and LENS_STUCK is counted, latched
and remembered with its action
and the auto-probe enable of this moment (R23) sent to the Power Manager (R142, R168); stated with no claim waiting and no sweep or probe on the port.
Before its time a timer changes nothing. -/
def Obligations.LensTimers : Prop :=
  (∀ (p : Port) (s : State), live s = true →
     ∀ amount, amount = max 1 ((s.ports.get p).link.identity.map Identity.motionPower |>.getD 0) →
     (due (s.ports.get p).lens.stagingAt s = false → exec (.stagingTimerExpiry p) s = .next s) ∧
     (due (s.ports.get p).lens.stagingAt s = true →
       ((s.ports.get p).lens.state ≠ .staged ∨ (holdsFrames (s.ports.get p) = true ∧ frameGap p s = false) →
         exec (.stagingTimerExpiry p) s = .next { s with ports := modAt s.ports p fun q => { q with
           lens := { q.lens with stagingAt := none, stagingMark := true } } }) ∧
       ((s.ports.get p).lens.state = .staged → holdsFrames (s.ports.get p) = false → (s.ports.get p).link.state = .talk →
         (s.ports.get p).probe = none → (s.ports.get p).sweep = none → (s.ports.get p).lens.stagedBy = .sheet →
         s.budget.waitList = [] →
         (amount ≤ room s → exec (.stagingTimerExpiry p) s = .next (State.reported [p] { s with
           ports := modAt s.ports p fun q => { q with
             power := { q.power with motion := amount }
             link := enqueue (.lensMove q.lens.staged) q.link
             lens := { q.lens with
               state := .moving, staged := Axes.none, stagedBy := .sheet, stagingAt := none, stagingMark := false
               stuckAt := some (s.clock + 3000000)
               move := some { targets := q.lens.staged, server := .sheet, best := false } } } })) ∧
         (room s < amount → exec (.stagingTimerExpiry p) s = .next (State.reported [p] { s with
           ports := modAt s.ports p fun q => { q with
             lens := { q.lens with state := .waitPower, stagingAt := none, stagingMark := true } }
           budget := { s.budget with
             waitList := [{ port := p, kind := .lensMotion, amount := amount, rating := 0 }] } }))))) ∧
  (∀ (p : Port) (s : State), live s = true →
     ((s.ports.get p).lens.state ≠ .moving ∨ due (s.ports.get p).lens.stuckAt s = false →
       exec (.stuckTimerExpiry p) s = .next s) ∧
     ((s.ports.get p).lens.state = .moving → due (s.ports.get p).lens.stuckAt s = true → s.budget.waitList = [] →
       (s.ports.get p).sweep = none → (s.ports.get p).probe = none → ∃ t, exec (.stuckTimerExpiry p) s = .next t ∧
       (t.ports.get p).lens = { (s.ports.get p).lens with state := .stuck, stuckAt := none, move := none } ∧
       (t.ports.get p).power = { (s.ports.get p).power with motion := 0 } ∧
       (t.ports.get p).link = (s.ports.get p).link ∧
       (t.ports.get p).faults = { (s.ports.get p).faults with
         counts := modAt (s.ports.get p).faults.counts 6 (fun n => min 255 (n + 1))
         latched := putAt (s.ports.get p).faults.latched 6 true, last := some .lensStuck } ∧
       t.faults.sent = s.faults.sent ++ [{
         port := p, kind := .lensStuck, action := (reactionOf .lensStuck s).action, autoProbe := autoProbeOn s }] ∧
       (∀ q, q ≠ p → t.ports.get q = s.ports.get q) ∧ t.pool = s.pool))

/-- PROBE_READY_TIMEOUT at the ready limit: a PROBE or LEARN ends ABORTED TIMEOUT, an internal probe starts the cool-down of 10 s, and the
entry leaves the queue, with no cable record and no break record changed; before its time nothing changes (R53, R154, R157). PULSE_SET_END
of a PROBE or an internal probe on the dark path completes it: its findings go to the break log in one event, BREAK_FOUND being counted
once for each new record; a PROBE is DONE with the echoes, the findings and their record numbers, an internal probe starts the cool-down;
the entry leaves the queue (R156, R157, R163, R172, R176 to R179). Stated for an entry alone in its queue whose trace was not asked for,
with no change of power held back. At the end of a probe that hushed an ON port which has come to want STANDBY, with a lens STAGED
meanwhile, the owed change is made before the lens is tested: RESUME, SLEEP and LENS_MOVE are given to the downlink in this order, and the
move claims the room left by the standby allotment (R74, R77, R140, R141, R157). A probe that began on a powered port and holds a want of
OFF back is ended by an OVERLOAD's action, which comes first: the want that then arrives leaves the port HELD after CUT and LOCKED_OUT after
CUT_LOCK or the fourth trip, and moves it from RETRY_WAIT to OFF after any other trip, the count kept (R54, R77, R79, R80; that this is
the case R79 means is log 48). Stated with auto-probe off, no claim waiting and neither SNAP nor sweep. -/
def Obligations.ProbeEnds : Prop :=
  (∀ (p : Port) (r : ProbeRun) (s : State), live s = true → (s.ports.get p).probe = some r →
     (due r.readyBy s = false → exec (.probeReadyTimeout p) s = .next s) ∧
     (due r.readyBy s = true → (s.ports.get p).link.state ≠ .hush → (s.ports.get p).power.owed = false →
       (s.ports.get p).lens.state ≠ .staged → r.trace = .unasked → (s.ports.get p).queue.length ≤ 1 → ∃ t,
       exec (.probeReadyTimeout p) s = .next t ∧
       (∀ n, (r.job = .order n false ∨ r.job = .learn n) → (s.ports.get p).queue = [.order n] →
         (t.slots.get n).state = .aborted ∧ (t.slots.get n).reason = .timeout ∧ (t.ports.get p).queue = [] ∧
         (t.ports.get p).faults = (s.ports.get p).faults) ∧
       (r.job = .auto → (s.ports.get p).queue = [.probe] → (t.ports.get p).queue = [] ∧ t.slots = s.slots ∧
         (t.ports.get p).faults = { (s.ports.get p).faults with cooldownAt := some (s.clock + 10000000) }) ∧
       (t.ports.get p).probe = none ∧ (t.ports.get p).cable = (s.ports.get p).cable ∧ t.faults.log = s.faults.log ∧
       (t.ports.get p).power = (s.ports.get p).power)) ∧
  (∀ (p : Port) (r : ProbeRun) (samples : Vector (List Int) 16) (s : State), live s = true → (s.ports.get p).probe = some r → r.phase = .pulsing →
     (∀ n, r.job ≠ .learn n) → (s.ports.get p).queue.length ≤ 1 → r.trace = .unasked → r.path = some .dark → (s.ports.get p).link.state = .dark →
     (s.ports.get p).power.owed = false →
     ∀ echoes, echoes = echoesOf r.echoThreshold (averaged r.window samples.toList) →
     ∀ found, found = judgeEchoes r echoes →
     ∀ g, g = probeUpdate p (cellTime s) s.trigger.motion (!r.baseline.isEmpty) r.length.isSome found.1 s.faults.log → ∃ t,
     exec (.pulseSetEnd p samples) s = .next t ∧ t.faults.log = g.log ∧
     (t.ports.get p).probe = none ∧ (t.ports.get p).queue = [] ∧ (t.ports.get p).cable = (s.ports.get p).cable ∧
     (t.ports.get p).faults.counts = modAt (s.ports.get p).faults.counts 8 (fun k => if g.made = [] then k else
       min 255 (k + g.made.length)) ∧
     (∀ n, r.job = .order n false → (s.ports.get p).queue = [.order n] → (t.slots.get n).state = .done ∧
       (t.slots.get n).results = probeResults r.velocity echoes (found.1.zip g.answers) none false
         (r.baseline.isEmpty && r.length.isNone) 0 r.velocity found.2) ∧
     (r.job = .auto → (s.ports.get p).queue = [.probe] → t.slots = s.slots ∧
       (t.ports.get p).faults.cooldownAt = some (s.clock + 10000000))) ∧
  (∀ (p : Port) (r : ProbeRun) (n : SlotNo) (samples : Vector (List Int) 16) (s : State), live s = true → ∀ q, q = s.ports.get p →
     q.probe = some r → r.phase = .pulsing → r.path = some .hushed → (∃ asked, r.job = .order n asked) → r.trace = .unasked →
     q.queue = [.order n] → q.sweep = none → q.link.state = .hush → q.link.sending = none → q.link.owedSetup = false →
     q.link.owedSleep = false → q.power.owed = true → q.power.state = .on → wantOf q = .standby → q.power.motion = 0 →
     q.lens.state = .staged → holdsFrames q = false → frameGap p s = true → s.budget.waitList = [] →
     ∀ base, base = min (allotment p (standbyPower q) s) q.power.full →
     ∀ amount, amount = max 1 (q.link.identity.map Identity.motionPower |>.getD 0) →
     amount ≤ room { s with ports := modAt s.ports p fun x => { x with power := { x.power with base := base } } } → ∃ t,
     exec (.pulseSetEnd p samples) s = .next t ∧ (t.slots.get n).state = .done ∧ (t.ports.get p).link.sending = some .resume ∧
     (t.ports.get p).link.waiting = q.link.waiting ++ [.sleep, .lensMove q.lens.staged] ∧
     (t.ports.get p).power = { q.power with state := .standby, base := base, motion := amount, owed := false } ∧
     (t.ports.get p).lens.state = .moving) ∧
  (∀ (p : Port) (r : ProbeRun) (n : SlotNo) (s : State), live s = true → ∀ q, q = s.ports.get p → ∀ w, w = q.power →
     q.probe = some r → r.beganPowered = true → r.phase ≠ .ending → (∃ asked, r.job = .order n asked) → r.trace = .unasked →
     q.queue = [.order n] → q.snap = none → q.sweep = none → w.owed = true → wantOf q = .off → w.state = .limit →
     due w.limitAt s = true → s.budget.waitList = [] → autoProbeOn s = false → ∀ a, a = (reactionOf .overload s).action →
     a ≠ .nothing → ∃ t, exec (.limitTimerExpiry p) s = .next t ∧ (t.slots.get n).state = .aborted ∧
     (t.slots.get n).reason = .powerLost ∧ (t.ports.get p).probe = none ∧ (t.ports.get p).queue = [] ∧
     (t.ports.get p).link.state = .dark ∧ (t.ports.get p).power.owed = false ∧ (t.ports.get p).power.base = 0 ∧
     (t.ports.get p).power.retry = (if a = .cutRetry then min 4 (w.retry + 1) else w.retry) ∧
     (t.ports.get p).power.state = (match a with
       | .nothing => .limit
       | .cut => .held
       | .cutLock => .lockedOut
       | .cutRetry => if 3 ≤ w.retry then .lockedOut else .off))

/-- PULSE_SET_END of a LEARN before its fourth set keeps the set's echoes and pulses again. At the fourth: REFUSED NO_REFERENCE when the
first set has no echo, UNSTEADY when a set differs from the first, and then no record is written; else DONE, the cable record LEARNED with
the averaged baseline, the time and, on the dark path, powered clear, its other fields kept (R156, R164, R165). On the hushed path a
steady LEARN is DONE with powered set, the serial of the camera identity, and the loop resistance (port voltage − camera voltage) × 1000 /
current within 0 to 10,000, or the record's own when the camera voltage is absent or the current below 10 mA; its results give the
baseline, the greatest drift, the path and the loop resistance computed; the link is TALK again (R157, R165). Outside PULSING nothing
changes. Stated for the order alone in its queue and no change of power held back. -/
def Obligations.LearnPulses : Prop :=
  ∀ (p : Port) (n : SlotNo) (r : ProbeRun) (samples : Vector (List Int) 16) (s : State),
    live s = true → (s.ports.get p).probe = some r →
    (r.phase ≠ .pulsing → exec (.pulseSetEnd p samples) s = .next s) ∧
    (r.phase = .pulsing → r.job = .learn n → r.trace = .unasked →
      ∀ echoes, echoes = echoesOf r.echoThreshold (averaged r.window samples.toList) →
      (r.sets.length < 3 → exec (.pulseSetEnd p samples) s = .next { s with
        ports := modAt s.ports p fun q => { q with probe := some { r with sets := r.sets ++ [echoes] } } }) ∧
      (∀ first rest, r.sets = first :: rest → rest.length = 2 → r.path = some .dark →
        (s.ports.get p).link.state = .dark → (s.ports.get p).power.owed = false → (s.ports.get p).queue = [.order n] →
        ∃ t, exec (.pulseSetEnd p samples) s = .next t ∧ (t.ports.get p).probe = none ∧ (t.ports.get p).queue = [] ∧
        t.faults = s.faults ∧
        (first = [] → (t.slots.get n).state = .refused ∧ (t.slots.get n).reason = .noReference ∧
          (t.ports.get p).cable = (s.ports.get p).cable) ∧
        (first ≠ [] → (∃ l ∈ rest ++ [echoes], steadyWith first l = false) → (t.slots.get n).state = .refused ∧
          (t.slots.get n).reason = .unsteady ∧ (t.ports.get p).cable = (s.ports.get p).cable) ∧
        (first ≠ [] → (∀ l ∈ rest ++ [echoes], steadyWith first l = true) → (t.slots.get n).state = .done ∧
          (t.ports.get p).cable = { (s.ports.get p).cable with
            state := .learned, baseline := learnedBaseline (r.sets ++ [echoes]), powered := false
            learnTime := some (cellTime s) })) ∧
      (∀ first rest, r.sets = first :: rest → rest.length = 2 → r.path = some .hushed →
        (s.ports.get p).link.state = .hush → ∀ i, (s.ports.get p).link.identity = some i → (s.ports.get p).power.owed = false →
        (s.ports.get p).queue = [.order n] → first ≠ [] → (∀ l ∈ rest ++ [echoes], steadyWith first l = true) →
        ∀ w, w = (s.ports.get p).power → ∀ loop : Option Nat, loop = (match w.camVoltage with
          | none => none
          | some v => if w.current < 10 then none else some (min 10000 ((w.voltage - v) * 1000 / w.current))) →
        ∃ t, exec (.pulseSetEnd p samples) s = .next t ∧ (t.ports.get p).probe = none ∧ (t.ports.get p).queue = [] ∧
        t.faults = s.faults ∧ (t.slots.get n).state = .done ∧ (t.slots.get n).reason = .none ∧
        (t.slots.get n).results = learnResults r.velocity (learnedBaseline (r.sets ++ [echoes]))
          (greatestDrift (r.sets ++ [echoes])) 1 loop ∧
        (t.ports.get p).cable = { (s.ports.get p).cable with
          state := .learned, baseline := learnedBaseline (r.sets ++ [echoes]), powered := true, serial := some i.serial
          loop := if loop = none then (s.ports.get p).cable.loop else loop, learnTime := some (cellTime s) } ∧
        (t.ports.get p).link.state = .talk ∧ (t.ports.get p).link.identity = some i))

/-- WINDOW_END at the one port in TALK: its window counts are pushed. The condition: three or more entries of the in-motion history at or
above the threshold and none of the at-rest history (R173). Met anew, it is a flicker finding: it merges with the port's ACTIVE FLICKER
record, makes one, raising FLICKER, its action sent with the auto-probe enable of now (R23), or is left unrecorded with 16 ACTIVE; the
quiet run is 0. Met before, nothing is found; not met, the mark is clear. A pushed count below the threshold adds 1 to the quiet run, up
to 100; at 100 the ACTIVE FLICKER record is RESOLVED (R174, R176 to R178). Their order quiet run, finding, resolving, so that a finding
leaves the quiet run 0, is the model's choice (log 23). Each mirror record changed is rewritten and ATTENTION.BREAKS set once (R180). Of
two ports in TALK that each make a record in one window, both records stand in log and mirror before either FLICKER is raised and its stop
latch shown (R178; for a mask of 0; that the lower port is first at the log, each port an event of its own there, is the model's choice,
log 78). A probe's findings: the nearest ACTIVE record of port and kind within 8 ticks, the earlier of equals, is matched; merged, it
gains a sighting, last time and amplitude, and nothing from a second finding. What the probe could have seen and did not sight is
RESOLVED. A finding with no match makes a record, of the lowest free number or in place of the RESOLVED one whose first sighting shows the
least time (compared also over a line reset: the model's choice, log 74); with 16 ACTIVE it is answered none and counted; a second within
8 ticks of it is answered with its number. The port's ACTIVE FLICKER record takes the place of the earliest recorded finding in a flexing
section (log 56; R176 to R179). PULSE_SET_END takes the log so dealt with (R163, R180). The findings are said for one, and for two of a
kind within 8 ticks. -/
def Obligations.BreakLogDealt : Prop :=
  (∀ (p : Port) (s : State), live s = true → s.trigger.windowAt ≤ s.clock → s.page.taken = .held →
    LogOk s.faults.log → ∀ q, q = s.ports.get p → (∀ o, (s.ports.get o).link.state = .talk ↔ o = p) →
    ∀ threshold, threshold = flickerThreshold s → ∀ high : List Nat,
    high = (if s.trigger.seenHigh = true then (q.link.motionWindow :: q.link.motionHistory).take 8 else q.link.motionHistory) →
    ∀ low : List Nat, low = (if s.trigger.seenLow = true then (q.link.restWindow :: q.link.restHistory).take 8 else q.link.restHistory) →
    ∀ met : Bool, met = (decide (3 ≤ high.countP (fun n => decide (threshold ≤ n))) && low.all (fun n => decide (n < threshold))) →
    ∀ quiet, quiet = (if s.trigger.seenHigh = true then
      (if q.link.motionWindow < threshold then min 100 (q.quiet + 1) else 0) else q.quiet) →
    ∀ flickers : BreakRec → Bool, (flickers = fun r => r.active && r.port == p && r.kind == .flicker) →
    ∀ u : List BreakRec → List (Fin 16) → Bool → Nat → State, (u = fun log changed mark run => { s with
      trigger := { s.trigger with
        seenHigh := s.trigger.motion, seenLow := !s.trigger.motion, windowAt := s.trigger.windowAt + 100000 }
      ports := Vector.ofFn fun o => { s.ports.get o with
        link := { (s.ports.get o).link with
          motionWindow := 0, restWindow := 0
          motionHistory := if o = p then high else (s.ports.get o).link.motionHistory
          restHistory := if o = p then low else (s.ports.get o).link.restHistory }
        met := if o = p then mark else (s.ports.get o).met
        quiet := if o = p then run else (s.ports.get o).quiet }
      faults := { s.faults with log := log }
      page := { s.page with
        mirrorCounts := changed.foldl (fun v n => modAt v n (· + 2)) s.page.mirrorCounts
        attention := if changed = [] then s.page.attention else s.page.attention ||| flagBreaks }
      traffic := s.traffic ++ changed.flatMap (fun n => mirrorWrites s.page.addr (s.page.mirrorCounts.get n) log n) ++
        if changed = [] then [] else s.risen (s.page.attention ||| flagBreaks) s.page.mask }) →
    ((met = false ∨ q.met = true) →
      ((100 ≤ quiet → s.faults.log.any flickers = false) → exec .windowEnd s = .next (u s.faults.log [] met quiet)) ∧
      (∀ r n, 100 ≤ quiet → s.faults.log.find? flickers = some r → r.number = n.val → exec .windowEnd s = .next
        (u (s.faults.log.map fun x => if x.number = r.number then { x with active := false } else x) [n] met 0))) ∧
    (met = true → q.met = false →
      (∀ r n, s.faults.log.find? flickers = some r → r.number = n.val → exec .windowEnd s = .next
        (u (s.faults.log.map fun x => if x.number = r.number then
          { x with sightings := min 255 (x.sightings + 1), last := cellTime s } else x) [n] true 0)) ∧
      (s.faults.log.any flickers = false →
        (∀ n log, makeRoom s.faults.log = some (n, log) → ∃ t, exec .windowEnd s = .next t ∧
          t.faults.log = log ++ [newFlicker p (cellTime s) s.trigger.motion n] ∧ (t.ports.get p).met = true ∧
          (t.ports.get p).quiet = 0 ∧ (t.ports.get p).faults = { q.faults with
            counts := modAt q.faults.counts 7 (fun k => min 255 (k + 1))
            latched := putAt q.faults.latched 7 true, last := some .flicker } ∧
          t.faults.sent = s.faults.sent ++ [{
            port := p, kind := .flicker, action := (reactionOf .flicker s).action, autoProbe := autoProbeOn s }]) ∧
        (makeRoom s.faults.log = none → exec .windowEnd s = .next (State.headerShown 0 { u s.faults.log [] true 0 with
          faults := { s.faults with logFull := s.faults.logFull + 1 } }))))) ∧
  (∀ (p q : Port) (s : State), p < q → live s = true → s.trigger.windowAt ≤ s.clock → s.page.taken = .held → s.page.mask = 0 →
    LogOk s.faults.log → (∀ o, (s.ports.get o).link.state = .talk ↔ o = p ∨ o = q) →
    (∀ o, o = p ∨ o = q → (s.ports.get o).met = false ∧ s.faults.log.any (BreakRec.isActive o .flicker) = false ∧
      3 ≤ (if s.trigger.seenHigh = true then ((s.ports.get o).link.motionWindow :: (s.ports.get o).link.motionHistory).take 8
        else (s.ports.get o).link.motionHistory).countP (fun n => decide (flickerThreshold s ≤ n)) ∧
      ∀ n ∈ (if s.trigger.seenLow = true then ((s.ports.get o).link.restWindow :: (s.ports.get o).link.restHistory).take 8
        else (s.ports.get o).link.restHistory), n < flickerThreshold s) →
    ∀ (n m : Fin 16) (room first room' log : List BreakRec), makeRoom s.faults.log = some (n.val, room) →
    first = room ++ [newFlicker p (cellTime s) s.trigger.motion n] → makeRoom first = some (m.val, room') →
    log = room' ++ [newFlicker q (cellTime s) s.trigger.motion m] → ∃ t rest, exec .windowEnd s = .next t ∧ t.faults.log = log ∧
    t.traffic = s.traffic ++ mirrorWrites s.page.addr (s.page.mirrorCounts.get n) log n ++
      mirrorWrites s.page.addr (s.page.mirrorCounts.get m) log m ++ rest ∧
    t.faults.sent = s.faults.sent ++ [p, q].map (fun o => {
      port := o, kind := .flicker, action := (reactionOf .flicker s).action, autoProbe := autoProbeOn s }) ∧
    (∀ o, o = p ∨ o = q → (t.ports.get o).faults = PortFaults.note .flicker (s.ports.get o).faults) ∧
    ((reactionOf .flicker s).route = .attentionStop → t.faults.stopLatch = true ∧ (s.faults.stopLatch = false →
      areaWrites (s.page.addr + 0x40) s.page.headerCount
        (headerBody { s with faults := { s.faults with stopLatch := true } }) <+: rest))) ∧
  (∀ (log : List BreakRec), LogOk log →
    (log.length < 16 → ∃ n, makeRoom log = some (n, log) ∧ n < 16 ∧ (∀ r ∈ log, r.number ≠ n) ∧
      ∀ m, m < n → ∃ r ∈ log, r.number = m) ∧
    (log.length = 16 → (∀ r ∈ log, r.active = true) → makeRoom log = none) ∧
    (∀ (i : Nat) (r : BreakRec), log[i]? = some r → log.length = 16 → r.active = false →
      (∀ (j : Nat) (x : BreakRec), log[j]? = some x → x.active = false →
        r.first.toNat ≤ x.first.toNat ∧ (j < i → r.first.toNat < x.first.toNat)) →
      makeRoom log = some (r.number, log.eraseIdx i))) ∧
  (∀ (p : Port) (k : BreakKind) (ticks : Nat) (log : List BreakRec),
    ∀ fits : BreakRec → Bool, (fits = fun r => r.active && r.port == p && r.kind == k && decide (absDiff (r.ticks.getD 0) ticks ≤ 8)) →
    (matchRec p k ticks log none = none ↔ ∀ r ∈ log, fits r = false) ∧
    (∀ (i : Nat) (r : BreakRec), log[i]? = some r → fits r = true →
      (∀ (j : Nat) (x : BreakRec), log[j]? = some x → fits x = true →
        absDiff (r.ticks.getD 0) ticks ≤ absDiff (x.ticks.getD 0) ticks ∧
        (j < i → absDiff (r.ticks.getD 0) ticks < absDiff (x.ticks.getD 0) ticks)) →
      matchRec p k ticks log none = some r)) ∧
  (∀ (p : Port) (now : Addr) (motion baseline length : Bool) (log : List BreakRec), LogOk log →
    ∀ resolved : List Nat → List BreakRec, (resolved = fun sighted => log.map fun r =>
      if r.active = true ∧ r.port = p ∧ r.number ∉ sighted ∧ (r.kind = .openCircuit ∨ r.kind = .shortCircuit ∨ r.kind = .step) ∧
          (baseline = true ∨ (length = true ∧ r.kind ≠ .step)) then { r with active := false } else r) →
    (probeUpdate p now motion baseline length [] log).log = resolved [] ∧
    (∀ x : Finding, x.kind ≠ .flicker → x.flexing = false ∨ log.any (BreakRec.isActive p .flicker) = false →
      ∀ g, g = probeUpdate p now motion baseline length [x] log →
      (∀ r, matchRec p x.kind x.ticks log none = some r → g.answers = [some r.number] ∧ g.made = [] ∧ g.unrecorded = 0 ∧
        g.log = (resolved [r.number]).map fun y => if y.number = r.number then
          { y with sightings := min 255 (y.sightings + 1), last := now, amplitude := some x.amplitude } else y) ∧
      (matchRec p x.kind x.ticks log none = none →
        (∀ n room, makeRoom (resolved []) = some (n, room) → g.answers = [some n] ∧ g.made = [n] ∧ g.unrecorded = 0 ∧
          g.log = room ++ [{ number := n, active := true, port := p, kind := x.kind, ticks := some x.ticks
                             distance := some x.distance, joint := x.joint, amplitude := some x.amplitude
                             flexing := x.flexing, motion := motion, sightings := 1, first := now, last := now }]) ∧
        (makeRoom (resolved []) = none → g.answers = [none] ∧ g.made = [] ∧ g.unrecorded = 1 ∧ g.log = resolved [])) ∧
      (∀ y : Finding, y.kind = x.kind → y.flexing = false ∨ log.any (BreakRec.isActive p .flicker) = false →
        absDiff x.ticks y.ticks ≤ 8 → ∀ h, h = probeUpdate p now motion baseline length [x, y] log →
        ((∃ r, matchRec p x.kind x.ticks log none = some r ∧ matchRec p x.kind y.ticks log none = some r) ∨
          (matchRec p x.kind x.ticks log none = none ∧ matchRec p x.kind y.ticks log none = none ∧
            makeRoom (resolved []) ≠ none) →
          h.log = g.log ∧ h.made = g.made ∧ h.unrecorded = 0 ∧ h.answers = g.answers ++ g.answers))) ∧
    (∀ (recorded : List Finding) (g : LogEvent) (r : BreakRec) (x : Finding), g.log = log →
      log.find? (BreakRec.isActive p .flicker) = some r → recorded.find? (·.flexing) = some x →
      (g.place p recorded).log = log.map (fun y => if y.number = r.number then { y with
        ticks := some x.ticks, distance := some x.distance, amplitude := some x.amplitude, joint := x.joint
        flexing := true } else y) ∧ (g.place p recorded).changed = r.number :: g.changed)) ∧
  (∀ (p : Port) (r : ProbeRun) (samples : Vector (List Int) 16) (s : State), live s = true → s.page.taken = .held →
    (s.ports.get p).probe = some r → r.phase = .pulsing → (∀ n, r.job ≠ .learn n) → (s.ports.get p).queue.length ≤ 1 →
    r.trace = .unasked → r.path = some .dark → (s.ports.get p).link.state = .dark → (s.ports.get p).power.owed = false →
    ∀ found, found = (judgeEchoes r (echoesOf r.echoThreshold (averaged r.window samples.toList))).1 →
    ∀ g, g = probeUpdate p (cellTime s) s.trigger.motion (!r.baseline.isEmpty) r.length.isSome found s.faults.log → ∃ t,
    exec (.pulseSetEnd p samples) s = .next t ∧ t.faults.log = g.log ∧
    t.faults.logFull = s.faults.logFull + BitVec.ofNat 32 g.unrecorded ∧
    (g.changed ≠ [] → t.page.attention &&& flagBreaks = flagBreaks) ∧
    (g.changed = [] → t.page.attention &&& flagBreaks = s.page.attention &&& flagBreaks) ∧
    ∀ n : Fin 16, (n.val ∈ g.changed → t.page.mirrorCounts.get n = s.page.mirrorCounts.get n + 2 ∧
        ∀ w ∈ mirrorWrites s.page.addr (s.page.mirrorCounts.get n) g.log n, w ∈ t.traffic) ∧
      (n.val ∉ g.changed → t.page.mirrorCounts.get n = s.page.mirrorCounts.get n))

/-! ## The reflectometer's arithmetic -/

/-- The echoes of an averaged record: at most 8, in increasing ticks, each at a tick from 8 on, at or above the threshold, its amplitude the
magnitude of the record there and its polarity its sign; every maximal run of one sign at or above the threshold gives its echo, at its
earliest tick of greatest magnitude, unless 8 echoes stand before the run; and between two echoes of one sign a tick breaks the run
(R159); with the distance of the worked figure, 100 ticks at 660 permille giving 247 cm (R160). Without a baseline an echo is a finding
exactly when it is POS at or above the open level, or NEG at or above the short level, and its distance × 10 is less than the declared
length × 9; a STEP is never found; with neither a baseline nor a length there is no finding (R162). With a baseline, its echoes are taken
in turn: the probe echo not yet matched within 8 ticks (and, but for the last baseline echo, of its polarity and with an amplitude off by
at most a quarter of the baseline's) that is nearest in ticks, the earlier of equals, is matched and taken away; one that finds none is
counted as not seen. Every probe echo left is a finding: OPEN for POS at or above the open level, SHORT for NEG at or above the short
level, else STEP (R161). -/
def Obligations.Reflectometer : Prop :=
  ((∀ (threshold : Nat) (a : List Int), 0 < threshold →
     (echoesOf threshold a).length ≤ 8 ∧ (echoesOf threshold a).Pairwise (fun x y => x.ticks < y.ticks) ∧
     ∀ x ∈ echoesOf threshold a, 8 ≤ x.ticks ∧ threshold ≤ x.amplitude ∧ ∃ v, a[x.ticks]? = some v ∧
       x.amplitude = v.natAbs ∧ (x.polarity = .pos ↔ 0 < v)) ∧
   (∀ (threshold : Nat) (a : List Int) (sign : Polarity), 0 < threshold → ∀ runs : Nat → Bool,
     (runs = fun t => decide ((threshold : Int) ≤ (if sign = .pos then a.getD t 0 else -(a.getD t 0)))) →
     (∀ first last peak : Nat, 8 ≤ first → first ≤ peak → peak ≤ last → last < a.length →
       (∀ t, first ≤ t → t ≤ last → runs t = true) → (first = 8 ∨ runs (first - 1) = false) →
       (last + 1 = a.length ∨ runs (last + 1) = false) →
       (∀ t, first ≤ t → t ≤ last → (a.getD t 0).natAbs ≤ (a.getD peak 0).natAbs) →
       (∀ t, first ≤ t → t < peak → (a.getD t 0).natAbs < (a.getD peak 0).natAbs) →
       { ticks := peak, polarity := sign, amplitude := (a.getD peak 0).natAbs : Echo } ∈ echoesOf threshold a ∨
         ((echoesOf threshold a).length = 8 ∧ ∀ x ∈ echoesOf threshold a, x.ticks < first)) ∧
     ∀ x ∈ echoesOf threshold a, ∀ y ∈ echoesOf threshold a, x.polarity = sign → y.polarity = sign → x.ticks < y.ticks →
       ∃ t, x.ticks < t ∧ t < y.ticks ∧ runs t = false) ∧
   (∀ velocity ticks, distanceOf velocity ticks = ticks * velocity * 3 / 800) ∧ distanceOf 660 100 = 247) ∧
  (∀ (r : ProbeRun) (echoes : List Echo), r.baseline = [] →
     (r.length = none → judgeEchoes r echoes = ([], 0)) ∧
     (∀ n, r.length = some n →
       (∀ i x, echoes[i]? = some x → ((∃ f ∈ (judgeEchoes r echoes).1, f.index = i) ↔
         (((x.polarity = .pos ∧ r.openLevel ≤ x.amplitude) ∨ (x.polarity = .neg ∧ r.shortLevel ≤ x.amplitude)) ∧
           distanceOf r.velocity x.ticks * 10 < n * 9))) ∧
       ∀ f ∈ (judgeEchoes r echoes).1, f.kind ≠ .step ∧ ∃ x, echoes[f.index]? = some x ∧
         f.kind = (if x.polarity = .pos then .openCircuit else .shortCircuit))) ∧
  ((∀ left, matchBaseline [] left = (left, 0)) ∧
   (∀ (b : Echo) (bs : List Echo) (left : List (Echo × Nat)), ∀ fits : Echo × Nat → Bool,
     (fits = fun x => decide (absDiff x.1.ticks b.ticks ≤ 8) &&
       (bs.isEmpty || (x.1.polarity == b.polarity && decide (absDiff x.1.amplitude b.amplitude * 4 ≤ b.amplitude)))) →
     ((∀ x ∈ left, fits x = false) →
       matchBaseline (b :: bs) left = ((matchBaseline bs left).1, (matchBaseline bs left).2 + 1)) ∧
     ((left.map (·.2)).Nodup → ∀ (k : Nat) (x : Echo × Nat), left[k]? = some x → fits x = true →
       (∀ (j : Nat) (y : Echo × Nat), left[j]? = some y → fits y = true →
         absDiff x.1.ticks b.ticks ≤ absDiff y.1.ticks b.ticks ∧
           (j < k → absDiff x.1.ticks b.ticks < absDiff y.1.ticks b.ticks)) →
       matchBaseline (b :: bs) left = matchBaseline bs (left.eraseIdx k))) ∧
   ∀ (r : ProbeRun) (echoes : List Echo), r.baseline ≠ [] → ∀ m, m = matchBaseline r.baseline echoes.zipIdx →
     judgeEchoes r echoes = (m.1.map (fun x => findingOf r
       (if x.1.polarity = .pos ∧ r.openLevel ≤ x.1.amplitude then .openCircuit
        else if x.1.polarity = .neg ∧ r.shortLevel ≤ x.1.amplitude then .shortCircuit else .step) x), m.2))

/-! ## Records and packets as bytes -/

/-- The check of the spec's worked example, and packets by their bytes: FIRE with its tag and exposure, and the reading of a good IDLE and
of a good FRAME_CLOSE as the commands they are; a packet whose CRC is wrong is a bad packet (R8, R83 to R86). -/
def Obligations.ChecksAndPackets : Prop :=
  crc16 [0x31, 0x32, 0x33, 0x34, 0x35, 0x36, 0x37, 0x38, 0x39] = 0x29B1 ∧
  (Packet.fire 0x1234 500).bytes.take 9 = [0x01, 0x12, 0x34, 0x00, 0x04, 0x00, 0x00, 0x01, 0xF4] ∧
  (∀ (p : Port) (v : Half) (body : List Byte), body = [0x46, 0x00, 0x02] ++ beBytes 2 v.toNat →
    uplinkCommand p (body ++ beBytes 2 (crc16 body).toNat) = .idle p v) ∧
  (∀ (p : Port) (tag : Half) (total : Word) (status : Byte) (body : List Byte),
    body = [0x44] ++ beBytes 2 tag.toNat ++ [0x00, 0x05] ++ beBytes 4 total.toNat ++ [status] →
    uplinkCommand p (body ++ beBytes 2 (crc16 body).toNat) = .frameClose p tag total status) ∧
  (∀ (p : Port) (body : List Byte) (crc : Half), crc ≠ crc16 body →
    uplinkCommand p (body ++ beBytes 2 crc.toNat) = .badPacket p)

/-- A cable record that a load accepts, saved unchanged, is 128 bytes that a load accepts as the same record (R50, R151, R152). -/
def Obligations.SavedCableReloads : Prop :=
  ∀ (bytes : List Byte) (c : CableRec), judgeCable bytes = .ok c →
    c.bytes.length = 0x80 ∧ handOf 0x80 c.bytes = 0 ∧ judgeCable c.bytes = .ok c

/-- A Cell Sheet copy unchanged since its take computes to the check it was taken with (R33). -/
def Obligations.CopyKeepsItsCheck : Prop :=
  ∀ (bytes : List Byte) (c : CellSheet), bytes.length = 0x400 → judgeCellSheet bytes = .ok c →
    c.check.toNat = leNat ((bytes.drop 0x3FD).take 2)

/-! ## What every step keeps -/

/-- The state after a power-on reset has the hand-off, the break log and every law of the invariants below. -/
def Obligations.ResetHasInvariants : Prop :=
  HandOff State.reset ∧ LogOk State.reset.faults.log ∧ LogApart State.reset.faults.log ∧ Budgeted State.reset ∧
  Queued State.reset ∧ InFlight State.reset

/-- Every step keeps the hand-off: SETUP exactly while the page is not HELD, the re-check running exactly in RUN, a header read outstanding
exactly in TAKING, RUN only with a standing sheet and a standing sheet only with a copy, a budget in force only in RUN, and the encoder
remainder 0 or below the divider (R2, R20, R29, R33, R36, R61, R103). -/
def Obligations.HandOffKept : Prop :=
 ∀ s t : State, HandOff s → step s = .next t → HandOff t

/-- Every step keeps the break log within 16 records of distinct numbers below 16, and keeps its law: ACTIVE records of one port and kind
lie more than 8 ticks apart, and a port has one ACTIVE FLICKER record at most (R175 to R178). -/
def Obligations.BreakLogKept : Prop :=
  (∀ s t : State, LogOk s.faults.log → step s = .next t → LogOk t.faults.log) ∧
  (∀ s t : State, LogOk s.faults.log ∧ LogApart s.faults.log → step s = .next t → LogApart t.faults.log)

/-- In every state that a run reaches, whatever commands are sent and whenever: a port's base allotment is non-zero exactly in the seven
powered states and its motion allotment exactly while its lens moves; the budget in force is the sheet's in RUN and 0 outside; the
allotments never exceed it; outside RUN every port is OFF, HELD or LOCKED_OUT; and the link of a port that is not powered is DARK (R60,
R61, R65, R88, R94). -/
def Obligations.BudgetLaws : Prop :=
 ∀ s, Reachable s → Budgeted s

/-- In every state that a run reaches, the inrush queue holds a port once and exactly while it is QUEUED, the wait list holds one claim
for a port and kind, and at most one port is in INRUSH (R66, R67). -/
def Obligations.InrushLaws : Prop :=
 ∀ s, Reachable s → Queued s

/-- In every state that a run reaches, a frame buffer in flight belongs to a port in TALK, no port has more than two buffers in flight or
one FILLING, and in RUN no port's open holdings exceed its share cap (R120, R122). -/
def Obligations.FrameLaws : Prop :=
 ∀ s, Reachable s → InFlight s
end

