-- ==== Sys2Proof/Laws/State.lean ====
section
/-! SUPPORT. What each field of the state is after each update of Ops: one lemma per field and update, so that no later proof
unfolds a record update. -/

namespace Sys2Proof.Machine

/-! ## Vectors and lists -/

@[simp] theorem get_modAt_self {α : Type} {n : Nat} (v : Vector α n) (i : Fin n) (f : α → α) :
    (modAt v i f).get i = f (v.get i) := by
  simp [modAt, Vector.get_eq_getElem]

theorem get_modAt_ne {α : Type} {n : Nat} (v : Vector α n) (i j : Fin n) (f : α → α) (h : j ≠ i) :
    (modAt v i f).get j = v.get j := by
  have : i.val ≠ j.val := fun x => h (Fin.ext x.symm)
  simp [modAt, Vector.get_eq_getElem, Vector.getElem_set_ne _ _ this]

theorem get_modAt {α : Type} {n : Nat} (v : Vector α n) (i j : Fin n) (f : α → α) :
    (modAt v i f).get j = if j = i then f (v.get i) else v.get j := by
  split
  · next h => subst h; simp
  · next h => exact get_modAt_ne v i j f h

@[simp] theorem get_putAt_self {α : Type} {n : Nat} (v : Vector α n) (i : Fin n) (x : α) : (putAt v i x).get i = x := by
  simp [putAt, Vector.get_eq_getElem]

theorem get_putAt_ne {α : Type} {n : Nat} (v : Vector α n) (i j : Fin n) (x : α) (h : j ≠ i) :
    (putAt v i x).get j = v.get j := by
  have : i.val ≠ j.val := fun y => h (Fin.ext y.symm)
  simp [putAt, Vector.get_eq_getElem, Vector.getElem_set_ne _ _ this]

@[simp] theorem length_modNth {α : Type} (xs : List α) (b : Nat) (f : α → α) : (modNth xs b f).length = xs.length := by
  induction xs generalizing b with
  | nil => cases b <;> rfl
  | cons x xs ih => cases b <;> simp [modNth, ih]

/-- The entry at b is changed, every other is kept. -/
theorem getElem?_modNth {α : Type} (xs : List α) (b c : Nat) (f : α → α) :
    (modNth xs b f)[c]? = if c = b then xs[c]?.map f else xs[c]? := by
  induction xs generalizing b c with
  | nil => cases b <;> simp [modNth]
  | cons x xs ih => cases b <;> cases c <;> simp [modNth, ih]

/-! ## Fields after an update -/

/-! ### modPort -/

@[simp] theorem modPort_pending (p : Port) (f : PortState → PortState) (e : Event) : (modPort p f e).pending = e.pending := rfl
@[simp] theorem modPort_powered (p : Port) (f : PortState → PortState) (e : Event) : (modPort p f e).powered = e.powered := rfl
@[simp] theorem modPort_resetHeld (p : Port) (f : PortState → PortState) (e : Event) : (modPort p f e).resetHeld = e.resetHeld := rfl
@[simp] theorem modPort_clock (p : Port) (f : PortState → PortState) (e : Event) : (modPort p f e).clock = e.clock := rfl
@[simp] theorem modPort_page (p : Port) (f : PortState → PortState) (e : Event) : (modPort p f e).page = e.page := rfl
@[simp] theorem modPort_pcie (p : Port) (f : PortState → PortState) (e : Event) : (modPort p f e).pcie = e.pcie := rfl
@[simp] theorem modPort_reads (p : Port) (f : PortState → PortState) (e : Event) : (modPort p f e).reads = e.reads := rfl
@[simp] theorem modPort_cell (p : Port) (f : PortState → PortState) (e : Event) : (modPort p f e).cell = e.cell := rfl
@[simp] theorem modPort_slots (p : Port) (f : PortState → PortState) (e : Event) : (modPort p f e).slots = e.slots := rfl
@[simp] theorem modPort_handed (p : Port) (f : PortState → PortState) (e : Event) : (modPort p f e).handed = e.handed := rfl
@[simp] theorem modPort_budget (p : Port) (f : PortState → PortState) (e : Event) : (modPort p f e).budget = e.budget := rfl
@[simp] theorem modPort_ports (p : Port) (f : PortState → PortState) (e : Event) : (modPort p f e).ports = modAt e.ports p f := rfl
@[simp] theorem modPort_trigger (p : Port) (f : PortState → PortState) (e : Event) : (modPort p f e).trigger = e.trigger := rfl
@[simp] theorem modPort_pool (p : Port) (f : PortState → PortState) (e : Event) : (modPort p f e).pool = e.pool := rfl
@[simp] theorem modPort_faults (p : Port) (f : PortState → PortState) (e : Event) : (modPort p f e).faults = e.faults := rfl
@[simp] theorem modPort_traffic (p : Port) (f : PortState → PortState) (e : Event) : (modPort p f e).traffic = e.traffic := rfl
@[simp] theorem modPort_cableOut (p : Port) (f : PortState → PortState) (e : Event) : (modPort p f e).cableOut = e.cableOut := rfl
@[simp] theorem modPort_free (p : Port) (f : PortState → PortState) (e : Event) : (modPort p f e).free = e.free := rfl
@[simp] theorem modPort_agenda (p : Port) (f : PortState → PortState) (e : Event) : (modPort p f e).agenda = e.agenda := rfl
@[simp] theorem modPort_touched (p : Port) (f : PortState → PortState) (e : Event) : (modPort p f e).touched = e.touched := rfl

/-! ### modPower -/

@[simp] theorem modPower_pending (p : Port) (f : PortPower → PortPower) (e : Event) : (modPower p f e).pending = e.pending := rfl
@[simp] theorem modPower_powered (p : Port) (f : PortPower → PortPower) (e : Event) : (modPower p f e).powered = e.powered := rfl
@[simp] theorem modPower_resetHeld (p : Port) (f : PortPower → PortPower) (e : Event) : (modPower p f e).resetHeld = e.resetHeld := rfl
@[simp] theorem modPower_clock (p : Port) (f : PortPower → PortPower) (e : Event) : (modPower p f e).clock = e.clock := rfl
@[simp] theorem modPower_page (p : Port) (f : PortPower → PortPower) (e : Event) : (modPower p f e).page = e.page := rfl
@[simp] theorem modPower_pcie (p : Port) (f : PortPower → PortPower) (e : Event) : (modPower p f e).pcie = e.pcie := rfl
@[simp] theorem modPower_reads (p : Port) (f : PortPower → PortPower) (e : Event) : (modPower p f e).reads = e.reads := rfl
@[simp] theorem modPower_cell (p : Port) (f : PortPower → PortPower) (e : Event) : (modPower p f e).cell = e.cell := rfl
@[simp] theorem modPower_slots (p : Port) (f : PortPower → PortPower) (e : Event) : (modPower p f e).slots = e.slots := rfl
@[simp] theorem modPower_handed (p : Port) (f : PortPower → PortPower) (e : Event) : (modPower p f e).handed = e.handed := rfl
@[simp] theorem modPower_budget (p : Port) (f : PortPower → PortPower) (e : Event) : (modPower p f e).budget = e.budget := rfl
@[simp] theorem modPower_ports (p : Port) (f : PortPower → PortPower) (e : Event) : (modPower p f e).ports = modAt e.ports p fun q => { q with power := f q.power } := rfl
@[simp] theorem modPower_trigger (p : Port) (f : PortPower → PortPower) (e : Event) : (modPower p f e).trigger = e.trigger := rfl
@[simp] theorem modPower_pool (p : Port) (f : PortPower → PortPower) (e : Event) : (modPower p f e).pool = e.pool := rfl
@[simp] theorem modPower_faults (p : Port) (f : PortPower → PortPower) (e : Event) : (modPower p f e).faults = e.faults := rfl
@[simp] theorem modPower_traffic (p : Port) (f : PortPower → PortPower) (e : Event) : (modPower p f e).traffic = e.traffic := rfl
@[simp] theorem modPower_cableOut (p : Port) (f : PortPower → PortPower) (e : Event) : (modPower p f e).cableOut = e.cableOut := rfl
@[simp] theorem modPower_free (p : Port) (f : PortPower → PortPower) (e : Event) : (modPower p f e).free = e.free := rfl
@[simp] theorem modPower_agenda (p : Port) (f : PortPower → PortPower) (e : Event) : (modPower p f e).agenda = e.agenda := rfl
@[simp] theorem modPower_touched (p : Port) (f : PortPower → PortPower) (e : Event) : (modPower p f e).touched = e.touched := rfl

/-! ### modLink -/

@[simp] theorem modLink_pending (p : Port) (f : PortLink → PortLink) (e : Event) : (modLink p f e).pending = e.pending := rfl
@[simp] theorem modLink_powered (p : Port) (f : PortLink → PortLink) (e : Event) : (modLink p f e).powered = e.powered := rfl
@[simp] theorem modLink_resetHeld (p : Port) (f : PortLink → PortLink) (e : Event) : (modLink p f e).resetHeld = e.resetHeld := rfl
@[simp] theorem modLink_clock (p : Port) (f : PortLink → PortLink) (e : Event) : (modLink p f e).clock = e.clock := rfl
@[simp] theorem modLink_page (p : Port) (f : PortLink → PortLink) (e : Event) : (modLink p f e).page = e.page := rfl
@[simp] theorem modLink_pcie (p : Port) (f : PortLink → PortLink) (e : Event) : (modLink p f e).pcie = e.pcie := rfl
@[simp] theorem modLink_reads (p : Port) (f : PortLink → PortLink) (e : Event) : (modLink p f e).reads = e.reads := rfl
@[simp] theorem modLink_cell (p : Port) (f : PortLink → PortLink) (e : Event) : (modLink p f e).cell = e.cell := rfl
@[simp] theorem modLink_slots (p : Port) (f : PortLink → PortLink) (e : Event) : (modLink p f e).slots = e.slots := rfl
@[simp] theorem modLink_handed (p : Port) (f : PortLink → PortLink) (e : Event) : (modLink p f e).handed = e.handed := rfl
@[simp] theorem modLink_budget (p : Port) (f : PortLink → PortLink) (e : Event) : (modLink p f e).budget = e.budget := rfl
@[simp] theorem modLink_ports (p : Port) (f : PortLink → PortLink) (e : Event) : (modLink p f e).ports = modAt e.ports p fun q => { q with link := f q.link } := rfl
@[simp] theorem modLink_trigger (p : Port) (f : PortLink → PortLink) (e : Event) : (modLink p f e).trigger = e.trigger := rfl
@[simp] theorem modLink_pool (p : Port) (f : PortLink → PortLink) (e : Event) : (modLink p f e).pool = e.pool := rfl
@[simp] theorem modLink_faults (p : Port) (f : PortLink → PortLink) (e : Event) : (modLink p f e).faults = e.faults := rfl
@[simp] theorem modLink_traffic (p : Port) (f : PortLink → PortLink) (e : Event) : (modLink p f e).traffic = e.traffic := rfl
@[simp] theorem modLink_cableOut (p : Port) (f : PortLink → PortLink) (e : Event) : (modLink p f e).cableOut = e.cableOut := rfl
@[simp] theorem modLink_free (p : Port) (f : PortLink → PortLink) (e : Event) : (modLink p f e).free = e.free := rfl
@[simp] theorem modLink_agenda (p : Port) (f : PortLink → PortLink) (e : Event) : (modLink p f e).agenda = e.agenda := rfl
@[simp] theorem modLink_touched (p : Port) (f : PortLink → PortLink) (e : Event) : (modLink p f e).touched = e.touched := rfl

/-! ### modLens -/

@[simp] theorem modLens_pending (p : Port) (f : LensRec → LensRec) (e : Event) : (modLens p f e).pending = e.pending := rfl
@[simp] theorem modLens_powered (p : Port) (f : LensRec → LensRec) (e : Event) : (modLens p f e).powered = e.powered := rfl
@[simp] theorem modLens_resetHeld (p : Port) (f : LensRec → LensRec) (e : Event) : (modLens p f e).resetHeld = e.resetHeld := rfl
@[simp] theorem modLens_clock (p : Port) (f : LensRec → LensRec) (e : Event) : (modLens p f e).clock = e.clock := rfl
@[simp] theorem modLens_page (p : Port) (f : LensRec → LensRec) (e : Event) : (modLens p f e).page = e.page := rfl
@[simp] theorem modLens_pcie (p : Port) (f : LensRec → LensRec) (e : Event) : (modLens p f e).pcie = e.pcie := rfl
@[simp] theorem modLens_reads (p : Port) (f : LensRec → LensRec) (e : Event) : (modLens p f e).reads = e.reads := rfl
@[simp] theorem modLens_cell (p : Port) (f : LensRec → LensRec) (e : Event) : (modLens p f e).cell = e.cell := rfl
@[simp] theorem modLens_slots (p : Port) (f : LensRec → LensRec) (e : Event) : (modLens p f e).slots = e.slots := rfl
@[simp] theorem modLens_handed (p : Port) (f : LensRec → LensRec) (e : Event) : (modLens p f e).handed = e.handed := rfl
@[simp] theorem modLens_budget (p : Port) (f : LensRec → LensRec) (e : Event) : (modLens p f e).budget = e.budget := rfl
@[simp] theorem modLens_ports (p : Port) (f : LensRec → LensRec) (e : Event) : (modLens p f e).ports = modAt e.ports p fun q => { q with lens := f q.lens } := rfl
@[simp] theorem modLens_trigger (p : Port) (f : LensRec → LensRec) (e : Event) : (modLens p f e).trigger = e.trigger := rfl
@[simp] theorem modLens_pool (p : Port) (f : LensRec → LensRec) (e : Event) : (modLens p f e).pool = e.pool := rfl
@[simp] theorem modLens_faults (p : Port) (f : LensRec → LensRec) (e : Event) : (modLens p f e).faults = e.faults := rfl
@[simp] theorem modLens_traffic (p : Port) (f : LensRec → LensRec) (e : Event) : (modLens p f e).traffic = e.traffic := rfl
@[simp] theorem modLens_cableOut (p : Port) (f : LensRec → LensRec) (e : Event) : (modLens p f e).cableOut = e.cableOut := rfl
@[simp] theorem modLens_free (p : Port) (f : LensRec → LensRec) (e : Event) : (modLens p f e).free = e.free := rfl
@[simp] theorem modLens_agenda (p : Port) (f : LensRec → LensRec) (e : Event) : (modLens p f e).agenda = e.agenda := rfl
@[simp] theorem modLens_touched (p : Port) (f : LensRec → LensRec) (e : Event) : (modLens p f e).touched = e.touched := rfl

/-! ### modFaults -/

@[simp] theorem modFaults_pending (p : Port) (f : PortFaults → PortFaults) (e : Event) : (modFaults p f e).pending = e.pending := rfl
@[simp] theorem modFaults_powered (p : Port) (f : PortFaults → PortFaults) (e : Event) : (modFaults p f e).powered = e.powered := rfl
@[simp] theorem modFaults_resetHeld (p : Port) (f : PortFaults → PortFaults) (e : Event) : (modFaults p f e).resetHeld = e.resetHeld := rfl
@[simp] theorem modFaults_clock (p : Port) (f : PortFaults → PortFaults) (e : Event) : (modFaults p f e).clock = e.clock := rfl
@[simp] theorem modFaults_page (p : Port) (f : PortFaults → PortFaults) (e : Event) : (modFaults p f e).page = e.page := rfl
@[simp] theorem modFaults_pcie (p : Port) (f : PortFaults → PortFaults) (e : Event) : (modFaults p f e).pcie = e.pcie := rfl
@[simp] theorem modFaults_reads (p : Port) (f : PortFaults → PortFaults) (e : Event) : (modFaults p f e).reads = e.reads := rfl
@[simp] theorem modFaults_cell (p : Port) (f : PortFaults → PortFaults) (e : Event) : (modFaults p f e).cell = e.cell := rfl
@[simp] theorem modFaults_slots (p : Port) (f : PortFaults → PortFaults) (e : Event) : (modFaults p f e).slots = e.slots := rfl
@[simp] theorem modFaults_handed (p : Port) (f : PortFaults → PortFaults) (e : Event) : (modFaults p f e).handed = e.handed := rfl
@[simp] theorem modFaults_budget (p : Port) (f : PortFaults → PortFaults) (e : Event) : (modFaults p f e).budget = e.budget := rfl
@[simp] theorem modFaults_ports (p : Port) (f : PortFaults → PortFaults) (e : Event) : (modFaults p f e).ports = modAt e.ports p fun q => { q with faults := f q.faults } := rfl
@[simp] theorem modFaults_trigger (p : Port) (f : PortFaults → PortFaults) (e : Event) : (modFaults p f e).trigger = e.trigger := rfl
@[simp] theorem modFaults_pool (p : Port) (f : PortFaults → PortFaults) (e : Event) : (modFaults p f e).pool = e.pool := rfl
@[simp] theorem modFaults_faults (p : Port) (f : PortFaults → PortFaults) (e : Event) : (modFaults p f e).faults = e.faults := rfl
@[simp] theorem modFaults_traffic (p : Port) (f : PortFaults → PortFaults) (e : Event) : (modFaults p f e).traffic = e.traffic := rfl
@[simp] theorem modFaults_cableOut (p : Port) (f : PortFaults → PortFaults) (e : Event) : (modFaults p f e).cableOut = e.cableOut := rfl
@[simp] theorem modFaults_free (p : Port) (f : PortFaults → PortFaults) (e : Event) : (modFaults p f e).free = e.free := rfl
@[simp] theorem modFaults_agenda (p : Port) (f : PortFaults → PortFaults) (e : Event) : (modFaults p f e).agenda = e.agenda := rfl
@[simp] theorem modFaults_touched (p : Port) (f : PortFaults → PortFaults) (e : Event) : (modFaults p f e).touched = e.touched := rfl

/-! ### modSlot -/

@[simp] theorem modSlot_pending (n : SlotNo) (f : Slot → Slot) (e : Event) : (modSlot n f e).pending = e.pending := rfl
@[simp] theorem modSlot_powered (n : SlotNo) (f : Slot → Slot) (e : Event) : (modSlot n f e).powered = e.powered := rfl
@[simp] theorem modSlot_resetHeld (n : SlotNo) (f : Slot → Slot) (e : Event) : (modSlot n f e).resetHeld = e.resetHeld := rfl
@[simp] theorem modSlot_clock (n : SlotNo) (f : Slot → Slot) (e : Event) : (modSlot n f e).clock = e.clock := rfl
@[simp] theorem modSlot_page (n : SlotNo) (f : Slot → Slot) (e : Event) : (modSlot n f e).page = e.page := rfl
@[simp] theorem modSlot_pcie (n : SlotNo) (f : Slot → Slot) (e : Event) : (modSlot n f e).pcie = e.pcie := rfl
@[simp] theorem modSlot_reads (n : SlotNo) (f : Slot → Slot) (e : Event) : (modSlot n f e).reads = e.reads := rfl
@[simp] theorem modSlot_cell (n : SlotNo) (f : Slot → Slot) (e : Event) : (modSlot n f e).cell = e.cell := rfl
@[simp] theorem modSlot_slots (n : SlotNo) (f : Slot → Slot) (e : Event) : (modSlot n f e).slots = modAt e.slots n f := rfl
@[simp] theorem modSlot_handed (n : SlotNo) (f : Slot → Slot) (e : Event) : (modSlot n f e).handed = e.handed := rfl
@[simp] theorem modSlot_budget (n : SlotNo) (f : Slot → Slot) (e : Event) : (modSlot n f e).budget = e.budget := rfl
@[simp] theorem modSlot_ports (n : SlotNo) (f : Slot → Slot) (e : Event) : (modSlot n f e).ports = e.ports := rfl
@[simp] theorem modSlot_trigger (n : SlotNo) (f : Slot → Slot) (e : Event) : (modSlot n f e).trigger = e.trigger := rfl
@[simp] theorem modSlot_pool (n : SlotNo) (f : Slot → Slot) (e : Event) : (modSlot n f e).pool = e.pool := rfl
@[simp] theorem modSlot_faults (n : SlotNo) (f : Slot → Slot) (e : Event) : (modSlot n f e).faults = e.faults := rfl
@[simp] theorem modSlot_traffic (n : SlotNo) (f : Slot → Slot) (e : Event) : (modSlot n f e).traffic = e.traffic := rfl
@[simp] theorem modSlot_cableOut (n : SlotNo) (f : Slot → Slot) (e : Event) : (modSlot n f e).cableOut = e.cableOut := rfl
@[simp] theorem modSlot_free (n : SlotNo) (f : Slot → Slot) (e : Event) : (modSlot n f e).free = e.free := rfl
@[simp] theorem modSlot_agenda (n : SlotNo) (f : Slot → Slot) (e : Event) : (modSlot n f e).agenda = e.agenda := rfl
@[simp] theorem modSlot_touched (n : SlotNo) (f : Slot → Slot) (e : Event) : (modSlot n f e).touched = e.touched := rfl

/-! ### modProgram -/

@[simp] theorem modProgram_pending (i : ProgNo) (f : Program → Program) (e : Event) : (modProgram i f e).pending = e.pending := rfl
@[simp] theorem modProgram_powered (i : ProgNo) (f : Program → Program) (e : Event) : (modProgram i f e).powered = e.powered := rfl
@[simp] theorem modProgram_resetHeld (i : ProgNo) (f : Program → Program) (e : Event) : (modProgram i f e).resetHeld = e.resetHeld := rfl
@[simp] theorem modProgram_clock (i : ProgNo) (f : Program → Program) (e : Event) : (modProgram i f e).clock = e.clock := rfl
@[simp] theorem modProgram_page (i : ProgNo) (f : Program → Program) (e : Event) : (modProgram i f e).page = e.page := rfl
@[simp] theorem modProgram_pcie (i : ProgNo) (f : Program → Program) (e : Event) : (modProgram i f e).pcie = e.pcie := rfl
@[simp] theorem modProgram_reads (i : ProgNo) (f : Program → Program) (e : Event) : (modProgram i f e).reads = e.reads := rfl
@[simp] theorem modProgram_cell (i : ProgNo) (f : Program → Program) (e : Event) : (modProgram i f e).cell = e.cell := rfl
@[simp] theorem modProgram_slots (i : ProgNo) (f : Program → Program) (e : Event) : (modProgram i f e).slots = e.slots := rfl
@[simp] theorem modProgram_handed (i : ProgNo) (f : Program → Program) (e : Event) : (modProgram i f e).handed = e.handed := rfl
@[simp] theorem modProgram_budget (i : ProgNo) (f : Program → Program) (e : Event) : (modProgram i f e).budget = e.budget := rfl
@[simp] theorem modProgram_ports (i : ProgNo) (f : Program → Program) (e : Event) : (modProgram i f e).ports = e.ports := rfl
@[simp] theorem modProgram_trigger (i : ProgNo) (f : Program → Program) (e : Event) : (modProgram i f e).trigger = { e.trigger with programs := modAt e.trigger.programs i f } := rfl
@[simp] theorem modProgram_pool (i : ProgNo) (f : Program → Program) (e : Event) : (modProgram i f e).pool = e.pool := rfl
@[simp] theorem modProgram_faults (i : ProgNo) (f : Program → Program) (e : Event) : (modProgram i f e).faults = e.faults := rfl
@[simp] theorem modProgram_traffic (i : ProgNo) (f : Program → Program) (e : Event) : (modProgram i f e).traffic = e.traffic := rfl
@[simp] theorem modProgram_cableOut (i : ProgNo) (f : Program → Program) (e : Event) : (modProgram i f e).cableOut = e.cableOut := rfl
@[simp] theorem modProgram_free (i : ProgNo) (f : Program → Program) (e : Event) : (modProgram i f e).free = e.free := rfl
@[simp] theorem modProgram_agenda (i : ProgNo) (f : Program → Program) (e : Event) : (modProgram i f e).agenda = e.agenda := rfl
@[simp] theorem modProgram_touched (i : ProgNo) (f : Program → Program) (e : Event) : (modProgram i f e).touched = e.touched := rfl

/-! ### modEntry -/

@[simp] theorem modEntry_pending (b : Nat) (f : Entry → Entry) (e : Event) : (modEntry b f e).pending = e.pending := rfl
@[simp] theorem modEntry_powered (b : Nat) (f : Entry → Entry) (e : Event) : (modEntry b f e).powered = e.powered := rfl
@[simp] theorem modEntry_resetHeld (b : Nat) (f : Entry → Entry) (e : Event) : (modEntry b f e).resetHeld = e.resetHeld := rfl
@[simp] theorem modEntry_clock (b : Nat) (f : Entry → Entry) (e : Event) : (modEntry b f e).clock = e.clock := rfl
@[simp] theorem modEntry_page (b : Nat) (f : Entry → Entry) (e : Event) : (modEntry b f e).page = e.page := rfl
@[simp] theorem modEntry_pcie (b : Nat) (f : Entry → Entry) (e : Event) : (modEntry b f e).pcie = e.pcie := rfl
@[simp] theorem modEntry_reads (b : Nat) (f : Entry → Entry) (e : Event) : (modEntry b f e).reads = e.reads := rfl
@[simp] theorem modEntry_cell (b : Nat) (f : Entry → Entry) (e : Event) : (modEntry b f e).cell = e.cell := rfl
@[simp] theorem modEntry_slots (b : Nat) (f : Entry → Entry) (e : Event) : (modEntry b f e).slots = e.slots := rfl
@[simp] theorem modEntry_handed (b : Nat) (f : Entry → Entry) (e : Event) : (modEntry b f e).handed = e.handed := rfl
@[simp] theorem modEntry_budget (b : Nat) (f : Entry → Entry) (e : Event) : (modEntry b f e).budget = e.budget := rfl
@[simp] theorem modEntry_ports (b : Nat) (f : Entry → Entry) (e : Event) : (modEntry b f e).ports = e.ports := rfl
@[simp] theorem modEntry_trigger (b : Nat) (f : Entry → Entry) (e : Event) : (modEntry b f e).trigger = e.trigger := rfl
@[simp] theorem modEntry_pool (b : Nat) (f : Entry → Entry) (e : Event) : (modEntry b f e).pool = { e.pool with entries := modNth e.pool.entries b f } := rfl
@[simp] theorem modEntry_faults (b : Nat) (f : Entry → Entry) (e : Event) : (modEntry b f e).faults = e.faults := rfl
@[simp] theorem modEntry_traffic (b : Nat) (f : Entry → Entry) (e : Event) : (modEntry b f e).traffic = e.traffic := rfl
@[simp] theorem modEntry_cableOut (b : Nat) (f : Entry → Entry) (e : Event) : (modEntry b f e).cableOut = e.cableOut := rfl
@[simp] theorem modEntry_free (b : Nat) (f : Entry → Entry) (e : Event) : (modEntry b f e).free = e.free := rfl
@[simp] theorem modEntry_agenda (b : Nat) (f : Entry → Entry) (e : Event) : (modEntry b f e).agenda = e.agenda := rfl
@[simp] theorem modEntry_touched (b : Nat) (f : Entry → Entry) (e : Event) : (modEntry b f e).touched = e.touched := rfl

/-! ### issue -/

@[simp] theorem issue_pending (t : Traffic) (e : Event) : (issue t e).pending = e.pending := rfl
@[simp] theorem issue_powered (t : Traffic) (e : Event) : (issue t e).powered = e.powered := rfl
@[simp] theorem issue_resetHeld (t : Traffic) (e : Event) : (issue t e).resetHeld = e.resetHeld := rfl
@[simp] theorem issue_clock (t : Traffic) (e : Event) : (issue t e).clock = e.clock := rfl
@[simp] theorem issue_page (t : Traffic) (e : Event) : (issue t e).page = e.page := rfl
@[simp] theorem issue_pcie (t : Traffic) (e : Event) : (issue t e).pcie = e.pcie := rfl
@[simp] theorem issue_reads (t : Traffic) (e : Event) : (issue t e).reads = e.reads := rfl
@[simp] theorem issue_cell (t : Traffic) (e : Event) : (issue t e).cell = e.cell := rfl
@[simp] theorem issue_slots (t : Traffic) (e : Event) : (issue t e).slots = e.slots := rfl
@[simp] theorem issue_handed (t : Traffic) (e : Event) : (issue t e).handed = e.handed := rfl
@[simp] theorem issue_budget (t : Traffic) (e : Event) : (issue t e).budget = e.budget := rfl
@[simp] theorem issue_ports (t : Traffic) (e : Event) : (issue t e).ports = e.ports := rfl
@[simp] theorem issue_trigger (t : Traffic) (e : Event) : (issue t e).trigger = e.trigger := rfl
@[simp] theorem issue_pool (t : Traffic) (e : Event) : (issue t e).pool = e.pool := rfl
@[simp] theorem issue_faults (t : Traffic) (e : Event) : (issue t e).faults = e.faults := rfl
@[simp] theorem issue_traffic (t : Traffic) (e : Event) : (issue t e).traffic = e.traffic ++ [t] := rfl
@[simp] theorem issue_cableOut (t : Traffic) (e : Event) : (issue t e).cableOut = e.cableOut := rfl
@[simp] theorem issue_free (t : Traffic) (e : Event) : (issue t e).free = e.free := rfl
@[simp] theorem issue_agenda (t : Traffic) (e : Event) : (issue t e).agenda = e.agenda := rfl
@[simp] theorem issue_touched (t : Traffic) (e : Event) : (issue t e).touched = e.touched := rfl

/-! ### tell -/

@[simp] theorem tell_pending (t : Task) (e : Event) : (tell t e).pending = e.pending := rfl
@[simp] theorem tell_powered (t : Task) (e : Event) : (tell t e).powered = e.powered := rfl
@[simp] theorem tell_resetHeld (t : Task) (e : Event) : (tell t e).resetHeld = e.resetHeld := rfl
@[simp] theorem tell_clock (t : Task) (e : Event) : (tell t e).clock = e.clock := rfl
@[simp] theorem tell_page (t : Task) (e : Event) : (tell t e).page = e.page := rfl
@[simp] theorem tell_pcie (t : Task) (e : Event) : (tell t e).pcie = e.pcie := rfl
@[simp] theorem tell_reads (t : Task) (e : Event) : (tell t e).reads = e.reads := rfl
@[simp] theorem tell_cell (t : Task) (e : Event) : (tell t e).cell = e.cell := rfl
@[simp] theorem tell_slots (t : Task) (e : Event) : (tell t e).slots = e.slots := rfl
@[simp] theorem tell_handed (t : Task) (e : Event) : (tell t e).handed = e.handed := rfl
@[simp] theorem tell_budget (t : Task) (e : Event) : (tell t e).budget = e.budget := rfl
@[simp] theorem tell_ports (t : Task) (e : Event) : (tell t e).ports = e.ports := rfl
@[simp] theorem tell_trigger (t : Task) (e : Event) : (tell t e).trigger = e.trigger := rfl
@[simp] theorem tell_pool (t : Task) (e : Event) : (tell t e).pool = e.pool := rfl
@[simp] theorem tell_faults (t : Task) (e : Event) : (tell t e).faults = e.faults := rfl
@[simp] theorem tell_traffic (t : Task) (e : Event) : (tell t e).traffic = e.traffic := rfl
@[simp] theorem tell_cableOut (t : Task) (e : Event) : (tell t e).cableOut = e.cableOut := rfl
@[simp] theorem tell_free (t : Task) (e : Event) : (tell t e).free = e.free := rfl
@[simp] theorem tell_agenda (t : Task) (e : Event) : (tell t e).agenda = e.agenda ++ [t] := rfl
@[simp] theorem tell_touched (t : Task) (e : Event) : (tell t e).touched = e.touched := rfl

/-! ### setArea -/

@[simp] theorem setArea_pending (a : Area) (st : AreaState) (e : Event) : (setArea a st e).pending = e.pending := rfl
@[simp] theorem setArea_powered (a : Area) (st : AreaState) (e : Event) : (setArea a st e).powered = e.powered := rfl
@[simp] theorem setArea_resetHeld (a : Area) (st : AreaState) (e : Event) : (setArea a st e).resetHeld = e.resetHeld := rfl
@[simp] theorem setArea_clock (a : Area) (st : AreaState) (e : Event) : (setArea a st e).clock = e.clock := rfl
@[simp] theorem setArea_page (a : Area) (st : AreaState) (e : Event) : (setArea a st e).page = { e.page with areas := putAt e.page.areas (Area.index a) st } := rfl
@[simp] theorem setArea_pcie (a : Area) (st : AreaState) (e : Event) : (setArea a st e).pcie = e.pcie := rfl
@[simp] theorem setArea_reads (a : Area) (st : AreaState) (e : Event) : (setArea a st e).reads = e.reads := rfl
@[simp] theorem setArea_cell (a : Area) (st : AreaState) (e : Event) : (setArea a st e).cell = e.cell := rfl
@[simp] theorem setArea_slots (a : Area) (st : AreaState) (e : Event) : (setArea a st e).slots = e.slots := rfl
@[simp] theorem setArea_handed (a : Area) (st : AreaState) (e : Event) : (setArea a st e).handed = e.handed := rfl
@[simp] theorem setArea_budget (a : Area) (st : AreaState) (e : Event) : (setArea a st e).budget = e.budget := rfl
@[simp] theorem setArea_ports (a : Area) (st : AreaState) (e : Event) : (setArea a st e).ports = e.ports := rfl
@[simp] theorem setArea_trigger (a : Area) (st : AreaState) (e : Event) : (setArea a st e).trigger = e.trigger := rfl
@[simp] theorem setArea_pool (a : Area) (st : AreaState) (e : Event) : (setArea a st e).pool = e.pool := rfl
@[simp] theorem setArea_faults (a : Area) (st : AreaState) (e : Event) : (setArea a st e).faults = e.faults := rfl
@[simp] theorem setArea_traffic (a : Area) (st : AreaState) (e : Event) : (setArea a st e).traffic = e.traffic := rfl
@[simp] theorem setArea_cableOut (a : Area) (st : AreaState) (e : Event) : (setArea a st e).cableOut = e.cableOut := rfl
@[simp] theorem setArea_free (a : Area) (st : AreaState) (e : Event) : (setArea a st e).free = e.free := rfl
@[simp] theorem setArea_agenda (a : Area) (st : AreaState) (e : Event) : (setArea a st e).agenda = e.agenda := rfl
@[simp] theorem setArea_touched (a : Area) (st : AreaState) (e : Event) : (setArea a st e).touched = e.touched := rfl

/-! ### issueRead -/

@[simp] theorem issueRead_pending (c : Channel) (a : Addr) (size : Nat) (e : Event) : (issueRead c a size e).pending = e.pending := rfl
@[simp] theorem issueRead_powered (c : Channel) (a : Addr) (size : Nat) (e : Event) : (issueRead c a size e).powered = e.powered := rfl
@[simp] theorem issueRead_resetHeld (c : Channel) (a : Addr) (size : Nat) (e : Event) : (issueRead c a size e).resetHeld = e.resetHeld := rfl
@[simp] theorem issueRead_clock (c : Channel) (a : Addr) (size : Nat) (e : Event) : (issueRead c a size e).clock = e.clock := rfl
@[simp] theorem issueRead_page (c : Channel) (a : Addr) (size : Nat) (e : Event) : (issueRead c a size e).page = e.page := rfl
@[simp] theorem issueRead_pcie (c : Channel) (a : Addr) (size : Nat) (e : Event) : (issueRead c a size e).pcie = e.pcie := rfl
@[simp] theorem issueRead_reads (c : Channel) (a : Addr) (size : Nat) (e : Event) : (issueRead c a size e).reads = e.reads.issued c := rfl
@[simp] theorem issueRead_cell (c : Channel) (a : Addr) (size : Nat) (e : Event) : (issueRead c a size e).cell = e.cell := rfl
@[simp] theorem issueRead_slots (c : Channel) (a : Addr) (size : Nat) (e : Event) : (issueRead c a size e).slots = e.slots := rfl
@[simp] theorem issueRead_handed (c : Channel) (a : Addr) (size : Nat) (e : Event) : (issueRead c a size e).handed = e.handed := rfl
@[simp] theorem issueRead_budget (c : Channel) (a : Addr) (size : Nat) (e : Event) : (issueRead c a size e).budget = e.budget := rfl
@[simp] theorem issueRead_ports (c : Channel) (a : Addr) (size : Nat) (e : Event) : (issueRead c a size e).ports = e.ports := rfl
@[simp] theorem issueRead_trigger (c : Channel) (a : Addr) (size : Nat) (e : Event) : (issueRead c a size e).trigger = e.trigger := rfl
@[simp] theorem issueRead_pool (c : Channel) (a : Addr) (size : Nat) (e : Event) : (issueRead c a size e).pool = e.pool := rfl
@[simp] theorem issueRead_faults (c : Channel) (a : Addr) (size : Nat) (e : Event) : (issueRead c a size e).faults = e.faults := rfl
@[simp] theorem issueRead_traffic (c : Channel) (a : Addr) (size : Nat) (e : Event) : (issueRead c a size e).traffic = e.traffic ++ [.read e.reads.next a size] := rfl
@[simp] theorem issueRead_cableOut (c : Channel) (a : Addr) (size : Nat) (e : Event) : (issueRead c a size e).cableOut = e.cableOut := rfl
@[simp] theorem issueRead_free (c : Channel) (a : Addr) (size : Nat) (e : Event) : (issueRead c a size e).free = e.free := rfl
@[simp] theorem issueRead_agenda (c : Channel) (a : Addr) (size : Nat) (e : Event) : (issueRead c a size e).agenda = e.agenda := rfl
@[simp] theorem issueRead_touched (c : Channel) (a : Addr) (size : Nat) (e : Event) : (issueRead c a size e).touched = e.touched := rfl

/-! ### The numbers of the reads (log 42) -/

/-- A read that a channel issues gets the next number. -/
@[simp] theorem readNumber_issued (c : Channel) (a : Addr) (size : Nat) (e : Event) :
    readNumber c (issueRead c a size e).toState = e.reads.next := by
  cases c <;> simp [readNumber, issueRead, issue, Reads.issued]

/-- The completion that belongs to a channel is that of its latest read. -/
@[simp] theorem answers_self (c : Channel) (s : State) : answers c (readNumber c s) s = true := by simp [answers]

theorem answers_ne {c : Channel} {n : Nat} {s : State} (h : n ≠ readNumber c s) : answers c n s = false := by
  simp [answers, h]

/-! ### touch -/

@[simp] theorem touch_pending (p : Port) (e : Event) : (touch p e).pending = e.pending := by
  unfold touch; split <;> rfl
@[simp] theorem touch_powered (p : Port) (e : Event) : (touch p e).powered = e.powered := by
  unfold touch; split <;> rfl
@[simp] theorem touch_resetHeld (p : Port) (e : Event) : (touch p e).resetHeld = e.resetHeld := by
  unfold touch; split <;> rfl
@[simp] theorem touch_clock (p : Port) (e : Event) : (touch p e).clock = e.clock := by
  unfold touch; split <;> rfl
@[simp] theorem touch_page (p : Port) (e : Event) : (touch p e).page = e.page := by
  unfold touch; split <;> rfl
@[simp] theorem touch_pcie (p : Port) (e : Event) : (touch p e).pcie = e.pcie := by
  unfold touch; split <;> rfl
@[simp] theorem touch_reads (p : Port) (e : Event) : (touch p e).reads = e.reads := by
  unfold touch; split <;> rfl
@[simp] theorem touch_cell (p : Port) (e : Event) : (touch p e).cell = e.cell := by
  unfold touch; split <;> rfl
@[simp] theorem touch_slots (p : Port) (e : Event) : (touch p e).slots = e.slots := by
  unfold touch; split <;> rfl
@[simp] theorem touch_handed (p : Port) (e : Event) : (touch p e).handed = e.handed := by
  unfold touch; split <;> rfl
@[simp] theorem touch_budget (p : Port) (e : Event) : (touch p e).budget = e.budget := by
  unfold touch; split <;> rfl
@[simp] theorem touch_ports (p : Port) (e : Event) : (touch p e).ports = e.ports := by
  unfold touch; split <;> rfl
@[simp] theorem touch_trigger (p : Port) (e : Event) : (touch p e).trigger = e.trigger := by
  unfold touch; split <;> rfl
@[simp] theorem touch_pool (p : Port) (e : Event) : (touch p e).pool = e.pool := by
  unfold touch; split <;> rfl
@[simp] theorem touch_faults (p : Port) (e : Event) : (touch p e).faults = e.faults := by
  unfold touch; split <;> rfl
@[simp] theorem touch_traffic (p : Port) (e : Event) : (touch p e).traffic = e.traffic := by
  unfold touch; split <;> rfl
@[simp] theorem touch_cableOut (p : Port) (e : Event) : (touch p e).cableOut = e.cableOut := by
  unfold touch; split <;> rfl
@[simp] theorem touch_free (p : Port) (e : Event) : (touch p e).free = e.free := by
  unfold touch; split <;> rfl
@[simp] theorem touch_agenda (p : Port) (e : Event) : (touch p e).agenda = e.agenda := by
  unfold touch; split <;> rfl

end Sys2Proof.Machine
end

