-- ==== Sys2Proof/Laws/Control.lean ====
section
/-! SUPPORT. What the operations of the blocks never change: `control` gathers those parts of the state, and one lemma per
operation says that the operation leaves them as they are. -/

namespace Sys2Proof.Machine

/-- What only the commands themselves change: the queue, time, the numbers of the reads, the hand-off, the cell's mode and sheet, the
filtered lines, the programs, the budget in force, the pool's layout and the break log. -/
structure Control where
  pending : List Instr
  powered : Bool
  resetHeld : Bool
  clock : Nat
  pcie : Pcie
  reads : Reads
  cell : CellCtl
  handed : Option SlotNo
  lo : Word
  hi : Word
  taken : PageTaken
  addr : Addr
  headerReadBy : Option Nat
  releasing : Bool
  hiOwed : Bool
  service : Service
  enc : Bool
  trig : Bool
  motion : Bool
  seenHigh : Bool
  seenLow : Bool
  windowAt : Nat
  encCount : Word
  remainder : Nat
  programs : Vector Program 4
  strobes : Vector (Option Nat) 4
  inForce : Nat
  layout : Option Layout
  log : List BreakRec
  cableOut : List (Port × List Byte)

/-- The control part of the state. -/
def control (s : State) : Control where
  pending := s.pending
  powered := s.powered
  resetHeld := s.resetHeld
  clock := s.clock
  pcie := s.pcie
  reads := s.reads
  cell := s.cell
  handed := s.handed
  lo := s.page.lo
  hi := s.page.hi
  taken := s.page.taken
  addr := s.page.addr
  headerReadBy := s.page.headerReadBy
  releasing := s.page.releasing
  hiOwed := s.page.hiOwed
  service := s.page.service
  enc := s.trigger.enc
  trig := s.trigger.trig
  motion := s.trigger.motion
  seenHigh := s.trigger.seenHigh
  seenLow := s.trigger.seenLow
  windowAt := s.trigger.windowAt
  encCount := s.trigger.encCount
  remainder := s.trigger.remainder
  programs := s.trigger.programs
  strobes := s.trigger.strobes
  inForce := s.budget.inForce
  layout := s.pool.layout
  log := s.faults.log
  cableOut := s.cableOut

/-! ## Updates -/

@[simp] theorem control_modPort (p : Port) (f : PortState → PortState) (e : Event) :
    control (modPort p f e).toState = control e.toState := rfl

@[simp] theorem control_modPower (p : Port) (f : PortPower → PortPower) (e : Event) :
    control (modPower p f e).toState = control e.toState := rfl

@[simp] theorem control_modLink (p : Port) (f : PortLink → PortLink) (e : Event) :
    control (modLink p f e).toState = control e.toState := rfl

@[simp] theorem control_modLens (p : Port) (f : LensRec → LensRec) (e : Event) :
    control (modLens p f e).toState = control e.toState := rfl

@[simp] theorem control_modFaults (p : Port) (f : PortFaults → PortFaults) (e : Event) :
    control (modFaults p f e).toState = control e.toState := rfl

@[simp] theorem control_modSlot (n : SlotNo) (f : Slot → Slot) (e : Event) :
    control (modSlot n f e).toState = control e.toState := rfl

@[simp] theorem control_modEntry (b : Nat) (f : Entry → Entry) (e : Event) :
    control (modEntry b f e).toState = control e.toState := rfl

@[simp] theorem control_tell (t : Task) (e : Event) : control (tell t e).toState = control e.toState := rfl

@[simp] theorem control_touch (p : Port) (e : Event) : control (touch p e).toState = control e.toState := by
  unfold touch; split <;> rfl

@[simp] theorem control_issue (t : Traffic) (e : Event) : control (issue t e).toState = control e.toState := rfl

@[simp] theorem control_setArea (a : Area) (st : AreaState) (e : Event) :
    control (setArea a st e).toState = control e.toState := rfl

/-- A fold of operations that leave the control part as it is. -/
theorem control_foldl {α : Type} (xs : List α) (f : Event → α → Event) (e : Event)
    (h : ∀ x a, control (f x a).toState = control x.toState) : control (xs.foldl f e).toState = control e.toState := by
  induction xs generalizing e with
  | nil => rfl
  | cons a as ih => rw [List.foldl_cons, ih, h]

theorem control_forPorts (ps : List Port) (f : Port → Event → Event) (e : Event)
    (h : ∀ p x, control (f p x).toState = control x.toState) : control (forPorts ps f e).toState = control e.toState :=
  control_foldl _ _ e fun x p => h p x

theorem control_forEntries (f : Nat → Event → Event) (e : Event)
    (h : ∀ b x, control (f b x).toState = control x.toState) : control (forEntries f e).toState = control e.toState :=
  control_foldl _ _ e fun x b => h b x

theorem control_forNumbers (ns : List (Fin 16)) (f : Fin 16 → Event → Event) (e : Event)
    (h : ∀ n x, control (f n x).toState = control x.toState) : control (forNumbers ns f e).toState = control e.toState :=
  control_foldl _ _ e fun x n => h n x

/-! ## Operations -/

@[simp] theorem control_rewriteArea (a : Addr) (count : Word) (body : List Byte) (e : Event) :
    control (rewriteArea a count body e).toState = control e.toState := rfl

@[simp] theorem control_message (e : Event) :
    control (message e).toState = control e.toState := by
  unfold message
  split <;> simp

@[simp] theorem control_setAttention (flags mask : BitVec 14) (e : Event) :
    control (setAttention flags mask e).toState = control e.toState := by
  unfold setAttention
  (try dsimp only)
  (repeat' split)
  all_goals first | (simp; done) | rfl | (simp; rfl)

@[simp] theorem control_raiseFlags (bits : BitVec 14) (e : Event) :
    control (raiseFlags bits e).toState = control e.toState := by
  simp [raiseFlags]

@[simp] theorem control_attend (bits : BitVec 14) (e : Event) :
    control (attend bits e).toState = control e.toState := by
  unfold attend
  split <;> simp

@[simp] theorem control_notice (a : Area) (e : Event) :
    control (notice a e).toState = control e.toState := by
  unfold notice
  split <;> simp

@[simp] theorem control_tellProbe (p : Port) (e : Event) :
    control (tellProbe p e).toState = control e.toState := by
  unfold tellProbe
  split <;> simp

@[simp] theorem control_setPower (p : Port) (st : PowerState) (e : Event) :
    control (setPower p st e).toState = control e.toState := by
  unfold setPower
  split <;> simp

@[simp] theorem control_setLink (p : Port) (st : LinkState) (e : Event) :
    control (setLink p st e).toState = control e.toState := by
  unfold setLink
  split <;> simp

@[simp] theorem control_setLens (p : Port) (st : LensState) (e : Event) :
    control (setLens p st e).toState = control e.toState := by
  unfold setLens
  split <;> simp

@[simp] theorem control_give (p : Port) (k : Packet) (e : Event) :
    control (give p k e).toState = control e.toState := by
  unfold give
  split <;> simp

@[simp] theorem control_writeHeader (e : Event) :
    control (writeHeader e).toState = control e.toState := by
  unfold writeHeader
  split <;> rfl

@[simp] theorem control_writePortReport (p : Port) (e : Event) :
    control (writePortReport p e).toState = control e.toState := by
  unfold writePortReport
  split <;> simp

@[simp] theorem control_reportPort (p : Port) (e : Event) :
    control (reportPort p e).toState = control e.toState := by
  simp [reportPort]

@[simp] theorem control_writeAnswer (n : SlotNo) (e : Event) :
    control (writeAnswer n e).toState = control e.toState := by
  unfold writeAnswer
  split <;> simp

@[simp] theorem control_writeMirror (n : Fin 16) (e : Event) :
    control (writeMirror n e).toState = control e.toState := by
  unfold writeMirror
  split <;> rfl

@[simp] theorem control_writeBuffer (b : Nat) (e : Event) :
    control (writeBuffer b e).toState = control e.toState := by
  unfold writeBuffer
  split <;> simp

@[simp] theorem control_stage (p : Port) (w : Axes) (by' : Server) (e : Event) :
    control (stage p w by' e).toState = control e.toState := by
  simp [stage]

@[simp] theorem control_settleLens (p : Port) (e : Event) :
    control (settleLens p e).toState = control e.toState := by
  unfold settleLens
  dsimp only
  (repeat' split) <;> simp

@[simp] theorem control_lensGranted (p : Port) (e : Event) :
    control (lensGranted p e).toState = control e.toState := by
  unfold lensGranted
  dsimp only
  (repeat' split) <;> simp

@[simp] theorem control_takeStage (e : Event) :
    control (takeStage e).toState = control e.toState := by
  unfold takeStage
  split <;> rfl

@[simp] theorem control_leaveInrush (p : Port) (e : Event) :
    control (leaveInrush p e).toState = control e.toState := rfl

@[simp] theorem control_withdraw (p : Port) (k : ClaimKind) (e : Event) :
    control (withdraw p k e).toState = control e.toState := rfl

@[simp] theorem control_withdrawAll (p : Port) (e : Event) :
    control (withdrawAll p e).toState = control e.toState := rfl

@[simp] theorem control_grant (c : PowerClaim) (e : Event) :
    control (grant c e).toState = control e.toState := by
  unfold grant
  (try dsimp only)
  (repeat' split)
  all_goals first | (simp; done) | rfl | (simp; rfl)

theorem control_walkUpTo (n : Nat) (e : Event) : control (walkUpTo n e).toState = control e.toState := by
  induction n generalizing e with
  | zero => rfl
  | succ n ih =>
    unfold walkUpTo
    split
    · rfl
    · rw [ih, control_grant]; rfl

@[simp] theorem control_walk (e : Event) : control (walk e).toState = control e.toState := control_walkUpTo _ e

@[simp] theorem control_arrive (c : PowerClaim) (e : Event) :
    control (arrive c e).toState = control e.toState := by
  unfold arrive
  (try dsimp only)
  (repeat' split)
  all_goals first | (simp; done) | rfl | (simp; rfl)

@[simp] theorem control_releaseMotion (p : Port) (e : Event) :
    control (releaseMotion p e).toState = control e.toState := by
  unfold releaseMotion
  split <;> simp

@[simp] theorem control_finishSlot (n : SlotNo) (st : SlotState) (r : Reason) (field : Nat) (results : List Byte) (e : Event) :
    control (finishSlot n st r field results e).toState = control e.toState := by
  unfold finishSlot
  split <;> simp

@[simp] theorem control_doneSlot (n : SlotNo) (results : List Byte) (e : Event) :
    control (doneSlot n results e).toState = control e.toState := by
  simp [doneSlot]

@[simp] theorem control_refuseSlot (n : SlotNo) (r : Reason) (e : Event) :
    control (refuseSlot n r e).toState = control e.toState := by
  simp [refuseSlot]

@[simp] theorem control_runSlot (n : SlotNo) (e : Event) :
    control (runSlot n e).toState = control e.toState := by
  simp [runSlot]

@[simp] theorem control_removeHead (p : Port) (e : Event) :
    control (removeHead p e).toState = control e.toState := by
  simp [removeHead]

@[simp] theorem control_endOrder (p : Port) (n : SlotNo) (st : SlotState) (r : Reason) (results : List Byte) (e : Event) :
    control (endOrder p n st r results e).toState = control e.toState := by
  simp [endOrder]

@[simp] theorem control_appendProbe (p : Port) (e : Event) :
    control (appendProbe p e).toState = control e.toState := by
  unfold appendProbe
  split <;> simp

@[simp] theorem control_reserve (b : Nat) (p : Port) (k : BufKind) (e : Event) :
    control (reserve b p k e).toState = control e.toState := by
  simp [reserve]

@[simp] theorem control_countDelivery (x : Entry) (e : Event) :
    control (countDelivery x e).toState = control e.toState := by
  unfold countDelivery
  split <;> simp

@[simp] theorem control_tellIfDrained (p : Port) (e : Event) :
    control (tellIfDrained p e).toState = control e.toState := by
  unfold tellIfDrained
  split <;> simp

@[simp] theorem control_deliver (b : Nat) (o : FrameOutcome) (e : Event) :
    control (deliver b o e).toState = control e.toState := by
  unfold deliver
  split <;> simp

@[simp] theorem control_returnGiven (b : Nat) (e : Event) :
    control (returnGiven b e).toState = control e.toState := by
  unfold returnGiven
  (repeat' split) <;> simp

@[simp] theorem control_loseFrame (p : Port) (b : Nat) (e : Event) :
    control (loseFrame p b e).toState = control e.toState := by
  unfold loseFrame
  (repeat' split) <;> simp

@[simp] theorem control_loseFrames (p : Port) (e : Event) : control (loseFrames p e).toState = control e.toState := by
  have h := control_forEntries (loseFrame p) e (control_loseFrame p)
  unfold loseFrames
  (try dsimp only)
  split <;> simp [h]

@[simp] theorem control_fillData (b o : Nat) (data : List Byte) (e : Event) :
    control (fillData b o data e).toState = control e.toState := by
  unfold fillData
  dsimp only
  (repeat' split) <;> simp

@[simp] theorem control_setStop (e : Event) :
    control (setStop e).toState = control e.toState := by
  unfold setStop
  (try dsimp only)
  (repeat' split)
  all_goals first | (simp; done) | rfl | (simp; rfl)

@[simp] theorem control_clearStopLatch (e : Event) :
    control (clearStopLatch e).toState = control e.toState := by
  unfold clearStopLatch
  (try dsimp only)
  (repeat' split)
  all_goals first | (simp; done) | rfl | (simp; rfl)

@[simp] theorem control_considerProbe (p : Port) (k : FaultKind) (enabled : Bool) (e : Event) :
    control (considerProbe p k enabled e).toState = control e.toState := by
  unfold considerProbe
  (try dsimp only)
  (repeat' split)
  all_goals first | (simp; done) | rfl | (simp; rfl)

@[simp] theorem control_handleFault (p : Port) (k : FaultKind) (e : Event) :
    control (handleFault p k e).toState = control e.toState := by
  unfold handleFault
  (try dsimp only)
  (repeat' split)
  all_goals first | (simp; done) | rfl | (simp; rfl)

@[simp] theorem control_startCooldown (p : Port) (e : Event) :
    control (startCooldown p e).toState = control e.toState := rfl

@[simp] theorem control_markClaims (mine : Requester → Bool) (st : ClaimStatus) (e : Event) :
    control (markClaims mine st e).toState = control e.toState := rfl

@[simp] theorem control_endSnap (p : Port) (st : SlotState) (why : Reason) (results : List Byte) (e : Event) :
    control (endSnap p st why results e).toState = control e.toState := by
  unfold endSnap
  split <;> simp

@[simp] theorem control_loseSnap (p : Port) (why : Reason) (e : Event) :
    control (loseSnap p why e).toState = control e.toState := by
  unfold loseSnap
  split <;> simp

@[simp] theorem control_modSweep (p : Port) (f : SweepRun → SweepRun) (e : Event) :
    control (modSweep p f e).toState = control e.toState := rfl

@[simp] theorem control_recordStep (p : Port) (x : SweepStep) (e : Event) :
    control (recordStep p x e).toState = control e.toState := rfl

@[simp] theorem control_releaseWants (p : Port) (e : Event) :
    control (releaseWants p e).toState = control e.toState := by
  unfold releaseWants
  dsimp only
  (repeat' split) <;> simp

@[simp] theorem control_endSweep (p : Port) (st : SlotState) (why : Reason) (e : Event) :
    control (endSweep p st why e).toState = control e.toState := by
  unfold endSweep
  split <;> simp

@[simp] theorem control_modProbe (p : Port) (f : ProbeRun → ProbeRun) (e : Event) :
    control (modProbe p f e).toState = control e.toState := rfl

@[simp] theorem control_pathField (path : Option ProbePath) (e : Event) :
    control (pathField path e).2.toState = control e.toState := by
  unfold pathField
  split <;> rfl

@[simp] theorem control_resume (p : Port) (e : Event) :
    control (resume p e).toState = control e.toState := by
  unfold resume
  dsimp only
  (repeat' split) <;> simp

@[simp] theorem control_deliverTrace (t : TraceClaim) (completed : Bool) (e : Event) :
    control (deliverTrace t completed e).toState = control e.toState := by
  unfold deliverTrace
  (repeat' split) <;> simp

@[simp] theorem control_reportEnd (p : Port) (job : ProbeJob) (st : SlotState) (why : Reason) (results : List Byte) (e : Event) :
    control (reportEnd p job st why results e).toState = control e.toState := by
  unfold reportEnd
  split <;> simp

@[simp] theorem control_abortProbe (p : Port) (st : SlotState) (why : Reason) (e : Event) :
    control (abortProbe p st why e).toState = control e.toState := by
  unfold abortProbe
  split
  · rfl
  · have h : ∀ (x : Event) cs, control ({ x with pool := { x.pool with claims := cs } } : Event).toState = control x.toState :=
      fun _ _ => rfl
    dsimp only
    rw [control_reportEnd, control_pathField]
    exact (h _ _).trans (by simp)

@[simp] theorem control_reclass (p : Port) (e : Event) :
    control (reclass p e).toState = control e.toState := rfl

@[simp] theorem control_loseLens (p : Port) (dark : Bool) (e : Event) :
    control (loseLens p dark e).toState = control e.toState := by
  simp [loseLens]

@[simp] theorem control_emptyHistories (p : Port) (e : Event) :
    control (emptyHistories p e).toState = control e.toState := rfl

@[simp] theorem control_sweepSpoiled (p : Port) (e : Event) :
    control (sweepSpoiled p e).toState = control e.toState := by
  unfold sweepSpoiled
  (repeat' split) <;> simp

@[simp] theorem control_spoilFrames (p : Port) (e : Event) :
    control (spoilFrames p e).toState = control e.toState := by
  simp [spoilFrames]

@[simp] theorem control_linkDark (p : Port) (e : Event) :
    control (linkDark p e).toState = control e.toState := by
  unfold linkDark
  split <;> simp

@[simp] theorem control_cutProbe (p : Port) (e : Event) :
    control (cutProbe p e).toState = control e.toState := by
  unfold cutProbe
  (repeat' split) <;> simp

@[simp] theorem control_cutOrders (p : Port) (e : Event) :
    control (cutOrders p e).toState = control e.toState := by
  simp [cutOrders]

@[simp] theorem control_fallOrders (p : Port) (e : Event) :
    control (fallOrders p e).toState = control e.toState := by
  unfold fallOrders
  dsimp only
  (repeat' split) <;> simp

@[simp] theorem control_askCamera (p : Port) (e : Event) :
    control (askCamera p e).toState = control e.toState := by
  simp [askCamera]

@[simp] theorem control_linkFall (p : Port) (e : Event) :
    control (linkFall p e).toState = control e.toState := by
  simp [linkFall]

@[simp] theorem control_removePower (p : Port) (why : Removal) (target : PowerState) (e : Event) :
    control (removePower p why target e).toState = control e.toState := by
  unfold removePower
  dsimp only
  (repeat' split) <;> simp

@[simp] theorem control_owe (p : Port) (e : Event) :
    control (owe p e).toState = control e.toState := rfl

@[simp] theorem control_powerUp (p : Port) (e : Event) :
    control (powerUp p e).toState = control e.toState := by
  simp [powerUp]

@[simp] theorem control_offerPowerUp (p : Port) (e : Event) :
    control (offerPowerUp p e).toState = control e.toState := by
  unfold offerPowerUp
  dsimp only
  (repeat' split) <;> simp

@[simp] theorem control_enterStandby (p : Port) (e : Event) :
    control (enterStandby p e).toState = control e.toState := by
  simp [enterStandby]

@[simp] theorem control_tryStandby (p : Port) (e : Event) :
    control (tryStandby p e).toState = control e.toState := by
  unfold tryStandby
  dsimp only
  (repeat' split) <;> simp

@[simp] theorem control_tryWake (p : Port) (e : Event) :
    control (tryWake p e).toState = control e.toState := by
  unfold tryWake
  split <;> simp

@[simp] theorem control_wantPowerOff (p : Port) (e : Event) :
    control (wantPowerOff p e).toState = control e.toState := by
  unfold wantPowerOff
  (repeat' split) <;> first | rfl | simp

@[simp] theorem control_leaveRetry (p : Port) (e : Event) :
    control (leaveRetry p e).toState = control e.toState := by
  simp [leaveRetry]

@[simp] theorem control_retryUp (p : Port) (e : Event) :
    control (retryUp p e).toState = control e.toState := by
  unfold retryUp
  split <;> simp

@[simp] theorem control_releaseHeld (p : Port) (e : Event) :
    control (releaseHeld p e).toState = control e.toState := by
  unfold releaseHeld
  split <;> simp

@[simp] theorem control_actOnWant (p : Port) (e : Event) :
    control (actOnWant p e).toState = control e.toState := by
  unfold actOnWant
  dsimp only
  (repeat' split) <;> simp

@[simp] theorem control_countTrip (p : Port) (e : Event) :
    control (countTrip p e).toState = control e.toState := rfl

@[simp] theorem control_enterAction (p : Port) (st : PowerState) (e : Event) :
    control (enterAction p st e).toState = control e.toState := by
  simp [enterAction]

@[simp] theorem control_applyAction (p : Port) (a : Action) (e : Event) :
    control (applyAction p a e).toState = control e.toState := by
  unfold applyAction
  dsimp only
  (repeat' split) <;> simp

@[simp] theorem control_powerFault (p : Port) (k : FaultKind) (e : Event) :
    control (powerFault p k e).toState = control e.toState := by
  simp [powerFault]

@[simp] theorem control_classRaise (p : Port) (maxPower : Nat) (e : Event) :
    control (classRaise p maxPower e).toState = control e.toState := by
  unfold classRaise
  dsimp only
  (repeat' split) <;> simp

@[simp] theorem control_judgeCurrent (p : Port) (e : Event) :
    control (judgeCurrent p e).toState = control e.toState := by
  unfold judgeCurrent
  dsimp only
  (repeat' split) <;> simp

@[simp] theorem control_skipReason (k : Skip) (e : Event) :
    control (skipReason k e).2.toState = control e.toState := by
  unfold skipReason
  split <;> rfl

@[simp] theorem control_snapSkipped (p : Port) (n : SlotNo) (k : Skip) (e : Event) :
    control (snapSkipped p n k e).toState = control e.toState := by
  unfold snapSkipped
  dsimp only
  (repeat' split) <;> simp

@[simp] theorem control_sweepSkipped (p : Port) (n : SlotNo) (e : Event) :
    control (sweepSkipped p n e).toState = control e.toState := by
  unfold sweepSkipped
  (repeat' split) <;> simp

@[simp] theorem control_skip (p : Port) (r : Requester) (k : Skip) (e : Event) :
    control (skip p r k e).toState = control e.toState := by
  unfold skip
  split <;> simp

@[simp] theorem control_fired (p : Port) (r : Requester) (tag : Half) (b : Nat) (e : Event) :
    control (fired p r tag b e).toState = control e.toState := by
  unfold fired
  split <;> simp

@[simp] theorem control_fire (p : Port) (r : Requester) (exposure b : Nat) (e : Event) :
    control (fire p r exposure b e).toState = control e.toState := by
  unfold fire
  (try dsimp only)
  (repeat' split)
  all_goals first | (simp; done) | rfl | (simp; rfl)

@[simp] theorem control_decideFire (p : Port) (r : Requester) (exposure : Nat) (e : Event) :
    control (decideFire p r exposure e).toState = control e.toState := by
  unfold decideFire
  (try dsimp only)
  (repeat' split)
  all_goals first | (simp; done) | rfl | (simp; rfl)

@[simp] theorem control_takeTrace (b : Nat) (p : Port) (e : Event) :
    control (takeTrace b p e).toState = control e.toState := by
  simp [takeTrace]

@[simp] theorem control_traceAnswer (p : Port) (t : TraceClaim) (e : Event) :
    control (traceAnswer p t e).toState = control e.toState := rfl

@[simp] theorem control_claimTrace (p : Port) (e : Event) :
    control (claimTrace p e).toState = control e.toState := by
  unfold claimTrace
  (try dsimp only)
  (repeat' split)
  all_goals first | (simp; done) | rfl | (simp; rfl)

@[simp] theorem control_rejudgeDropped (c : BufClaim) (k : BufKind) (e : Event) :
    control (rejudgeDropped c k e).toState = control e.toState := by
  unfold rejudgeDropped
  (repeat' split) <;> simp

@[simp] theorem control_rejudgeClaim (c : BufClaim) (e : Event) :
    control (rejudgeClaim c e).toState = control e.toState := by
  unfold rejudgeClaim
  (repeat' split) <;> simp

@[simp] theorem control_rejudgeClaims (e : Event) : control (rejudgeClaims e).toState = control e.toState :=
  control_foldl _ _ _ fun x c => control_rejudgeClaim c x

@[simp] theorem control_claimMotion (p : Port) (e : Event) :
    control (claimMotion p e).toState = control e.toState := by
  simp [claimMotion]

@[simp] theorem control_claimOnce (p : Port) (e : Event) :
    control (claimOnce p e).toState = control e.toState := by
  unfold claimOnce
  dsimp only
  (repeat' split) <;> simp

@[simp] theorem control_lensTest (p : Port) (e : Event) :
    control (lensTest p e).toState = control e.toState := by
  unfold lensTest
  dsimp only
  (repeat' split) <;> simp

@[simp] theorem control_unclaim (p : Port) (e : Event) :
    control (unclaim p e).toState = control e.toState := by
  simp [unclaim]

@[simp] theorem control_rejudgeLens (p : Port) (e : Event) :
    control (rejudgeLens p e).toState = control e.toState := by
  unfold rejudgeLens
  dsimp only
  (repeat' split) <;> simp

@[simp] theorem control_lensProbeBegins (p : Port) (e : Event) :
    control (lensProbeBegins p e).toState = control e.toState := by
  unfold lensProbeBegins
  split <;> simp

@[simp] theorem control_takeWant (p : Port) (w : Axes) (e : Event) :
    control (takeWant p w e).toState = control e.toState := by
  unfold takeWant
  (repeat' split) <;> simp

@[simp] theorem control_greetLens (p : Port) (k : LensKind) (h : HelloPacket) (e : Event) :
    control (greetLens p k h e).toState = control e.toState := by
  simp [greetLens]

@[simp] theorem control_takeReport (p : Port) (l : LensPacket) (e : Event) :
    control (takeReport p l e).toState = control e.toState := rfl

@[simp] theorem control_endMove (p : Port) (l : LensPacket) (e : Event) :
    control (endMove p l e).toState = control e.toState := by
  simp [endMove]

@[simp] theorem control_lensReport (p : Port) (l : LensPacket) (e : Event) :
    control (lensReport p l e).toState = control e.toState := by
  unfold lensReport
  (repeat' split) <;> simp

@[simp] theorem control_stuckLens (p : Port) (e : Event) :
    control (stuckLens p e).toState = control e.toState := by
  simp [stuckLens]

@[simp] theorem control_beginSweep (p : Port) (n : SlotNo) (params : SweepParams) (e : Event) :
    control (beginSweep p n params e).toState = control e.toState := by
  unfold beginSweep
  dsimp only
  (repeat' split) <;> simp

@[simp] theorem control_fireStep (p : Port) (w : SweepRun) (e : Event) :
    control (fireStep p w e).toState = control e.toState := by
  simp [fireStep]

@[simp] theorem control_stageFocus (p : Port) (target : Nat) (ph : SweepPhase) (e : Event) :
    control (stageFocus p target ph e).toState = control e.toState := by
  simp [stageFocus]

@[simp] theorem control_concludeSweep (p : Port) (w : SweepRun) (e : Event) :
    control (concludeSweep p w e).toState = control e.toState := by
  unfold concludeSweep
  (repeat' split) <;> simp

@[simp] theorem control_advanceSweep (p : Port) (e : Event) :
    control (advanceSweep p e).toState = control e.toState := by
  unfold advanceSweep
  dsimp only
  (repeat' split) <;> simp

@[simp] theorem control_beginSnap (p : Port) (n : SlotNo) (exposure : Nat) (e : Event) :
    control (beginSnap p n exposure e).toState = control e.toState := by
  simp [beginSnap]

@[simp] theorem control_beginCycle (p : Port) (n : SlotNo) (e : Event) :
    control (beginCycle p n e).toState = control e.toState := by
  unfold beginCycle
  dsimp only
  (repeat' split) <;> simp

@[simp] theorem control_endCycle (p : Port) (st : SlotState) (why : Reason) (e : Event) :
    control (endCycle p st why e).toState = control e.toState := by
  unfold endCycle
  dsimp only
  (repeat' split) <;> simp

@[simp] theorem control_beginProbe (p : Port) (job : ProbeJob) (requireRef force : Bool) (e : Event) :
    control (beginProbe p job requireRef force e).toState = control e.toState := by
  unfold beginProbe
  dsimp only
  (repeat' split) <;> simp

@[simp] theorem control_requestHush (p : Port) (e : Event) :
    control (requestHush p e).toState = control e.toState := by
  unfold requestHush
  split <;> simp

@[simp] theorem control_drainTest (p : Port) (e : Event) :
    control (drainTest p e).toState = control e.toState := by
  unfold drainTest
  split <;> simp

@[simp] theorem control_drainIfDraining (p : Port) (e : Event) :
    control (drainIfDraining p e).toState = control e.toState := by
  unfold drainIfDraining
  (repeat' split) <;> simp

@[simp] theorem control_toClaiming (p : Port) (path : ProbePath) (e : Event) :
    control (toClaiming p path e).toState = control e.toState := rfl

@[simp] theorem control_classPort (p : Port) (e : Event) :
    control (classPort p e).toState = control e.toState := by
  unfold classPort
  dsimp only
  (repeat' split) <;> simp

@[simp] theorem control_claimPhase (p : Port) (r : ProbeRun) (e : Event) :
    control (claimPhase p r e).toState = control e.toState := by
  unfold claimPhase
  (repeat' split) <;> simp

@[simp] theorem control_advanceProbe (p : Port) (e : Event) :
    control (advanceProbe p e).toState = control e.toState := by
  unfold advanceProbe
  (repeat' split) <;> simp

@[simp] theorem control_beginOrder (p : Port) (n : SlotNo) (o : Order) (e : Event) :
    control (beginOrder p n o e).toState = control e.toState := by
  unfold beginOrder
  (repeat' split) <;> simp

@[simp] theorem control_beginHead (p : Port) (e : Event) :
    control (beginHead p e).toState = control e.toState := by
  unfold beginHead
  dsimp only
  (repeat' split) <;> simp

@[simp] theorem control_actOnOwed (p : Port) (e : Event) :
    control (actOnOwed p e).toState = control e.toState := by
  unfold actOnOwed
  split <;> simp

@[simp] theorem control_perform (t : Task) (e : Event) :
    control (perform t e).toState = control e.toState := by
  unfold perform
  (repeat' split) <;> simp

@[simp] theorem control_drain (n : Nat) (e : Event) : control (drain n e).toState = control e.toState := by
  induction n generalizing e with
  | zero => rfl
  | succ n ih =>
    unfold drain
    split
    · rfl
    · rw [ih, control_perform]

@[simp] theorem control_flush (e : Event) : control (flush e).toState = control e.toState :=
  control_forPorts _ reportPort e fun p x => control_reportPort p x

@[simp] theorem control_finish (e : Event) :
    control (finish e).toState = control e.toState := by
  simp [finish]


theorem control_after (f : Event → Event) (s : State) : control (after f s) = control (f (Event.of s)).toState := control_finish _

@[simp] theorem control_powerDown (why : Removal) (p : Port) (e : Event) :
    control (powerDown why p e).toState = control e.toState := by
  unfold powerDown
  dsimp only
  (repeat' split) <;> simp

@[simp] theorem control_poolShare (b : Nat) (e : Event) :
    control (poolShare b e).toState = control e.toState := by
  unfold poolShare
  (repeat' split) <;> simp

@[simp] theorem control_answerClaims (e : Event) : control (answerClaims e).toState = control e.toState :=
  control_foldl _ _ _ fun x _ => control_rejudgeClaim _ x

@[simp] theorem control_clearRuns (p : Port) (e : Event) :
    control (clearRuns p e).toState = control e.toState := rfl

@[simp] theorem control_haltedResults (p : Port) (e : Event) :
    control (haltedResults p e).2.toState = control e.toState := by
  unfold haltedResults
  dsimp only
  (repeat' split) <;> simp

@[simp] theorem control_haltEntry (results : List Byte) (x : QEntry) (e : Event) :
    control (haltEntry results x e).toState = control e.toState := by
  unfold haltEntry
  split <;> simp

@[simp] theorem control_haltQueue (p : Port) (e : Event) : control (haltQueue p e).toState = control e.toState := by
  have h : ∀ r (l : List QEntry) (x : Event), control (l.foldl (fun acc y => haltEntry r y acc) x).toState = control x.toState :=
    fun r l x => control_foldl _ _ _ fun x y => control_haltEntry r y x
  unfold haltQueue
  (try dsimp only)
  split <;> simp [h]

@[simp] theorem control_countReadError (e : Event) :
    control (countReadError e).toState = control e.toState := by
  unfold countReadError
  (try dsimp only)
  all_goals first | (simp; done) | rfl | (simp; rfl)

@[simp] theorem control_loseTrace (p : Port) (e : Event) :
    control (loseTrace p e).toState = control e.toState := rfl

@[simp] theorem control_setupAtTake (p : Port) (e : Event) :
    control (setupAtTake p e).toState = control e.toState := by
  unfold setupAtTake
  split <;> simp

@[simp] theorem control_takePortSheet (p : Port) (s : PortSheet) (e : Event) :
    control (takePortSheet p s e).toState = control e.toState := by
  simp [takePortSheet]

@[simp] theorem control_dealPortSheet (p : Port) (bytes : List Byte) (e : Event) :
    control (dealPortSheet p bytes e).toState = control e.toState := by
  unfold dealPortSheet
  dsimp only
  (repeat' split) <;> simp

@[simp] theorem control_joinQueue (p : Port) (n : SlotNo) (e : Event) :
    control (joinQueue p n e).toState = control e.toState := by
  unfold joinQueue
  split <;> simp

@[simp] theorem control_dealBuffer (b : Nat) (bytes : List Byte) (e : Event) :
    control (dealBuffer b bytes e).toState = control e.toState := by
  have h : ∀ (x : Event) n, control ({ x with pool := { x.pool with handErrors := n } } : Event).toState = control x.toState :=
    fun _ _ => rfl
  unfold dealBuffer
  dsimp only
  (repeat' split) <;> simp [h]

@[simp] theorem control_restartSilence (p : Port) (e : Event) :
    control (restartSilence p e).toState = control e.toState := rfl

@[simp] theorem control_takeBad (p : Port) (e : Event) :
    control (takeBad p e).toState = control e.toState := by
  unfold takeBad
  split <;> rfl

theorem control_uplink (p : Port) (ok : Bool) (f : Event → Event) (e : Event)
    (h : ∀ x, control (f x).toState = control x.toState) : control (uplink p ok f e).toState = control e.toState := by
  unfold uplink
  (repeat' split) <;> simp [h]

@[simp] theorem control_settingsAtHello (p : Port) (e : Event) :
    control (settingsAtHello p e).toState = control e.toState := by
  unfold settingsAtHello
  dsimp only
  (repeat' split) <;> simp

@[simp] theorem control_enterTalk (p : Port) (e : Event) :
    control (enterTalk p e).toState = control e.toState := by
  simp [enterTalk]

@[simp] theorem control_takeHello (p : Port) (k : LensKind) (h : HelloPacket) (e : Event) :
    control (takeHello p k h e).toState = control e.toState := by
  unfold takeHello
  dsimp only
  (repeat' split) <;> simp

@[simp] theorem control_snapDelivered (p : Port) (b : Nat) (tag : Half) (e : Event) :
    control (snapDelivered p b tag e).toState = control e.toState := by
  unfold snapDelivered
  (repeat' split) <;> simp

@[simp] theorem control_snapReturned (p : Port) (b : Nat) (tag : Half) (e : Event) :
    control (snapReturned p b tag e).toState = control e.toState := by
  unfold snapReturned
  (repeat' split) <;> simp

@[simp] theorem control_sweepFrame (p : Port) (b : Nat) (tag : Half) (delivered : Bool) (e : Event) :
    control (sweepFrame p b tag delivered e).toState = control e.toState := by
  unfold sweepFrame
  (repeat' split) <;> simp

@[simp] theorem control_frameEnded (p : Port) (b : Nat) (x : Entry) (delivered : Bool) (e : Event) :
    control (frameEnded p b x delivered e).toState = control e.toState := by
  unfold frameEnded
  (repeat' split) <;> simp

@[simp] theorem control_deliverFrame (p : Port) (b : Nat) (o : FrameOutcome) (e : Event) :
    control (deliverFrame p b o e).toState = control e.toState := by
  unfold deliverFrame
  split <;> simp

@[simp] theorem control_countStray (p : Port) (e : Event) :
    control (countStray p e).toState = control e.toState := rfl

@[simp] theorem control_snapOpened (p : Port) (b : Nat) (tag : Half) (e : Event) :
    control (snapOpened p b tag e).toState = control e.toState := rfl

@[simp] theorem control_openFrame (p : Port) (tag width height : Half) (d : Depth) (e : Event) :
    control (openFrame p tag width height d e).toState = control e.toState := by
  unfold openFrame
  (repeat' split) <;> simp

@[simp] theorem control_dataFrame (p : Port) (tag : Half) (o : Word) (data : List Byte) (e : Event) :
    control (dataFrame p tag o data e).toState = control e.toState := by
  unfold dataFrame
  split <;> simp

@[simp] theorem control_closeFrame (p : Port) (tag : Half) (total : Word) (status : Byte) (e : Event) :
    control (closeFrame p tag total status e).toState = control e.toState := by
  unfold closeFrame
  split <;> simp

@[simp] theorem control_zeroWindows (p : Port) (e : Event) :
    control (zeroWindows p e).toState = control e.toState := rfl

@[simp] theorem control_writeNotice (v : Word) (e : Event) : control (writeNotice v e).toState = control e.toState :=
  control_foldl _ _ _ fun x a => control_notice a.2 x

@[simp] theorem control_clearAttention (v : Word) (e : Event) :
    control (clearAttention v e).toState = control e.toState := by
  simp [clearAttention]

@[simp] theorem control_writeMask (v : Word) (e : Event) :
    control (writeMask v e).toState = control e.toState := by
  simp [writeMask]

@[simp] theorem control_showMode (e : Event) :
    control (showMode e).toState = control e.toState := by
  simp [showMode]

@[simp] theorem control_startSlot (n : SlotNo) (e : Event) :
    control (startSlot n e).toState = control e.toState := by
  simp [startSlot]

@[simp] theorem control_stopSnap (p : Port) (r : SnapRun) (e : Event) :
    control (stopSnap p r e).toState = control e.toState := by
  unfold stopSnap
  (repeat' split) <;> simp

@[simp] theorem control_stopSweep (p : Port) (w : SweepRun) (e : Event) :
    control (stopSweep p w e).toState = control e.toState := by
  unfold stopSweep
  dsimp only
  (repeat' split) <;> simp

@[simp] theorem control_stopProbe (p : Port) (r : ProbeRun) (e : Event) :
    control (stopProbe p r e).toState = control e.toState := by
  unfold stopProbe
  split <;> simp

@[simp] theorem control_stopRunning (p : Port) (e : Event) :
    control (stopRunning p e).toState = control e.toState := by
  unfold stopRunning
  dsimp only
  (repeat' split) <;> simp

@[simp] theorem control_cancelQueued (p : Port) (t : SlotNo) (e : Event) :
    control (cancelQueued p t e).toState = control e.toState := by
  unfold cancelQueued
  dsimp only
  (repeat' split) <;> simp

@[simp] theorem control_carryCancel (n t : SlotNo) (e : Event) :
    control (carryCancel n t e).toState = control e.toState := by
  unfold carryCancel
  dsimp only
  (repeat' split) <;> simp

@[simp] theorem control_endLoad (n : SlotNo) (p : Port) (bytes : List Byte) (e : Event) :
    control (endLoad n p bytes e).toState = control e.toState := by
  unfold endLoad
  split <;> simp

@[simp] theorem control_carrySave (n : SlotNo) (p : Port) (a : Addr) (e : Event) :
    control (carrySave n p a e).toState = control e.toState := by
  unfold carrySave
  split <;> simp

@[simp] theorem control_carryClearFaults (n : SlotNo) (p : Port) (e : Event) :
    control (carryClearFaults n p e).toState = control e.toState := by
  unfold carryClearFaults
  dsimp only
  (repeat' split) <;> simp

@[simp] theorem control_carryClearLockout (n : SlotNo) (p : Port) (e : Event) :
    control (carryClearLockout n p e).toState = control e.toState := by
  unfold carryClearLockout
  split <;> simp

@[simp] theorem control_endFailedHush (x : SentAction) (rest : List SentAction) (e : Event) :
    control (endFailedHush x rest e).toState = control e.toState := by
  unfold endFailedHush
  split <;> simp

@[simp] theorem control_writeTrace (r : ProbeRun) (a : List Int) (e : Event) :
    control (writeTrace r a e).toState = control e.toState := by
  unfold writeTrace
  split <;> simp

end Sys2Proof.Machine
end

