-- ==== Sys2Proof/Laws/Events.lean ====
section
/-! SUPPORT. The frame of a command: `act` on a live part, and the end of an event whose agenda is empty. -/

namespace Sys2Proof.Machine

/-- On a live part a command answers the state after its event. -/
theorem act_live {f : Event → Event} {s : State} (h : live s = true) : act f s = .next (after f s) := by
  simp [act, h]

/-- A part that is unpowered or held in reset is left as it is. -/
theorem act_held {f : Event → Event} {s : State} (h : live s = false) : act f s = .next s := by
  simp [act, h]

/-- Whatever the part's state, the command answers a next state. -/
theorem act_next (f : Event → Event) (s : State) : ∃ t, act f s = .next t := ⟨_, rfl⟩

/-! ## The end of an event -/

theorem drain_empty {n : Nat} {e : Event} (h : e.agenda = []) : drain n e = { e with agenda := [] } := by
  cases n with
  | zero => rfl
  | succ n =>
    unfold drain
    rw [h]
    cases e; simp_all

theorem filter_contains_single (p : Port) : allPorts.filter (fun q => [p].contains q) = [p] := by
  revert p; decide

/-- An event that tells nothing and marks nothing ends as it stands. -/
theorem after_plain {f : Event → Event} {s : State} (ha : (f (Event.of s)).agenda = [])
    (ht : (f (Event.of s)).touched = []) : after f s = (f (Event.of s)).toState := by
  unfold after finish flush
  rw [drain_empty ha]
  simp [forPorts, ht]

theorem reportPort_toState (p : Port) (e e' : Event) (h : e.toState = e'.toState) :
    (reportPort p e).toState = (reportPort p e').toState := by
  simp only [reportPort, attend, writePortReport, Event.port, h]
  split <;> simp [raiseFlags, setAttention, message, rewriteArea, issue, modPort, h] <;> (repeat' split) <;> simp_all

theorem forPorts_toState (ps : List Port) (f : Port → Event → Event) (e e' : Event) (he : e.toState = e'.toState)
    (h : ∀ p x y, x.toState = y.toState → (f p x).toState = (f p y).toState) :
    (forPorts ps f e).toState = (forPorts ps f e').toState := by
  unfold forPorts
  induction ps generalizing e e' with
  | nil => exact he
  | cons p ps ih => exact ih _ _ (h p e e' he)

/-- An event that tells nothing ends with the report parts of the ports it marked. -/
theorem after_marked {f : Event → Event} {s : State} (ha : (f (Event.of s)).agenda = []) :
    after f s = (f (Event.of s)).toState.reported (allPorts.filter fun p => (f (Event.of s)).touched.contains p) := by
  unfold after finish flush State.reported
  rw [drain_empty ha]
  exact forPorts_toState _ _ _ _ rfl reportPort_toState

/-- With one port marked. -/
theorem after_port {f : Event → Event} {s : State} {p : Port} (ha : (f (Event.of s)).agenda = [])
    (ht : (f (Event.of s)).touched = [p]) : after f s = (f (Event.of s)).toState.reported [p] := by
  rw [after_marked ha, ht, filter_contains_single]

/-- An event that tells nothing and marks nothing: the command answers the state it makes. -/
theorem act_plain {f : Event → Event} {s t : State} (h : live s = true) (hf : f (Event.of s) = Event.of t) :
    act f s = .next t := by
  rw [act_live h, after_plain] <;> rw [hf] <;> rfl

/-- An event that tells nothing and marks port p: the command answers the state with that port's report part rewritten. -/
theorem act_port {f : Event → Event} {s t : State} {p : Port} (h : live s = true)
    (hf : f (Event.of s) = { Event.of t with touched := [p] }) : act f s = .next (t.reported [p]) := by
  rw [act_live h, after_port (p := p)] <;> rw [hf] <;> rfl

end Sys2Proof.Machine
end

