-- ==== Sys2Proof/Laws/Agenda.lean ====
section
/-! SUPPORT. The operations that tell no block anything and mark no port: one lemma each for the agenda and for the marks. -/

namespace Sys2Proof.Machine

/-- An event that tells nothing and marks nothing is that of its state. -/
theorem of_toState {e : Event} (ha : e.agenda = []) (ht : e.touched = []) : Event.of e.toState = e := by
  cases e; simp_all [Event.of]

@[simp] theorem of_agenda (s : State) : (Event.of s).agenda = [] := rfl
@[simp] theorem of_touched (s : State) : (Event.of s).touched = [] := rfl
@[simp] theorem of_state (s : State) : (Event.of s).toState = s := rfl

/-- Different areas stand at different places. -/
theorem index_ne {a b : Area} (h : b ≠ a) : Area.index b ≠ Area.index a := by
  intro hi
  apply h
  have hv : (Area.index b).val = (Area.index a).val := congrArg Fin.val hi
  cases a <;> cases b <;> simp only [Area.index] at hv <;> first | rfl | (simp at hv; omega) | skip
  all_goals first | (congr 1; apply Fin.ext; omega) | omega

theorem forNumbers_agenda (ns : List (Fin 16)) (f : Fin 16 → Event → Event) (e : Event)
    (h : ∀ n x, (f n x).agenda = x.agenda) : (forNumbers ns f e).agenda = e.agenda := by
  unfold forNumbers
  induction ns generalizing e with
  | nil => rfl
  | cons n ns ih => rw [List.foldl_cons, ih, h]

theorem forNumbers_touched (ns : List (Fin 16)) (f : Fin 16 → Event → Event) (e : Event)
    (h : ∀ n x, (f n x).touched = x.touched) : (forNumbers ns f e).touched = e.touched := by
  unfold forNumbers
  induction ns generalizing e with
  | nil => rfl
  | cons n ns ih => rw [List.foldl_cons, ih, h]

/-! ## Operations -/

@[simp] theorem rewriteArea_agenda (a : Addr) (count : Word) (body : List Byte) (e : Event) : (rewriteArea a count body e).agenda = e.agenda := rfl

@[simp] theorem rewriteArea_touched (a : Addr) (count : Word) (body : List Byte) (e : Event) : (rewriteArea a count body e).touched = e.touched := rfl

@[simp] theorem message_agenda (e : Event) : (message e).agenda = e.agenda := by
  unfold message
  split <;> rfl

@[simp] theorem message_touched (e : Event) : (message e).touched = e.touched := by
  unfold message
  split <;> rfl

@[simp] theorem setAttention_agenda (flags mask : BitVec 14) (e : Event) : (setAttention flags mask e).agenda = e.agenda := by
  unfold setAttention
  split <;> simp

@[simp] theorem setAttention_touched (flags mask : BitVec 14) (e : Event) : (setAttention flags mask e).touched = e.touched := by
  unfold setAttention
  split <;> simp

@[simp] theorem raiseFlags_agenda (bits : BitVec 14) (e : Event) : (raiseFlags bits e).agenda = e.agenda := by
  simp [raiseFlags]

@[simp] theorem raiseFlags_touched (bits : BitVec 14) (e : Event) : (raiseFlags bits e).touched = e.touched := by
  simp [raiseFlags]

@[simp] theorem attend_agenda (bits : BitVec 14) (e : Event) : (attend bits e).agenda = e.agenda := by
  unfold attend
  split <;> simp

@[simp] theorem attend_touched (bits : BitVec 14) (e : Event) : (attend bits e).touched = e.touched := by
  unfold attend
  split <;> simp

@[simp] theorem notice_agenda (a : Area) (e : Event) : (notice a e).agenda = e.agenda := by
  unfold notice
  split <;> rfl

@[simp] theorem notice_touched (a : Area) (e : Event) : (notice a e).touched = e.touched := by
  unfold notice
  split <;> rfl

@[simp] theorem give_agenda (p : Port) (k : Packet) (e : Event) : (give p k e).agenda = e.agenda := by
  unfold give
  split <;> rfl

@[simp] theorem give_touched (p : Port) (k : Packet) (e : Event) : (give p k e).touched = e.touched := by
  unfold give
  split <;> rfl

@[simp] theorem writeHeader_agenda (e : Event) : (writeHeader e).agenda = e.agenda := by
  unfold writeHeader
  split <;> rfl

@[simp] theorem writeHeader_touched (e : Event) : (writeHeader e).touched = e.touched := by
  unfold writeHeader
  split <;> rfl

@[simp] theorem writePortReport_agenda (p : Port) (e : Event) : (writePortReport p e).agenda = e.agenda := by
  unfold writePortReport
  split <;> rfl

@[simp] theorem writePortReport_touched (p : Port) (e : Event) : (writePortReport p e).touched = e.touched := by
  unfold writePortReport
  split <;> rfl

@[simp] theorem reportPort_agenda (p : Port) (e : Event) : (reportPort p e).agenda = e.agenda := by
  simp [reportPort]

@[simp] theorem reportPort_touched (p : Port) (e : Event) : (reportPort p e).touched = e.touched := by
  simp [reportPort]

@[simp] theorem writeAnswer_agenda (n : SlotNo) (e : Event) : (writeAnswer n e).agenda = e.agenda := by
  unfold writeAnswer
  split <;> rfl

@[simp] theorem writeAnswer_touched (n : SlotNo) (e : Event) : (writeAnswer n e).touched = e.touched := by
  unfold writeAnswer
  split <;> rfl

@[simp] theorem writeMirror_agenda (n : Fin 16) (e : Event) : (writeMirror n e).agenda = e.agenda := by
  unfold writeMirror
  split <;> rfl

@[simp] theorem writeMirror_touched (n : Fin 16) (e : Event) : (writeMirror n e).touched = e.touched := by
  unfold writeMirror
  split <;> rfl

@[simp] theorem zeroMirror_agenda (n : Fin 16) (e : Event) : (zeroMirror n e).agenda = e.agenda := rfl

@[simp] theorem zeroMirror_touched (n : Fin 16) (e : Event) : (zeroMirror n e).touched = e.touched := rfl

@[simp] theorem writeBuffer_agenda (b : Nat) (e : Event) : (writeBuffer b e).agenda = e.agenda := by
  unfold writeBuffer
  split <;> rfl

@[simp] theorem writeBuffer_touched (b : Nat) (e : Event) : (writeBuffer b e).touched = e.touched := by
  unfold writeBuffer
  split <;> rfl

@[simp] theorem takeStage_agenda (e : Event) : (takeStage e).agenda = e.agenda := by
  unfold takeStage
  split <;> rfl

@[simp] theorem takeStage_touched (e : Event) : (takeStage e).touched = e.touched := by
  unfold takeStage
  split <;> rfl

@[simp] theorem leaveInrush_agenda (p : Port) (e : Event) : (leaveInrush p e).agenda = e.agenda := rfl

@[simp] theorem leaveInrush_touched (p : Port) (e : Event) : (leaveInrush p e).touched = e.touched := rfl

@[simp] theorem withdraw_agenda (p : Port) (k : ClaimKind) (e : Event) : (withdraw p k e).agenda = e.agenda := rfl

@[simp] theorem withdraw_touched (p : Port) (k : ClaimKind) (e : Event) : (withdraw p k e).touched = e.touched := rfl

@[simp] theorem withdrawAll_agenda (p : Port) (e : Event) : (withdrawAll p e).agenda = e.agenda := rfl

@[simp] theorem withdrawAll_touched (p : Port) (e : Event) : (withdrawAll p e).touched = e.touched := rfl

@[simp] theorem finishSlot_agenda (n : SlotNo) (st : SlotState) (r : Reason) (field : Nat) (results : List Byte) (e : Event) : (finishSlot n st r field results e).agenda = e.agenda := by
  unfold finishSlot
  split <;> simp

@[simp] theorem finishSlot_touched (n : SlotNo) (st : SlotState) (r : Reason) (field : Nat) (results : List Byte) (e : Event) : (finishSlot n st r field results e).touched = e.touched := by
  unfold finishSlot
  split <;> simp

@[simp] theorem doneSlot_agenda (n : SlotNo) (results : List Byte) (e : Event) : (doneSlot n results e).agenda = e.agenda := by
  simp [doneSlot]

@[simp] theorem doneSlot_touched (n : SlotNo) (results : List Byte) (e : Event) : (doneSlot n results e).touched = e.touched := by
  simp [doneSlot]

@[simp] theorem refuseSlot_agenda (n : SlotNo) (r : Reason) (e : Event) : (refuseSlot n r e).agenda = e.agenda := by
  simp [refuseSlot]

@[simp] theorem refuseSlot_touched (n : SlotNo) (r : Reason) (e : Event) : (refuseSlot n r e).touched = e.touched := by
  simp [refuseSlot]

@[simp] theorem runSlot_agenda (n : SlotNo) (e : Event) : (runSlot n e).agenda = e.agenda := by
  simp [runSlot]

@[simp] theorem runSlot_touched (n : SlotNo) (e : Event) : (runSlot n e).touched = e.touched := by
  simp [runSlot]

@[simp] theorem startSlot_agenda (n : SlotNo) (e : Event) : (startSlot n e).agenda = e.agenda := by
  simp [startSlot]

@[simp] theorem startSlot_touched (n : SlotNo) (e : Event) : (startSlot n e).touched = e.touched := by
  simp [startSlot]

@[simp] theorem reserve_agenda (b : Nat) (p : Port) (k : BufKind) (e : Event) : (reserve b p k e).agenda = e.agenda := by
  simp [reserve]

@[simp] theorem reserve_touched (b : Nat) (p : Port) (k : BufKind) (e : Event) : (reserve b p k e).touched = e.touched := by
  simp [reserve]

@[simp] theorem countDelivery_agenda (x : Entry) (e : Event) : (countDelivery x e).agenda = e.agenda := by
  unfold countDelivery
  split <;> rfl

@[simp] theorem countDelivery_touched (x : Entry) (e : Event) : (countDelivery x e).touched = e.touched := by
  unfold countDelivery
  split <;> rfl

@[simp] theorem deliver_agenda (b : Nat) (o : FrameOutcome) (e : Event) : (deliver b o e).agenda = e.agenda := by
  unfold deliver
  split <;> simp

@[simp] theorem deliver_touched (b : Nat) (o : FrameOutcome) (e : Event) : (deliver b o e).touched = e.touched := by
  unfold deliver
  split <;> simp

@[simp] theorem returnGiven_agenda (b : Nat) (e : Event) : (returnGiven b e).agenda = e.agenda := by
  unfold returnGiven
  (repeat' split) <;> simp

@[simp] theorem returnGiven_touched (b : Nat) (e : Event) : (returnGiven b e).touched = e.touched := by
  unfold returnGiven
  (repeat' split) <;> simp

@[simp] theorem fillData_agenda (b o : Nat) (data : List Byte) (e : Event) : (fillData b o data e).agenda = e.agenda := by
  unfold fillData
  dsimp only
  (repeat' split) <;> simp

@[simp] theorem fillData_touched (b o : Nat) (data : List Byte) (e : Event) : (fillData b o data e).touched = e.touched := by
  unfold fillData
  dsimp only
  (repeat' split) <;> simp

@[simp] theorem setStop_agenda (e : Event) : (setStop e).agenda = e.agenda := by
  unfold setStop
  split <;> simp

@[simp] theorem setStop_touched (e : Event) : (setStop e).touched = e.touched := by
  unfold setStop
  split <;> simp

@[simp] theorem clearStopLatch_agenda (e : Event) : (clearStopLatch e).agenda = e.agenda := by
  unfold clearStopLatch
  split <;> simp

@[simp] theorem clearStopLatch_touched (e : Event) : (clearStopLatch e).touched = e.touched := by
  unfold clearStopLatch
  split <;> simp

@[simp] theorem startCooldown_agenda (p : Port) (e : Event) : (startCooldown p e).agenda = e.agenda := rfl

@[simp] theorem startCooldown_touched (p : Port) (e : Event) : (startCooldown p e).touched = e.touched := rfl

@[simp] theorem markClaims_agenda (mine : Requester → Bool) (st : ClaimStatus) (e : Event) : (markClaims mine st e).agenda = e.agenda := rfl

@[simp] theorem markClaims_touched (mine : Requester → Bool) (st : ClaimStatus) (e : Event) : (markClaims mine st e).touched = e.touched := rfl

@[simp] theorem modSweep_agenda (p : Port) (f : SweepRun → SweepRun) (e : Event) : (modSweep p f e).agenda = e.agenda := rfl

@[simp] theorem modSweep_touched (p : Port) (f : SweepRun → SweepRun) (e : Event) : (modSweep p f e).touched = e.touched := rfl

@[simp] theorem modProbe_agenda (p : Port) (f : ProbeRun → ProbeRun) (e : Event) : (modProbe p f e).agenda = e.agenda := rfl

@[simp] theorem modProbe_touched (p : Port) (f : ProbeRun → ProbeRun) (e : Event) : (modProbe p f e).touched = e.touched := rfl

@[simp] theorem emptyHistories_agenda (p : Port) (e : Event) : (emptyHistories p e).agenda = e.agenda := rfl

@[simp] theorem emptyHistories_touched (p : Port) (e : Event) : (emptyHistories p e).touched = e.touched := rfl

@[simp] theorem owe_agenda (p : Port) (e : Event) : (owe p e).agenda = e.agenda := rfl

@[simp] theorem owe_touched (p : Port) (e : Event) : (owe p e).touched = e.touched := rfl

@[simp] theorem countTrip_agenda (p : Port) (e : Event) : (countTrip p e).agenda = e.agenda := rfl

@[simp] theorem countTrip_touched (p : Port) (e : Event) : (countTrip p e).touched = e.touched := rfl

@[simp] theorem askCamera_agenda (p : Port) (e : Event) : (askCamera p e).agenda = e.agenda := by
  simp [askCamera]

@[simp] theorem askCamera_touched (p : Port) (e : Event) : (askCamera p e).touched = e.touched := by
  simp [askCamera]

@[simp] theorem showMode_agenda (e : Event) : (showMode e).agenda = e.agenda := by
  simp [showMode]

@[simp] theorem showMode_touched (e : Event) : (showMode e).touched = e.touched := by
  simp [showMode]

@[simp] theorem leaveRun_agenda (why : Cause) (e : Event) : (leaveRun why e).agenda = e.agenda := rfl

@[simp] theorem leaveRun_touched (why : Cause) (e : Event) : (leaveRun why e).touched = e.touched := rfl

@[simp] theorem emptyBudget_agenda (e : Event) : (emptyBudget e).agenda = e.agenda := rfl

@[simp] theorem emptyBudget_touched (e : Event) : (emptyBudget e).touched = e.touched := rfl

@[simp] theorem countReadError_agenda (e : Event) : (countReadError e).agenda = e.agenda := by
  simp [countReadError]

@[simp] theorem countReadError_touched (e : Event) : (countReadError e).touched = e.touched := by
  simp [countReadError]

@[simp] theorem restartSilence_agenda (p : Port) (e : Event) : (restartSilence p e).agenda = e.agenda := rfl

@[simp] theorem restartSilence_touched (p : Port) (e : Event) : (restartSilence p e).touched = e.touched := rfl

@[simp] theorem zeroWindows_agenda (p : Port) (e : Event) : (zeroWindows p e).agenda = e.agenda := rfl

@[simp] theorem zeroWindows_touched (p : Port) (e : Event) : (zeroWindows p e).touched = e.touched := rfl

@[simp] theorem takeBad_agenda (p : Port) (e : Event) : (takeBad p e).agenda = e.agenda := by
  unfold takeBad
  split <;> rfl

@[simp] theorem takeBad_touched (p : Port) (e : Event) : (takeBad p e).touched = e.touched := by
  unfold takeBad
  split <;> rfl

@[simp] theorem lightLine_agenda (width : Nat) (l : LineNo) (e : Event) : (lightLine width l e).agenda = e.agenda := rfl

@[simp] theorem lightLine_touched (width : Nat) (l : LineNo) (e : Event) : (lightLine width l e).touched = e.touched := rfl

@[simp] theorem disarmProgram_agenda (i : ProgNo) (e : Event) : (disarmProgram i e).agenda = e.agenda := rfl

@[simp] theorem disarmProgram_touched (i : ProgNo) (e : Event) : (disarmProgram i e).touched = e.touched := rfl

@[simp] theorem takeTrace_agenda (b : Nat) (p : Port) (e : Event) : (takeTrace b p e).agenda = e.agenda := by
  simp [takeTrace]

@[simp] theorem takeTrace_touched (b : Nat) (p : Port) (e : Event) : (takeTrace b p e).touched = e.touched := by
  simp [takeTrace]

@[simp] theorem countStray_agenda (p : Port) (e : Event) : (countStray p e).agenda = e.agenda := rfl

@[simp] theorem countStray_touched (p : Port) (e : Event) : (countStray p e).touched = e.touched := rfl

@[simp] theorem takeReport_agenda (p : Port) (l : LensPacket) (e : Event) : (takeReport p l e).agenda = e.agenda := rfl

@[simp] theorem takeReport_touched (p : Port) (l : LensPacket) (e : Event) : (takeReport p l e).touched = e.touched := rfl

@[simp] theorem takeLog_agenda (g : LogEvent) (e : Event) : (takeLog g e).agenda = e.agenda := by
  have h : ∀ (x : Event), (forNumbers (allNumbers.filter fun n => g.changed.contains n.val) writeMirror x).agenda = x.agenda :=
    fun x => forNumbers_agenda _ _ _ fun n y => writeMirror_agenda n y
  unfold takeLog
  dsimp only
  (repeat' split) <;> simp only [writeHeader_agenda, attend_agenda, h]

@[simp] theorem takeLog_touched (g : LogEvent) (e : Event) : (takeLog g e).touched = e.touched := by
  have h : ∀ (x : Event), (forNumbers (allNumbers.filter fun n => g.changed.contains n.val) writeMirror x).touched = x.touched :=
    fun x => forNumbers_touched _ _ _ fun n y => writeMirror_touched n y
  unfold takeLog
  dsimp only
  (repeat' split) <;> simp only [writeHeader_touched, attend_touched, h]

@[simp] theorem readHand_agenda (l : Layout) (b : Nat) (e : Event) : (readHand l b e).agenda = e.agenda := rfl

@[simp] theorem readHand_touched (l : Layout) (b : Nat) (e : Event) : (readHand l b e).touched = e.touched := rfl

@[simp] theorem nextHand_agenda (b : Nat) (e : Event) : (nextHand b e).agenda = e.agenda := by
  unfold nextHand
  (repeat' split) <;> simp

@[simp] theorem nextHand_touched (b : Nat) (e : Event) : (nextHand b e).touched = e.touched := by
  unfold nextHand
  (repeat' split) <;> simp

end Sys2Proof.Machine
end

