-- ==== Sys2Proof/Laws/Reports.lean ====
section
/-! SUPPORT. What the reporting operations do, said once: the interrupt message, the attention flags, and the rewriting of a port's
report part. -/

namespace Sys2Proof.Machine

/-- Sending the message puts it behind all that was issued, when there is one to send (R15, R184). -/
theorem message_eq (e : Event) : message e = { e with traffic := e.traffic ++ e.toState.messages } := by
  unfold message State.messages
  split <;> simp [issue, *]

/-- New flags and mask are stored, and a rise of flags AND mask from zero sends one message. -/
theorem setAttention_eq (flags mask : BitVec 14) (e : Event) : setAttention flags mask e =
    { e with page := { e.page with attention := flags, mask := mask }
             traffic := e.traffic ++ e.toState.risen flags mask } := by
  unfold State.risen
  by_cases h : e.toState.uncovered = 0 ∧ flags &&& mask ≠ 0
  · rw [if_pos h]
    exact (if_pos h).trans (message_eq _)
  · rw [if_neg h, List.append_nil]
    exact if_neg h

/-- Clearing flags sends nothing (R15). -/
theorem risen_of_clear {flags mask : BitVec 14} {s : State} (h : flags &&& mask ≠ 0 → s.uncovered ≠ 0) :
    s.risen flags mask = [] := if_neg fun hx => h hx.2 hx.1

/-- Setting flags ORs them in (R14). -/
theorem raiseFlags_eq (bits : BitVec 14) (e : Event) : raiseFlags bits e =
    { e with page := { e.page with attention := e.page.attention ||| bits }
             traffic := e.traffic ++ e.toState.risen (e.page.attention ||| bits) e.page.mask } := setAttention_eq _ _ e

/-- Setting flags already set changes nothing (R14). -/
theorem raiseFlags_zero (e : Event) : raiseFlags 0 e = e := by
  rw [raiseFlags_eq, risen_of_clear (by simp [State.uncovered])]
  simp

theorem attend_zero (e : Event) : attend 0 e = e := by
  unfold attend
  rw [raiseFlags_zero, ite_self]

/-- A rewritten header report is that of its event. -/
theorem of_headerShown (bits : BitVec 14) (s : State) :
    Event.of (s.headerShown bits) = attend bits (writeHeader (Event.of s)) := of_toState (by simp) (by simp)

/-- A slot's final state is that of its event. -/
theorem of_finished (n : SlotNo) (st : SlotState) (r : Reason) (field : Nat) (results : List Byte) (s : State) :
    Event.of (s.finished n st r field results) = finishSlot n st r field results (Event.of s) := of_toState (by simp) (by simp)

/-- A slot's becoming RUNNING is that of its event. -/
theorem of_ran (n : SlotNo) (s : State) : Event.of (s.ran n) = runSlot n (Event.of s) := of_toState (by simp) (by simp)

/-! ## Port reports -/

/-- While the page is not HELD no port report is written and no flag set (R17, R28). -/
theorem reported_absent {ps : List Port} {s : State} (h : held s = false) : s.reported ps = s := by
  have key : ∀ (l : List Port) (e : Event), held e.toState = false → (forPorts l reportPort e).toState = e.toState := by
    intro l
    induction l with
    | nil => intro e _; rfl
    | cons p l ih =>
      intro e he
      have hp : reportPort p e = e := by simp [reportPort, writePortReport, attend, he]
      simp only [forPorts, List.foldl_cons] at ih ⊢
      rw [hp]
      exact ih e he
  exact key ps (Event.of s) h

end Sys2Proof.Machine
end

