-- ==== Sys2Proof/Laws/Windows.lean ====
section
/-! SUPPORT. What a window end does before its faults are raised (R178): dealing with the ports at the break log tells no block
anything, marks no port and raises no fault; and which ports have a new FLICKER record. -/

namespace Sys2Proof.Machine

/-! ## The log alone is dealt with -/

/-- The event e' is reached from e without a fault: nothing told, no port marked, no action sent, the stop latch and every port's
counts, latched set and last kind as they were. -/
structure NoFault (e e' : Event) : Prop where
  agenda : e'.agenda = e.agenda
  touched : e'.touched = e.touched
  sent : e'.faults.sent = e.faults.sent
  stopLatch : e'.faults.stopLatch = e.faults.stopLatch
  ports : ∀ q, (e'.port q).faults = (e.port q).faults

theorem NoFault.refl (e : Event) : NoFault e e := ⟨rfl, rfl, rfl, rfl, fun _ => rfl⟩

theorem NoFault.trans {e e' e'' : Event} (h : NoFault e e') (h' : NoFault e' e'') : NoFault e e'' :=
  ⟨h'.agenda.trans h.agenda, h'.touched.trans h.touched, h'.sent.trans h.sent, h'.stopLatch.trans h.stopLatch,
    fun q => (h'.ports q).trans (h.ports q)⟩

theorem NoFault.of_forPorts {f : Port → Event → Event} (h : ∀ p e, NoFault e (f p e)) (ps : List Port) (e : Event) :
    NoFault e (forPorts ps f e) := by
  unfold forPorts
  induction ps generalizing e with
  | nil => exact .refl e
  | cons p ps ih => exact (h p e).trans (ih (f p e))

/-- A change of one port that keeps its fault record raises none. -/
theorem NoFault.of_modPort (p : Port) {f : PortState → PortState} (h : ∀ q, (f q).faults = q.faults) (e : Event) :
    NoFault e (modPort p f e) := by
  refine ⟨rfl, rfl, rfl, rfl, fun q => ?_⟩
  by_cases hq : q = p
  · subst hq; simp [Event.port, h]
  · simp [Event.port, get_modAt_ne _ _ _ _ hq]

theorem NoFault.ite {c : Prop} [Decidable c] {e a b : Event} (ha : NoFault e a) (hb : NoFault e b) :
    NoFault e (if c then a else b) := by
  split <;> assumption

theorem NoFault.of_forNumbers {f : Fin 16 → Event → Event} (h : ∀ n e, NoFault e (f n e)) (ns : List (Fin 16)) (e : Event) :
    NoFault e (forNumbers ns f e) := by
  unfold forNumbers
  induction ns generalizing e with
  | nil => exact .refl e
  | cons n ns ih => exact (h n e).trans (ih (f n e))

/-! ## The operations of a window end -/

theorem writeMirror_noFault (n : Fin 16) (e : Event) : NoFault e (writeMirror n e) :=
  .ite ⟨rfl, rfl, rfl, rfl, fun _ => rfl⟩ (.refl e)

theorem writeHeader_noFault (e : Event) : NoFault e (writeHeader e) :=
  .ite ⟨rfl, rfl, rfl, rfl, fun _ => rfl⟩ (.refl e)

theorem attend_noFault (bits : BitVec 14) (e : Event) : NoFault e (attend bits e) := by
  unfold attend
  rw [raiseFlags_eq]
  exact .ite ⟨rfl, rfl, rfl, rfl, fun _ => rfl⟩ (.refl e)

/-- Taking an updated log raises no fault. -/
theorem takeLog_noFault (g : LogEvent) (e : Event) : NoFault e (takeLog g e) := by
  have logged : NoFault e { e with faults := { e.faults with log := g.log } } := ⟨rfl, rfl, rfl, rfl, fun _ => rfl⟩
  have mirrored := logged.trans (.of_forNumbers writeMirror_noFault (allNumbers.filter fun n => g.changed.contains n.val) _)
  have signalled := mirrored.trans (.ite (c := g.changed.isEmpty = true) (.refl _) (attend_noFault flagBreaks _))
  refine .ite signalled (signalled.trans (.trans ?_ (writeHeader_noFault _)))
  exact ⟨rfl, rfl, rfl, rfl, fun _ => rfl⟩

theorem resolveQuiet_noFault (p : Port) (e : Event) : NoFault e (resolveQuiet p e) :=
  .ite ((NoFault.of_modPort p (f := fun q => { q with quiet := 0 }) (fun _ => rfl) e).trans (takeLog_noFault _ _)) (.refl e)

theorem flickerFound_noFault (p : Port) (e : Event) : NoFault e (flickerFound p e) :=
  (NoFault.of_modPort p (f := fun q => { q with met := true, quiet := 0 }) (fun _ => rfl) e).trans (takeLog_noFault _ _)

/-- The flicker detector raises no fault: that of a new record waits for the whole window (R178). -/
theorem detectFlicker_noFault (p : Port) (pushed : Option Nat) (e : Event) : NoFault e (detectFlicker p pushed e) := by
  unfold detectFlicker
  dsimp only
  refine .trans ?_ (resolveQuiet_noFault p _)
  have cleared := fun e' => NoFault.of_modPort p (f := fun q => { q with met := false }) (fun _ => rfl) e'
  cases pushed with
  | none => exact .ite (.ite (.refl e) (flickerFound_noFault p e)) (cleared e)
  | some n =>
    have quieted := NoFault.of_modPort p (f := fun q => { q with quiet := quietAfter (flickerThreshold e.toState) n q.quiet })
      (fun _ => rfl) e
    exact .ite (.ite quieted (quieted.trans (flickerFound_noFault p _))) (quieted.trans (cleared _))

/-- A window end at one port raises no fault. -/
theorem endWindow_noFault (p : Port) (e : Event) : NoFault e (endWindow p e) := by
  have zeroed := fun e' => NoFault.of_modPort p (f := fun q => { q with link := { q.link with motionWindow := 0, restWindow := 0 } })
    (fun _ => rfl) e'
  have pushed := NoFault.of_modPort p
    (f := fun q => { q with link := q.link.pushWindow e.trigger.seenHigh e.trigger.seenLow }) (fun _ => rfl) e
  exact .ite ((pushed.trans (detectFlicker_noFault p _ _)).trans (zeroed _)) (zeroed e)

/-- Nor does it at all of them: when the faults of the new records are raised, in `endWindows`, the log is that of the whole window and
nothing of a fault has happened (R178). -/
theorem endWindow_all_noFault (e : Event) : NoFault e (forPorts allPorts endWindow e) := .of_forPorts endWindow_noFault allPorts e

/-! ## The ports with a new FLICKER record -/

theorem mem_newFlickers {before after : List BreakRec} {p : Port} : p ∈ newFlickers before after ↔
    after.any (BreakRec.isActive p .flicker) = true ∧ before.any (BreakRec.isActive p .flicker) = false := by
  have hp : p ∈ allPorts := by revert p; decide
  simp [newFlickers, hp]

/-- With the log as it was no port has a new FLICKER record. -/
@[simp] theorem newFlickers_self (log : List BreakRec) : newFlickers log log = [] :=
  List.filter_eq_nil_iff.mpr fun p _ => by simp

end Sys2Proof.Machine
end

