-- ==== Sys2Proof/Tests/Slice0.lean ====
section
/-! SUPPORT. The model's own tests: ill-formed terms that the check refuses, the manual's worked figures, and for every statement
with hypotheses a concrete state and operands that meet them, clause by clause. -/

namespace Sys2Proof.Tests
open Sys2Proof.Machine

set_option maxRecDepth 100000
set_option Elab.async false

/-! ## The words of the table: no row gives bits -/

theorem test_no_word_spells_a_command : decodeTableWord 32 0 = none ∧ decodeTableWord 8 0xFF = none := by decide

theorem test_fetch_word_leaves_reset : State.withFetchWord State.reset 32 7 = State.reset := by decide +kernel

/-! ## Ill-formed terms -/

theorem test_write_of_three_bytes_is_ill_formed : (Instr.registerWriteOther 0x00 3 0).wellFormed = false := by decide
theorem test_write_past_the_window_is_ill_formed : (Instr.registerWriteOther 0xFFE 4 0).wellFormed = false := by decide
theorem test_writes_of_the_own_rows_are_ill_formed :
    (Instr.registerWriteOther 0x04 4 0).wellFormed = false ∧ (Instr.registerWriteOther 0x0C 4 0).wellFormed = false ∧
    (Instr.registerWriteOther 0x10 4 0).wellFormed = false ∧ (Instr.registerWriteOther 0x14 4 0).wellFormed = false ∧
    (Instr.registerWriteOther 0x18 4 0).wellFormed = false := by decide
theorem test_record_of_a_wrong_size_is_ill_formed :
    (Instr.sweepRecordRead .cellSheet ⟨0, List.replicate 0x60 0⟩).wellFormed = false ∧
    (Instr.sweepRecordRead (.portSheet 7) ⟨0, List.replicate 0x17F 0⟩).wellFormed = false ∧
    (Instr.sweepRecordRead .orders ⟨0, List.replicate 0x61 0⟩).wellFormed = false ∧
    (Instr.sweepRecordRead .pool ⟨0, []⟩).wellFormed = false := by decide +kernel
theorem test_cable_record_of_a_wrong_size_is_ill_formed :
    (Instr.cableLoadReadComplete 31 ⟨0, List.replicate 127 0⟩).wellFormed = false := by decide +kernel

/-- A HELLO of a camera with focus only. -/
def greeting : HelloPacket where
  serial := 5
  camClass := 1
  lensCode := 1
  maxPower := 20
  standbyPower := 20
  motionPower := 30
  focusLow := 0
  focusHigh := 4095
  irisLow := 0
  irisHigh := 0
  zoomLow := 0
  zoomHigh := 0

theorem test_hello_out_of_range_is_ill_formed :
    (Instr.hello 0 greeting).wellFormed = true ∧ (Instr.hello 0 { greeting with lensCode := 9 }).wellFormed = false ∧
    (Instr.hello 0 { greeting with maxPower := 1201 }).wellFormed = false ∧
    (Instr.hello 0 { greeting with focusHigh := 4096 }).wellFormed = false ∧
    (Instr.hello 0 { greeting with irisHigh := 1 }).wellFormed = false := by decide +kernel
theorem test_frame_open_out_of_range_is_ill_formed :
    (Instr.frameOpen 0 1 0 480 8).wellFormed = false ∧ (Instr.frameOpen 0 1 640 0 8).wellFormed = false ∧
    (Instr.frameOpen 0 1 640 480 10).wellFormed = false := by decide
theorem test_frame_data_out_of_range_is_ill_formed :
    (Instr.frameData 0 1 0 []).wellFormed = false ∧
    (Instr.frameData 0 1 0 (List.replicate 1025 0)).wellFormed = false := by decide +kernel
theorem test_lens_state_out_of_range_is_ill_formed :
    (Instr.lensState 0 { presence := 8, focus := 0, iris := 0, zoom := 0, moving := 0 }).wellFormed = false ∧
    (Instr.lensState 0 { presence := 1, focus := 4096, iris := 0, zoom := 0, moving := 0 }).wellFormed = false ∧
    (Instr.lensState 0 { presence := 0, focus := 1, iris := 0, zoom := 0, moving := 0 }).wellFormed = false ∧
    (Instr.lensState 0 { presence := 0, focus := 0, iris := 0, zoom := 0, moving := 2 }).wellFormed = false := by
  decide +kernel
theorem test_level_below_the_filter_time_is_ill_formed :
    (Instr.motionChange true 999).wellFormed = false ∧ (Instr.encoderEdge true 999).wellFormed = false ∧
    (Instr.trigEdge false 0).wellFormed = false ∧ (Instr.trigEdge true 1000).wellFormed = true := by decide
theorem test_pulses_of_unequal_length_are_ill_formed :
    (Instr.pulseSetEnd 0 ((Vector.replicate 16 [1]).set 3 [1, 2])).wellFormed = false ∧
    (Instr.pulseSetEnd 0 (Vector.replicate 16 [1])).wellFormed = true := by decide +kernel

/-! ## The manual's worked figures -/

theorem test_check_of_the_nine_bytes :
    crc16 [0x31, 0x32, 0x33, 0x34, 0x35, 0x36, 0x37, 0x38, 0x39] = 0x29B1 := by decide +kernel
theorem test_distance_of_100_ticks : distanceOf 660 100 = 247 ∧ distanceOf 990 8190 = 30405 := by decide

/-! ## States for the witnesses -/

/-- A Cell Sheet: 120 W, cable of 2000 mΩ, four buffers, every cap 2, every fault cuts with retry and stops. -/
def sheet : CellSheet where
  budget := 1200
  loopDefault := 2000
  velocityDefault := 660
  poolAddr := 0x20000
  bufCount := 4
  caps := Vector.replicate 8 2
  reactions := Vector.replicate 9 { action := .cutRetry, route := .attentionStop }
  autoProbe := false
  flickerThreshold := 8
  window := 256
  echoThreshold := 20
  openLevel := 96
  shortLevel := 96
  edge := .both
  divider := 3
  programs := Vector.replicate 4
    { source := .timer, period := 100, spacing := 0
      steps := [{ offset := 5, ports := 3, exposure := 0, strobes := 3, width := 300 },
        { offset := 6, ports := 3, exposure := 0, strobes := 0, width := 0 }] }

/-- A Port Sheet that wants its port on. -/
def portSheet : PortSheet where
  want := .on
  declared := 50
  wakeSettle := 5
  exposure := 8000
  depth := .bits8
  members := 15
  hold := false
  lens := Axes.none
  region := some { x := 0, y := 0, w := 4, h := 2 }

/-- A GIVEN buffer that any port may claim. -/
def buffer : Entry :=
  { Entry.fresh with loaded := true, state := .given, settings := some { addr := 0x4000, length := 4096, dedication := none } }

/-- A HELD page, the sheet standing, four buffers GIVEN, and the cell in mode m. -/
def cell (m : Mode) : State :=
  { State.reset with
    page := { PageIf.reset with taken := .held, addr := 0x10000 }
    cell := { CellCtl.reset with mode := m, sheet := some sheet, standing := true }
    budget := { Budget.reset with inForce := if m = .run then 1200 else 0 }
    pool := { Pool.reset with layout := some { addr := 0x20000, count := 4 }, entries := List.replicate 4 buffer } }

/-- Change port p. -/
def onPort (p : Port) (f : PortState → PortState) (s : State) : State := { s with ports := modAt s.ports p f }

/-- Change port p's power record. -/
def onPower (p : Port) (f : PortPower → PortPower) : State → State := onPort p fun q => { q with power := f q.power }

/-- Change port p's link. -/
def onLink (p : Port) (f : PortLink → PortLink) : State → State := onPort p fun q => { q with link := f q.link }

/-- Change port p's lens record. -/
def onLens (p : Port) (f : LensRec → LensRec) : State → State := onPort p fun q => { q with lens := f q.lens }

/-- Give port p a sheet copy. -/
def withSheet (p : Port) (c : PortSheet) : State → State := onPort p fun q => { q with sheet := some c }

/-- Change slot n. -/
def onSlot (n : SlotNo) (f : Slot → Slot) (s : State) : State := { s with slots := modAt s.slots n f }

/-- Put an area into a state. -/
def onArea (a : Area) (st : AreaState) (s : State) : State :=
  { s with page := { s.page with areas := putAt s.page.areas (Area.index a) st } }

/-- Record n of an area is being read. -/
def reading (a : Area) (n : Nat) : State → State := onArea a (.sweeping false n (some 50000))

/-- Change tracker entry b. -/
def onEntry (b : Nat) (f : Entry → Entry) (s : State) : State :=
  { s with pool := { s.pool with entries := modNth s.pool.entries b f } }

/-- Change program i. -/
def onProgram (i : ProgNo) (f : Program → Program) (s : State) : State :=
  { s with trigger := { s.trigger with programs := modAt s.trigger.programs i f } }

/-- Change the Cell Sheet copy. -/
def onSheet (f : CellSheet → CellSheet) (s : State) : State :=
  { s with cell := { s.cell with sheet := s.cell.sheet.map f } }

/-- Slot n holds a RUNNING order. -/
def runs (n : SlotNo) (o : Order) : State → State := onSlot n fun x => { x with state := .running, order := some o }

/-- An order that runs at once has been handed over from slot 3. -/
def hands (o : Order) (s : State) : State := { onSlot 3 (fun x => { x with order := some o }) s with handed := some 3 }

/-- A queue order of port 1 has been handed over from slot 3, and is the head of its queue. -/
def queues (o : Order) (s : State) : State :=
  onSlot 3 (fun x => { x with state := .queued }) (onPort 1 (fun q => { q with queue := [.order 3] }) (hands o s))

/-- The stamp of a shot of port 0. -/
def shot : Stamp where
  port := 0
  tag := 77
  step := none
  time := 5
  exposure := 10
  lens := Axes.none
  moving := false
  sweepStep := none

/-- A buffer of port 0 in flight, its timer due. -/
def flying (st : BufState) : Entry :=
  { buffer with state := st, owner := some 0, stamp := some shot, reservedBy := if st = .reserved then some 0 else none
                silenceBy := if st = .filling then some 0 else none }

/-- A probe of port 1. -/
def probeRun (job : ProbeJob) (phase : ProbePhase) : ProbeRun where
  job := job
  phase := phase
  window := 256
  echoThreshold := 20
  openLevel := 96
  shortLevel := 96
  velocity := 660
  length := some 3000
  joints := []
  baseline := []
  beganPowered := false
  readyBy := none
  trace := .unasked
  path := some .dark
  sets := []

/-- Port 1 runs a probe from slot 3. -/
def probes (r : ProbeRun) (o : Order) (s : State) : State :=
  onPort 1 (fun q => { q with probe := some r, queue := [.order 3] }) (runs 3 o s)

/-- A record of n bytes: its fields, zero spares, its check and a hand. -/
def record (n : Nat) (fields : List Byte) (hand : Byte) : List Byte :=
  fit (n - 3) fields ++ leBytes 2 (crc16 (fit (n - 3) fields)).toNat ++ [hand]

/-- The Cell Sheet record of the sheet above. -/
def sheetRecord : List Byte := record 0x400 sheet.bytes 9

/-- A Port Sheet record: want ON, 5 W, 5 × 10 ms, 8000 µs, 8 bits. -/
def portRecord : List Byte := record 0x180 [1, 50, 5, 0, 0x40, 0x1F, 0, 0, 0, 15, 0] 9

/-- An order record. -/
def orderRecord (kind target : Byte) (params : List Byte) : List Byte :=
  record 0x60 ([kind, target, 0, 0, 0, 0, 0, 0] ++ params) 9

/-- A buffer record of 8192 bytes at 0x5000, open. -/
def bufferRecord : List Byte := record 0x10 (leBytes 8 0x5000 ++ leBytes 4 8192 ++ [0xFF]) 9

/-- A cable record: DECLARED, 30 m. -/
def cableRecord : List Byte := record 0x80 [1, 1, 0xB8, 0x0B] 9

/-! ## Records as the part reads them -/

theorem test_cell_sheet_record : judgeCellSheet sheetRecord = .ok sheet := by decide +kernel
theorem test_port_sheet_record : judgePortSheet portRecord = .ok { portSheet with region := none } := by decide +kernel
theorem test_order_record : judgeOrder (orderRecord 17 0xFF []) = .ok .checkTest ∧
    judgeOrder (orderRecord 11 1 [0, 0, 0, 0]) = .ok (.snap 1 0) ∧
    judgeOrder (orderRecord 99 1 []) = .error (.badValue, 1) := by decide +kernel
theorem test_buffer_record :
    judgeSettings bufferRecord = .ok { addr := 0x5000, length := 8192, dedication := none } := by decide +kernel
theorem test_cable_record :
    judgeCable cableRecord = .ok { CableRec.absent with state := .declared, length := some 3000 } := by decide +kernel

/-! ## Witnesses: step, resets and registers -/

theorem test_meets_EmptyQueueTicks :
    (State.reset.pending = [] ∧ live State.reset = true ∧ owedNow State.reset = []) ∧
    (live (hands .start (cell .configure)) = true ∧ owedNow (hands .start (cell .configure)) ≠ []) ∧
    live { State.reset with powered := false } = false := by decide +kernel

theorem test_meets_RegisterWrites :
    live State.reset = true ∧ (Instr.registerWriteOther 0x08 4 7).wellFormed = true ∧
    (Instr.registerWriteOther 0x08 2 7).wellFormed = true ∧ (Instr.registerWriteOther 0xFFF 1 7).wellFormed = true ∧
    State.reset.page.taken ≠ .held ∧ live (reading .pool 0 (onArea .orders .pending (cell .run))) = true ∧
    (reading .pool 0 (onArea .orders .pending (cell .run))).page.taken = .held ∧
    areaState .pool (reading .pool 0 (onArea .orders .pending (cell .run))) = .sweeping false 0 (some 50000) ∧
    areaState .orders (reading .pool 0 (onArea .orders .pending (cell .run))) = .pending ∧
    areaState (.portSheet 7) (reading .pool 0 (onArea .orders .pending (cell .run))) = .idle := by decide +kernel

/-- A page release during a page take, SERVICE armed. -/
def taking : State :=
  { State.reset with page := { PageIf.reset with taken := .taking, headerReadBy := some 0, service := .armed } }

/-- An ACTIVE OPEN record of port 1. -/
def broken : BreakRec :=
  newRec 1 5 true { index := 0, kind := .openCircuit, ticks := 90, distance := 40, amplitude := 100, joint := none
                    flexing := false } 3

/-- The break log holds that record. -/
def brokenCell : State := { cell .run with faults := { FaultUnit.reset with log := [broken] } }

theorem test_meets_ServiceTable :
    live taking = true ∧ taking.page.service = .armed ∧ (Instr.registerWriteOther 0x08 4 7).wellFormed = true ∧
    (taking.powered = true ∧ taking.page.releasing = false ∧ taking.page.lo = 0) ∧
    (Order.checkTest.serviceOnly = true ∧ taking.page.service ≠ .opened) ∧
    ((Event.of brokenCell).cell.standing = true ∧ breaksActive 1 (Event.of brokenCell).faults.log = true) := by
  decide +kernel

theorem test_other_write_completes :
    exec (.registerWriteOther 0x08 4 7) taking = .next { taking with page := { taking.page with lo := 7 } } := rfl

/-! ## Witnesses: the page -/

/-- A release in progress, with a PAGE_HI write waiting or not. -/
def releasing (owed : Bool) : State :=
  { State.reset with page := { PageIf.reset with releasing := true, hiOwed := owed, hi := 1 } }

theorem test_meets_PagePairActs :
    (live (releasing false) = true ∧ ((5 : Word) ++ (releasing false).page.lo : Addr) ≠ 0 ∧ (releasing false).page.releasing = true) ∧
    (live State.reset = true ∧ State.reset.page.releasing = false ∧ State.reset.page.taken ≠ .held ∧
      State.reset.page.taken = .absent ∧ ((5 : Word) ++ State.reset.page.lo : Addr) &&& 0xFFF = 0) ∧
    (live { State.reset with page := { PageIf.reset with lo := 0x800 } } = true ∧ ((0 : Word) ++ (0x800 : Word) : Addr) ≠ 0 ∧
      ((0 : Word) ++ (0x800 : Word) : Addr) &&& 0xFFF ≠ 0) ∧
    (taking.page.taken = .taking ∧ taking.page.releasing = false ∧ taking.page.lo = 0) ∧
    ((releasing false).page.hiOwed = false) ∧
    (live (releasing true) = true ∧ (releasing true).page.hiOwed = true ∧ (releasing true).page.taken = .absent ∧
      pagePair (releasing true) ≠ 0 ∧ pagePair (releasing true) &&& 0xFFF = 0) := by decide +kernel

theorem test_meets_PageReleaseEndsUse :
    live (cell .run) = true ∧ (cell .run).page.taken = .held ∧ (cell .run).page.releasing = false ∧
    (cell .run).page.lo = 0 ∧
    (((onPower 1 (fun w => { w with state := .on }) (cell .run)).ports.get 1).power.state.powered = true) := by decide +kernel

theorem test_meets_ReportsWritten :
    live (cell .run) = true ∧ (cell .run).page.taken = .held ∧ live State.reset = true ∧ State.reset.page.taken ≠ .held := by
  decide +kernel

theorem test_meets_SweepReads :
    (live (onArea .pool .pending (onArea .orders .pending (cell .run))) = true ∧
      areaState .cellSheet (onArea .pool .pending (cell .run)) ≠ .pending ∧
      areaState .orders (onArea .pool .pending (onArea .orders .pending (cell .run))) = .pending ∧
      areaState .pool (onArea .pool .pending (cell .run)) = .pending ∧
      (onArea .pool .pending (cell .run)).pool.rebuild = none ∧ areaCount .pool (onArea .pool .pending (cell .run)) ≠ 0 ∧
      (cell .run).pool.layout = some { addr := 0x20000, count := 4 }) ∧
    (areaState .orders (reading .orders 30 (cell .run)) = .sweeping false 30 (some 50000) ∧
      30 + 1 < areaCount .orders (reading .orders 30 (cell .run)) ∧
      areaCount .orders (reading .orders 31 (cell .run)) ≤ 31 + 1 ∧
      areaCount .pool (reading .pool 3 (cell .run)) ≤ 3 + 1 ∧ (cell .run).pool.claims = [] ∧
      (cell .run).pool.rebuildOwed = none) ∧
    (live (reading .pool 2 (cell .run)) = true ∧ (reading .pool 2 (cell .run)).page.taken = .held ∧
      outstanding .pool (reading .pool 2 (cell .run)) = some 2 ∧
      due (readDeadline .pool { reading .pool 2 (cell .run) with clock := 50000 })
        { reading .pool 2 (cell .run) with clock := 50000 } = true) := by decide +kernel

/-! ## Witnesses: records -/

theorem test_meets_HandAndCheck :
    (live (cell .run) = true ∧ (cell .run).handed = none ∧ outstanding .orders (cell .run) = none) ∧
    (outstanding .cellSheet (reading .cellSheet 0 (cell .run)) = some 0 ∧
      handOf 0x400 (List.replicate 0x400 0) = (cell .run).cell.take.hand) ∧
    (outstanding (.portSheet 7) (reading (.portSheet 7) 0 (cell .run)) = some 0 ∧
      handOf 0x180 (List.replicate 0x180 0) = ((cell .run).ports.get 7).take.hand) ∧
    (outstanding .orders (reading .orders 31 (cell .run)) = some 31 ∧
      handOf 0x60 (List.replicate 0x60 0) = ((cell .run).slots.get (Fin.ofNat 32 31)).takenHand) ∧
    (outstanding .pool (reading .pool 3 (cell .run)) = some 3 ∧ (cell .run).pool.claims = [] ∧
      (cell .run).pool.entries[3]? = some buffer ∧ buffer.loaded = true ∧
      handOf 0x10 (List.replicate 0x10 0) = buffer.hand) := by decide +kernel

theorem test_meets_HandAndCheck_wrong_checks :
    (List.replicate 0x400 (0 : Byte)).length = 0x400 ∧
    (crc16 ((List.replicate 0x400 0).take 0x3FD)).toNat ≠ leNat (((List.replicate 0x400 0).drop 0x3FD).take 2) ∧
    (crc16 ((List.replicate 0x180 0).take 0x17D)).toNat ≠ leNat (((List.replicate 0x180 0).drop 0x17D).take 2) ∧
    (crc16 ((List.replicate 0x60 0).take 0x5D)).toNat ≠ leNat (((List.replicate 0x60 0).drop 0x5D).take 2) ∧
    (crc16 ((List.replicate 0x10 0).take 0x0D)).toNat ≠ leNat (((List.replicate 0x10 0).drop 0x0D).take 2) ∧
    (crc16 ((List.replicate 0x80 0).take 0x7D)).toNat ≠ leNat (((List.replicate 0x80 0).drop 0x7D).take 2) := by
  decide +kernel

/-- A rebuild that reads hand n. -/
def rebuilding (n : Nat) : State :=
  { cell .configure with pool := { (cell .configure).pool with rebuild := some { next := n, readBy := 0 } } }

theorem test_meets_PortSheetJudged :
    live (reading (.portSheet 7) 0 (cell .run)) = true ∧ (reading (.portSheet 7) 0 (cell .run)).handed = none ∧
    outstanding (.portSheet 7) (reading (.portSheet 7) 0 (cell .run)) = some 0 ∧
    handOf 0x180 portRecord ≠ ((cell .run).ports.get 7).take.hand ∧
    judgePortSheet (List.replicate 0x17F 0 ++ [1]) = .error (.badCheck, 0) ∧
    handOf 0x180 (List.replicate 0x17F 0 ++ [1]) ≠ ((cell .run).ports.get 7).take.hand := by decide +kernel

/-- Slot 31 is being read while it is in a state. -/
def offered (st : SlotState) (m : Mode) : State :=
  onSlot 31 (fun x => { x with state := st }) (reading .orders 31 (cell m))

/-- The same, port 1's queue being full. -/
def crowded : State := onPort 1 (fun q => { q with queue := List.replicate 8 .probe }) (offered .idle .run)

theorem test_meets_OrderJudged :
    (live (offered .queued .run) = true ∧ (offered .queued .run).page.taken = .held ∧
      (offered .queued .run).handed = none ∧ outstanding .orders (offered .queued .run) = some 31 ∧
      handOf 0x60 (orderRecord 11 1 [0, 0, 0, 0]) ≠ ((offered .queued .run).slots.get 31).takenHand ∧
      ((offered .queued .run).slots.get 31).state = .queued) ∧
    (outstanding .orders (offered .done .run) = some 31 ∧ ((offered .done .run).slots.get 31).state ≠ .queued ∧
      ((offered .done .run).slots.get 31).state ≠ .running ∧
      judgeOrder (orderRecord 99 1 []) = .error (.badValue, 1)) ∧
    (judgeOrder (orderRecord 17 0xFF []) = .ok .checkTest ∧ Order.checkTest.serviceOnly = true ∧
      (offered .idle .run).page.service ≠ .opened) ∧
    ((Order.snap 1 0).serviceOnly = false ∧ (Order.snap 1 0).acceptedIn (offered .idle .configure).cell.mode = false) ∧
    ((Order.snap 1 0).acceptedIn crowded.cell.mode = true ∧ (Order.snap 1 0).queuePort = some 1 ∧
      8 ≤ (crowded.ports.get 1).queue.length ∧ outstanding .orders crowded = some 31) ∧
    (judgeOrder (orderRecord 11 1 [0, 0, 0, 0]) = .ok (.snap 1 0) ∧
      (Order.snap 1 0).acceptedIn (offered .idle .run).cell.mode = true ∧
      ((offered .idle .run).ports.get 1).queue.length < 8) := by decide +kernel

theorem test_meets_BufferRecordRead :
    (live (reading .pool 3 (cell .run)) = true ∧ (reading .pool 3 (cell .run)).handed = none ∧
      (reading .pool 3 (cell .run)).pool.claims = [] ∧ outstanding .pool (reading .pool 3 (cell .run)) = some 3) ∧
    ((Event.of (onEntry 0 (fun x => { x with loaded := false }) (cell .run))).pool.entries[0]? =
      some { buffer with loaded := false }) ∧
    ((Event.of (cell .run)).pool.entries[3]? = some buffer ∧ buffer.loaded = true ∧
      handOf 0x10 bufferRecord ≠ buffer.hand ∧ buffer.state ≠ .out ∧ handOf 0x10 (List.replicate 16 0) = buffer.hand) ∧
    ((Event.of (onEntry 0 (fun x => { x with state := .out }) (cell .run))).pool.entries[0]? =
      some { buffer with state := .out } ∧
      judgeSettings bufferRecord = .ok { addr := 0x5000, length := 8192, dedication := none } ∧
      judgeSettings (record 0x10 [] 9) = .error (.badValue, 2) ∧ handOf 0x10 (record 0x10 [] 9) ≠ buffer.hand) := by
  decide +kernel

/-! ## Witnesses: orders that run at once -/

theorem test_meets_StartMovesToRun :
    (live (hands .start (cell .configure)) = true ∧ handedOrder 3 (hands .start (cell .configure)) = some .start ∧
      (hands .start (cell .configure)).cell.mode = .configure ∧ (hands .start (cell .configure)).cell.standing = true ∧
      (∀ p, openHoldings p (hands .start (cell .configure)) ≤ shareCap p (hands .start (cell .configure))) ∧
      (hands .start (cell .configure)).budget.waitList = [] ∧
      ∀ p, ((hands .start (cell .configure)).ports.get p).probe = none) ∧
    (handedOrder 3 (hands .start { cell .configure with cell := { CellCtl.reset with mode := .configure } }) = some .start ∧
      (hands .start { cell .configure with cell := { CellCtl.reset with mode := .configure } }).cell.standing = false) ∧
    (∃ p, shareCap p (onSheet (fun c => { c with caps := Vector.replicate 8 0 })
        (onEntry 3 (fun x => { x with state := .out, owner := some 7 }) (hands .start (cell .configure)))) <
      openHoldings p (onSheet (fun c => { c with caps := Vector.replicate 8 0 })
        (onEntry 3 (fun x => { x with state := .out, owner := some 7 }) (hands .start (cell .configure))))) := by
  decide +kernel

theorem test_meets_ArmAndDisarm :
    (live (hands (.arm 3) (cell .run)) = true ∧ (hands (.arm 3) (cell .run)).cell.mode = .run ∧
      (hands (.arm 3) (cell .run)).cell.sheet = some sheet ∧
      handedOrder 3 (hands (.arm 3) (cell .run)) = some (.arm 3) ∧
      ((hands (.arm 3) (cell .run)).trigger.programs.get 3).state = .disarmed) ∧
    (handedOrder 3 (hands (.disarm 0) (onProgram 0 (fun g => { g with state := .running }) (cell .run))) = some (.disarm 0) ∧
      ((hands (.disarm 0) (onProgram 0 (fun g => { g with state := .running }) (cell .run))).trigger.programs.get 0).state ≠
        .disarmed) ∧
    handedOrder 3 (hands (.disarm 0) (cell .run)) = some (.disarm 0) := by decide +kernel

/-- Slot 9 holds a SNAP of port 1 in a state, behind another entry, and a CANCEL of it has been handed over. -/
def cancels (st : SlotState) (mark : Bool) : State :=
  hands (.cancel 9) (onSlot 9 (fun x => { x with state := st, order := some (.snap 1 0), stopMark := mark })
    (onPort 1 (fun q => { q with queue := [.order 5, .order 9] }) (cell .run)))

/-- The same for a PROBE that claims its buffer. -/
def cancelsProbe : State :=
  hands (.cancel 9) (onSlot 9 (fun x => { x with state := .running, order := some (.probe 1 true false) })
    (onPort 1 (fun q => { q with queue := [.order 9], probe := some (probeRun (.order 9 true) .claiming) }) (cell .run)))

theorem test_meets_CancelTable :
    (live (cancels .queued false) = true ∧ (cancels .queued false).cell.mode ≠ .setup ∧
      handedOrder 3 (cancels .queued false) = some (.cancel 9)) ∧
    handedOrder 3 (hands (.cancel 3) (cell .run)) = some (.cancel 3) ∧
    ((cancels .idle false).slots.get 9).state = .idle ∧ ((cancels .aborted false).slots.get 9).state.final = true ∧
    ((hands (.cancel 9) (runs 9 .halt (cell .run))).slots.get 9).state = .running ∧
    ((hands (.cancel 9) (runs 9 .halt (cell .run))).slots.get 9).order.bind Order.queuePort = none ∧
    (((cancels .queued false).slots.get 9).order.bind Order.queuePort = some 1 ∧
      ((cancels .queued false).slots.get 9).state = .queued ∧
      ((cancels .queued false).ports.get 1).queue.head? ≠ some (.order 9)) ∧
    (((cancels .running true).slots.get 9).state = .running ∧ ((cancels .running true).slots.get 9).stopMark = true) ∧
    ((cancelsProbe.slots.get 9).state = .running ∧ (cancelsProbe.slots.get 9).stopMark = false ∧
      (cancelsProbe.ports.get 1).probe = some (probeRun (.order 9 true) .claiming) ∧
      (cancelsProbe.ports.get 1).snap = none ∧ (cancelsProbe.ports.get 1).cycle = none ∧
      (cancelsProbe.ports.get 1).sweep = none ∧ (probeRun (.order 9 true) .claiming).phase = .claiming) := by decide +kernel

/-- A CABLE_LOAD of port 1 runs from slot 9, its read's limit reached. -/
def loading : State := onSlot 9 (fun x => { x with loadBy := some 0 }) (runs 9 (.cableLoad 1 0x40) (cell .run))

theorem test_meets_CableOrders :
    (live (hands (.cableLoad 1 0x40) (cell .run)) = true ∧ (hands (.cableLoad 1 0x40) (cell .run)).cell.mode ≠ .setup ∧
      handedOrder 3 (hands (.cableLoad 1 0x40) (cell .run)) = some (.cableLoad 1 0x40) ∧
      ((hands (.cableLoad 1 0x40) (cell .run)).ports.get 1).probe = none ∧
      loadRuns 1 (hands (.cableLoad 1 0x40) (cell .run)) = false) ∧
    (((hands (.cableLoad 1 0x40) (probes (probeRun .auto .pulsing) .start (cell .run))).ports.get 1).probe ≠ none) ∧
    (loadRuns 1 (hands (.cableLoad 1 0x40) loading) = true ∧ loadRuns 1 (hands (.cableSave 1 0x40) loading) = true ∧
      handedOrder 3 (hands (.cableSave 1 0x40) loading) = some (.cableSave 1 0x40)) ∧
    (live loading = true ∧ (loading.slots.get 9).state = .running ∧
      (loading.slots.get 9).order = some (.cableLoad 1 0x40) ∧ (loading.ports.get 1).queue = [] ∧
      judgeCable cableRecord = .ok { CableRec.absent with state := .declared, length := some 3000 } ∧
      judgeCable [] = .error (.badCheck, 0) ∧ due (loading.slots.get 9).loadBy loading = true) ∧
    loadRuns 1 (hands (.cableSave 1 0x40) (cell .run)) = false := by decide +kernel

theorem test_meets_ClearBreaksRemoves :
    live (hands (.clearBreaks (some 7) true) (cell .run)) = true ∧
    (hands (.clearBreaks (some 7) true) (cell .run)).page.taken = .held ∧
    (hands (.clearBreaks (some 7) true) (cell .run)).cell.mode ≠ .setup ∧
    handedOrder 3 (hands (.clearBreaks (some 7) true) (cell .run)) = some (.clearBreaks (some 7) true) := by decide +kernel

theorem test_meets_PortClears :
    (live (hands (.clearFaults 7) (onPort 7 (fun q => { q with faults := PortFaults.note .short q.faults }) (cell .run))) =
        true ∧
      handedOrder 3 (hands (.clearFaults 7) (cell .run)) = some (.clearFaults 7) ∧
      (hands (.clearFaults 7) (cell .run)).cell.mode ≠ .setup ∧
      ((hands (.clearFaults 7)
        (onPort 7 (fun q => { q with faults := PortFaults.note .short q.faults }) (cell .run))).ports.get
          7).faults.latched.toList.any id = true ∧
      ((hands (.clearFaults 7) (cell .run)).ports.get 7).faults.latched.toList.any id = false) ∧
    (handedOrder 3 (hands (.clearLockout 1) (onPower 1 (fun w => { w with state := .lockedOut }) (cell .run))) =
        some (.clearLockout 1) ∧
      ((hands (.clearLockout 1) (onPower 1 (fun w => { w with state := .lockedOut }) (cell .run))).ports.get
        1).power.state = .lockedOut ∧
      ((hands (.clearLockout 1) (cell .run)).ports.get 1).probe = none ∧
      ((hands (.clearLockout 1) (cell .run)).ports.get 1).power.state ≠ .lockedOut) := by decide +kernel

theorem test_meets_ClearStopClears :
    live (hands .clearStop (cell .run)) = true ∧ (hands .clearStop (cell .run)).cell.mode ≠ .setup ∧
    handedOrder 3 (hands .clearStop (cell .run)) = some .clearStop ∧
    (hands .clearStop (cell .run)).faults.stopLatch = false ∧
    (hands .clearStop { cell .run with faults := { FaultUnit.reset with stopLatch := true } }).faults.stopLatch = true := by
  decide +kernel

/-- A re-check is due, with a stored check. -/
def recheck (c : Half) : State :=
  { cell .run with cell := { (cell .run).cell with storedCheck := some c, recheckAt := some 0 } }

theorem test_complement_differs (c : Half) : some c ≠ some (~~~ c) := by
  intro h
  have := congrArg (fun x : Half => x.getLsbD 0) (Option.some.inj h)
  simp at this

theorem test_meets_CellCheckFaults :
    (live (hands .checkTest (cell .run)) = true ∧ (hands .checkTest (cell .run)).cell.mode = .run ∧
      (hands .checkTest (cell .run)).cell.sheet = some sheet ∧
      handedOrder 3 (hands .checkTest (cell .run)) = some .checkTest) ∧
    (live (recheck 0) = true ∧ (recheck 0).cell.mode = .run ∧ (recheck 0).cell.recheckAt = some 0 ∧
      0 ≤ (recheck 0).clock) := by decide +kernel

theorem test_meets_CellCheckFaults_checks :
    (recheck sheet.check).cell.sheet.map CellSheet.check = (recheck sheet.check).cell.storedCheck ∧
    (recheck (~~~ sheet.check)).cell.sheet.map CellSheet.check ≠ (recheck (~~~ sheet.check)).cell.storedCheck :=
  ⟨rfl, test_complement_differs sheet.check⟩

/-! ## Witnesses: queue orders -/

/-- Port 1 is ON and TALK, its lens IDLE. -/
def talking (s : State) : State :=
  onPort 1 (fun q => { q with power := { q.power with state := .on, base := 52 }, link := { q.link with state := .talk }
                              lens := { q.lens with state := .idle, kind := some .focus } }) s

theorem test_meets_SnapAtTheHead :
    (live (talking (queues (.snap 1 0) (cell .run))) = true ∧
      handedOrder 3 (talking (queues (.snap 1 0) (cell .run))) = some (.snap 1 0) ∧
      ((talking (queues (.snap 1 0) (cell .run))).ports.get 1).queue = [.order 3] ∧
      ((talking (queues (.snap 1 0) (cell .run))).slots.get 3).state = .queued ∧
      (talking (queues (.snap 1 0) (cell .run))).cell.mode = .run ∧
      ((talking (queues (.snap 1 0) (cell .run))).ports.get 1).power.state = .on ∧
      ((talking (queues (.snap 1 0) (cell .run))).ports.get 1).link.state = .talk ∧
      ((talking (queues (.snap 1 0) (cell .run))).ports.get 1).probe = none ∧
      holdsFrames ((talking (queues (.snap 1 0) (cell .run))).ports.get 1) = false ∧
      judgeClaim 1 .frame (talking (queues (.snap 1 0) (cell .run))) = .got 0 ∧
      (talking (queues (.snap 1 0) (cell .run))).pool.entries[0]? = some buffer) ∧
    (((queues (.snap 1 10) (cell .run)).ports.get 1).power.state ≠ .on ∧
      ((queues (.snap 1 10) (cell .run)).ports.get 1).link.state = .dark ∧
      ((queues (.snap 1 10) (cell .run)).ports.get 1).sweep = none) ∧
    (handedOrder 3 (runs 9 (.cycle 1) (onPort 1 (fun q => { q with queue := [.order 9, .order 3] })
        (hands (.snap 1 0) (cell .run)))) = some (.snap 1 0) ∧ (Order.snap 1 0).queuePort = some 1 ∧
      Order.command 3 (.snap 1 0) = .snap 3 ∧
      ((runs 9 (.cycle 1) (onPort 1 (fun q => { q with queue := [.order 9, .order 3] })
        (hands (.snap 1 0) (cell .run)))).ports.get 1).queue = [.order 9, .order 3] ∧
      ((runs 9 (.cycle 1) (onPort 1 (fun q => { q with queue := [.order 9, .order 3] })
        (hands (.snap 1 0) (cell .run)))).slots.get 9).state = .running) := by decide +kernel

/-- A CYCLE is the head of port 1's queue, the port being in a power state. -/
def cycles (st : PowerState) : State := onPower 1 (fun w => { w with state := st }) (queues (.cycle 1) (cell .run))

/-- A CYCLE's hold is over. -/
def cycled : State :=
  onPort 1 (fun q => { q with queue := [.order 3], cycle := some { slot := 3, found := .on, holdEnd := 0 } })
    (runs 3 (.cycle 1) (cell .run))

theorem test_meets_CycleRuns :
    (live (cycles .held) = true ∧ handedOrder 3 (cycles .held) = some (.cycle 1) ∧
      ((cycles .held).ports.get 1).queue = [.order 3] ∧ ((cycles .held).slots.get 3).state = .queued ∧
      ((cycles .held).ports.get 1).probe = none ∧ ((cycles .held).ports.get 1).power.state = .held) ∧
    ((cycles .waiting).ports.get 1).power.state = .waiting ∧ ((cycles .retryWait).ports.get 1).power.state = .retryWait ∧
    (((cycles .on).ports.get 1).power.state.powered = true ∧ (cycles .on).budget.waitList = [] ∧
      ((cycles .on).ports.get 1).snap = none ∧ ((cycles .on).ports.get 1).sweep = none) ∧
    (live cycled = true ∧ (cycled.ports.get 1).cycle = some { slot := 3, found := .on, holdEnd := 0 } ∧ 0 ≤ cycled.clock ∧
      (cycled.ports.get 1).queue = [.order 3] ∧ wantOf (cycled.ports.get 1) = .off) := by decide +kernel

/-- The settings a probe of port 1 is begun with in these tests. -/
def begun (job : ProbeJob) (trace : TraceClaim) : ProbeRun :=
  { probeRun job .pulsing with length := none, trace := trace }

/-- Port 1 has no camera powered. -/
def unpowered (o : Order) : State := queues o (cell .run)

/-- Two buffers of port 1 are in flight. -/
def busy (o : Order) : State :=
  onEntry 0 (fun _ => { flying .filling with owner := some 1 }) (onEntry 1 (fun _ => { flying .filling with owner := some 1 })
    (unpowered o))

theorem test_meets_ProbeBegins :
    (live (unpowered (.probe 1 true false)) = true ∧
      ((unpowered (.probe 1 true false)).ports.get 1).queue = [.order 3] ∧
      ((unpowered (.probe 1 true false)).slots.get 3).state = .queued ∧
      ((unpowered (.probe 1 true false)).slots.get 3).stopMark = false ∧
      loadRuns 1 (unpowered (.probe 1 true false)) = false ∧ (unpowered (.probe 1 true false)).cell.standing = true ∧
      (unpowered (.probe 1 true false)).cell.sheet = some sheet ∧
      ((unpowered (.probe 1 true false)).ports.get 1).probe = none ∧
      ((unpowered (.probe 1 true false)).ports.get 1).link.state = .dark ∧
      ((unpowered (.probe 1 true false)).ports.get 1).lens.state ≠ .waitPower ∧
      ((unpowered (.probe 1 true false)).ports.get 1).power.state = .off) ∧
    ((begun .auto .unasked).window = sheet.window ∧ (begun .auto .unasked).echoThreshold = sheet.echoThreshold ∧
      (begun .auto .unasked).openLevel = sheet.openLevel ∧ (begun .auto .unasked).shortLevel = sheet.shortLevel ∧
      (begun .auto .unasked).velocity =
        ((unpowered (.learn 1 true)).ports.get 1).cable.velocity.getD sheet.velocityDefault ∧
      (begun .auto .unasked).length = ((unpowered (.learn 1 true)).ports.get 1).cable.length ∧
      (begun .auto .unasked).joints = ((unpowered (.learn 1 true)).ports.get 1).cable.joints ∧
      (begun .auto .unasked).baseline = ((unpowered (.learn 1 true)).ports.get 1).cable.baseline ∧
      (begun .auto .unasked).beganPowered = (((unpowered (.learn 1 true)).ports.get 1).power.base != 0) ∧
      (begun .auto .unasked).readyBy = none ∧ (begun .auto .unasked).path = some .dark ∧ (begun .auto .unasked).sets = []) ∧
    handedOrder 3 (unpowered (.probe 1 false false)) = some (.probe 1 false false) ∧
    (handedOrder 3 (unpowered (.learn 1 false)) = some (.learn 1 false) ∧
      breaksActive 1 (unpowered (.learn 1 false)).faults.log = false) ∧
    (handedOrder 3 (unpowered (.probe 1 true false)) = some (.probe 1 true false) ∧
      judgeClaim 1 .trace (unpowered (.probe 1 true false)) = .got 0 ∧
      (unpowered (.probe 1 true false)).pool.entries[0]? = some buffer ∧
      (begun (.order 3 true) (.got 0)).trace = .got 0) ∧
    (handedOrder 3 (busy (.probe 1 true false)) = some (.probe 1 true false) ∧
      2 ≤ inFlight 1 (busy (.probe 1 true false))) := by decide +kernel

theorem test_meets_ProbeBegins_refused :
    (handedOrder 3 (queues (.probe 1 false false) { cell .configure with cell := { CellCtl.reset with
        mode := .configure } }) = some (.probe 1 false false) ∧
      (queues (.probe 1 false false) { cell .configure with cell := { CellCtl.reset with
        mode := .configure } }).cell.standing = false) ∧
    (handedOrder 3 (unpowered (.probe 1 false true)) = some (.probe 1 false true) ∧
      ((unpowered (.probe 1 false true)).ports.get 1).cable.baseline = [] ∧
      ((unpowered (.probe 1 false true)).ports.get 1).cable.length = none ∧
      ((unpowered (.probe 1 false true)).ports.get 1).sweep = none) ∧
    (breaksActive 1 { unpowered (.learn 1 true) with faults := { FaultUnit.reset with log := [broken] } }.faults.log = true ∧
      { unpowered (.learn 1 true) with faults := { FaultUnit.reset with log := [broken] } }.page.service ≠ .opened) := by
  decide +kernel

/-- The parameters of a focus sweep. -/
def sweepParams : SweepParams := { first := 100, last := 900, count := 3, exposure := 0, goBest := true }

/-- A SWEEP is the head of port 1's queue, the lens being of a kind and in a state. -/
def focuses (c : Option PortSheet) (k : Option LensKind) (st : LensState) : State :=
  onPort 1 (fun q => { q with sheet := c, lens := { q.lens with kind := k, state := st } })
    (queues (.sweep 1 sweepParams) (cell .run))

theorem test_meets_SweepJudged :
    (live (focuses none none .unknown) = true ∧ handedOrder 3 (focuses none none .unknown) = some (.sweep 1 sweepParams) ∧
      ((focuses none none .unknown).ports.get 1).queue = [.order 3] ∧
      ((focuses none none .unknown).slots.get 3).state = .queued ∧ regionOf ((focuses none none .unknown).ports.get 1) = none) ∧
    (regionOf ((focuses (some portSheet) none .unknown).ports.get 1) ≠ none ∧
      ((focuses (some portSheet) none .unknown).ports.get 1).lens.kind = none) ∧
    ((focuses (some portSheet) (some .none) .absent).ports.get 1).lens.kind = some .none ∧
    (((focuses (some portSheet) (some .focus) .stuck).ports.get 1).lens.kind = some .focus ∧ LensKind.focus ≠ .none ∧
      ((focuses (some portSheet) (some .focus) .stuck).ports.get 1).lens.state = .stuck) ∧
    (((focuses (some portSheet) (some .focus) .unknown).ports.get 1).lens.state = .unknown ∧
      ((focuses (some portSheet) (some .focus) .moving).ports.get 1).lens.state = .moving ∧
      ((focuses (some portSheet) (some .focus) .moving).slots.get 3).stopMark = false ∧ sweepParams.count ≠ 0) := by
  decide +kernel

/-! ## Witnesses: power -/

/-- The retry wait of port 1 is over, its want being w and the budget in force f. -/
def retrying (w : Want) (f : Nat) : State :=
  withSheet 1 { portSheet with want := w } (onPower 1 (fun x => { x with state := .retryWait, retryAt := some 0 })
    { cell .run with budget := { Budget.reset with inForce := f } })

theorem test_meets_AllotmentsAndRetries :
    ({ PortPower.reset with base := 120 }.motion = 0 ∧ (∀ d ∈ [{ port := 0, kind := .wake, amount := 200, rating := 0 }],
      150 < PowerClaim.amount d) ∧ (120 : Nat) ≤ 150) ∧
    (live (retrying .off 1200) = true ∧ ((retrying .off 1200).ports.get 1).power.state = .retryWait ∧
      due ((retrying .off 1200).ports.get 1).power.retryAt (retrying .off 1200) = true ∧
      ((retrying .off 1200).ports.get 1).probe = none ∧ ((retrying .off 1200).ports.get 1).cycle = none ∧
      wantOf ((retrying .off 1200).ports.get 1) = .off) ∧
    (wantOf ((retrying .standby 1200).ports.get 1) ≠ .off ∧ (retrying .standby 1200).cell.mode = .run ∧
      (retrying .standby 1200).budget.waitList = [] ∧
      allotment 1 (declaredPower ((retrying .standby 1200).ports.get 1)) (retrying .standby 1200) ≤
        room (retrying .standby 1200) ∧
      room (retrying .on 20) < allotment 1 (declaredPower ((retrying .on 20).ports.get 1)) (retrying .on 20)) ∧
    (due ((onPower 7 (fun w => { w with steadyAt := some 0 }) (cell .run)).ports.get 7).power.steadyAt (cell .run) = true ∧
      due ((cell .run).ports.get 7).power.steadyAt (cell .run) = false ∧
      due ((onPort 7 (fun q => { q with faults := { q.faults with cooldownAt := some 0 } }) (cell .run)).ports.get
        7).faults.cooldownAt (cell .run) = true ∧
      due ((cell .run).ports.get 7).faults.cooldownAt (cell .run) = false) := by decide +kernel

/-- Port 1 is in a power state and the inrush stage serves it. -/
def powering (st : PowerState) (stage : InrushStage) : State :=
  onPower 1 (fun w => { w with state := st, settleAt := some 0, wakeAt := some 0 })
    { cell .run with budget := { (cell .run).budget with stage := stage, inrush := [1, 2] } }

theorem test_meets_PowerUpPath :
    (live (powering .queued (.trimming 1)) = true ∧ (powering .queued (.trimming 1)).budget.stage = .trimming 1 ∧
      ((powering .queued (.trimming 1)).ports.get 1).power.state = .queued ∧
      ((powering .queued (.trimming 1)).ports.get 1).probe = none) ∧
    ((Vector.replicate 16 (-64) : Vector Int 16).toList.sum.tdiv 16 < -63 ∧
      63 < (Vector.replicate 16 64 : Vector Int 16).toList.sum.tdiv 16 ∧
      (-63 ≤ (Vector.replicate 16 (-63) : Vector Int 16).toList.sum.tdiv 16 ∧
        (Vector.replicate 16 63 : Vector Int 16).toList.sum.tdiv 16 ≤ 63)) ∧
    ((powering .inrush .free).budget.stage ≠ .trimming 1) ∧
    ((powering .inrush (.charging 1)).budget.stage = .charging 1 ∧
      ((powering .inrush (.charging 1)).ports.get 1).power.state = .inrush ∧ (24000 : Nat) * 90 ≤ 21600 * 100 ∧
      (21599 : Nat) * 100 < 24000 * 90) ∧
    (((powering .settling .free).ports.get 1).power.state = .settling ∧
      due ((powering .settling .free).ports.get 1).power.settleAt (powering .settling .free) = true ∧
      ((powering .settling .free).ports.get 1).link.state = .dark) ∧
    (((powering .waking .free).ports.get 1).power.state = .waking ∧
      due ((powering .waking .free).ports.get 1).power.wakeAt (powering .waking .free) = true ∧
      ((powering .waking .free).ports.get 1).link.state ≠ .talk ∧
      wantOf ((powering .waking .free).ports.get 1) ≠ .standby) := by decide +kernel

/-- Port 1 is in a power state with its charge and limit times over, tripped n times, every row having an action and route. -/
def failing (st : PowerState) (n : Nat) (a : Action) (r : Route) : State :=
  onSheet (fun c => { c with reactions := Vector.replicate 9 { action := a, route := r } })
    (onPower 1 (fun w => { w with state := st, chargeAt := some 0, limitAt := some 0, retry := n, base := 52 }) (cell .run))

theorem test_meets_PowerFaultActs :
    (live (failing .inrush 2 .cutRetry .attentionStop) = true ∧
      (failing .inrush 2 .cutRetry .attentionStop).budget.waitList = [] ∧
      ((failing .inrush 2 .cutRetry .attentionStop).ports.get 1).power.state = .inrush ∧
      due ((failing .inrush 2 .cutRetry .attentionStop).ports.get 1).power.chargeAt
        (failing .inrush 2 .cutRetry .attentionStop) = true ∧
      ((failing .inrush 2 .cutRetry .attentionStop).ports.get 1).probe = none ∧
      ((failing .inrush 2 .cutRetry .attentionStop).ports.get 1).snap = none ∧
      ((failing .inrush 2 .cutRetry .attentionStop).ports.get 1).sweep = none ∧
      autoProbeOn (failing .inrush 2 .cutRetry .attentionStop) = false ∧
      (reactionOf .inrushTimeout (failing .inrush 2 .cutRetry .attentionStop)).action = .cutRetry ∧
      (reactionOf .inrushTimeout (failing .inrush 2 .cutRetry .attentionStop)).route = .attentionStop ∧
      ((failing .inrush 2 .cutRetry .attentionStop).ports.get 1).power.retry < 3) ∧
    (((failing .limit 3 .cutRetry .attention).ports.get 1).power.state = .limit ∧
      due ((failing .limit 3 .cutRetry .attention).ports.get 1).power.limitAt (failing .limit 3 .cutRetry .attention) = true ∧
      3 ≤ ((failing .limit 3 .cutRetry .attention).ports.get 1).power.retry ∧
      (reactionOf .overload (failing .limit 3 .cutRetry .attention)).route ≠ .attentionStop) ∧
    (reactionOf .overload (failing .limit 0 .cut .nothing)).action = .cut ∧
    (reactionOf .overload (failing .limit 0 .cutLock .nothing)).action = .cutLock ∧
    (reactionOf .overload (failing .limit 0 .nothing .nothing)).action = .nothing := by decide +kernel

/-- Port 1 is in a power state, its last current and its base allotment given. -/
def drawing (st : PowerState) (current base : Nat) : Event :=
  Event.of (onPower 1 (fun w => { w with state := st, current := current, base := base }) (cell .run))

/-- An action has been sent to the Power Manager for port 1, which has tripped n times. -/
def sent (a : Action) (n : Nat) : State :=
  onPower 1 (fun w => { w with retry := n })
    { cell .run with faults := { FaultUnit.reset with sent := [{ port := 1, kind := .lensStuck, action := a, autoProbe := false }] } }

/-! ## Witnesses: the link -/

/-- Port 1 is in WAKE, ON at a rating of 50 dW, its ASK interval and greeting wait over. -/
def waking (c : CableRec) : State :=
  onPort 1 (fun q => { q with
    sheet := some portSheet, cable := c
    link := { q.link with state := .wake, askAt := some 0, greetAt := some 0 }
    power := { q.power with state := .on, rating := some 50, base := 52 } }) (cell .run)

theorem test_meets_HelloEntersTalk :
    live (waking CableRec.absent) = true ∧ ((waking CableRec.absent).ports.get 1).link.state = .wake ∧
    helloOk greeting = true ∧ lensKindOf greeting.lensCode.toNat = some .focus ∧
    ((waking CableRec.absent).ports.get 1).probe = none ∧ ((waking CableRec.absent).ports.get 1).power.motion = 0 ∧
    ((waking CableRec.absent).ports.get 1).power.state = .on ∧
    greeting.maxPower.toNat ≤ ((waking CableRec.absent).ports.get 1).power.rating.getD 0 ∧
    wantOf ((waking CableRec.absent).ports.get 1) ≠ .standby ∧
    ((waking CableRec.absent).ports.get 1).lens.move = none ∧
    ((waking CableRec.absent).ports.get 1).cable.state = .absent ∧
    ((waking { CableRec.absent with state := .declared }).ports.get 1).cable.state ≠ .absent ∧
    helloOk { greeting with lensCode := 9 } = false := by decide +kernel

/-- Port 0 is in TALK, nothing running on it, with a buffer of it in flight. -/
def filming (st : BufState) : State :=
  onEntry 3 (fun _ => flying st) (onPort 0 (fun q => { q with link := { q.link with state := .talk }
                                                              lens := { q.lens with state := .idle } }) (cell .run))

theorem test_meets_FramePacketsJoin :
    (live (filming .reserved) = true ∧ ((filming .reserved).ports.get 0).link.state = .talk ∧ frameOpenOk 4 2 8 = true ∧
      depthOf (8 : Byte).toNat = some .bits8 ∧ joined 0 .reserved 76 (filming .reserved) = none ∧
      joined 0 .reserved 77 (filming .reserved) = some 3 ∧
      (filming .reserved).pool.entries[3]? = some (flying .reserved) ∧ fillingFrame 0 (filming .reserved) = none) ∧
    (frameDataOk [1, 2] = true ∧ joined 0 .filling 76 (filming .filling) = none ∧
      joined 0 .filling 77 (filming .filling) = some 3 ∧ (filming .filling).pool.entries[3]? = some (flying .filling) ∧
      (flying .filling).settings = some { addr := 0x4000, length := 4096, dedication := none } ∧
      [1, 2].take (4096 - (4095 : Word).toNat) = [(1 : Byte)]) := by decide +kernel

/-- The same, the frame's fire being a SNAP's. -/
def snapping (st : BufState) : State :=
  onPort 0 (fun q => { q with queue := [.order 3], snap := some { slot := 3, shot := some (77, 3), opened := true } })
    (runs 3 (.snap 0 0) (filming st))

theorem test_meets_FramesEnd :
    (live (filming .filling) = true ∧ (filming .filling).pool.entries[3]? = some (flying .filling) ∧
      (flying .filling).state = .filling ∧ (flying .filling).kind = .frame ∧ (flying .filling).owner = some 0 ∧
      (flying .filling).stamp = some shot ∧ ((filming .filling).ports.get 0).link.state = .talk ∧
      ((filming .filling).ports.get 0).sweep = none ∧ ((filming .filling).ports.get 0).probe = none ∧
      ((filming .filling).ports.get 0).lens.state ≠ .staged ∧ joined 0 .filling shot.tag (filming .filling) = some 3 ∧
      due (flying .filling).silenceBy (filming .filling) = true ∧ ((filming .filling).ports.get 0).snap = none) ∧
    (((snapping .filling).ports.get 0).snap = some { slot := 3, shot := some (77, 3), opened := true } ∧
      ((snapping .filling).ports.get 0).queue = [.order 3] ∧ ((snapping .filling).slots.get 3).stopMark = false) ∧
    ((filming .reserved).pool.entries[3]? = some (flying .reserved) ∧ (flying .reserved).state = .reserved ∧
      due (flying .reserved).reservedBy (filming .reserved) = true ∧ ((filming .reserved).ports.get 0).snap = none ∧
      ((snapping .reserved).ports.get 0).snap = some { slot := 3, shot := some (77, 3), opened := true } ∧
      due { flying .reserved with reservedBy := some 1 }.reservedBy (filming .reserved) = false) := by decide +kernel

/-- Port 1 is in TALK, its lens of kind FOCUS in a state, with a staged want. -/
def focusing (st : LensState) (want : Axes) (hold : Bool) : State :=
  withSheet 1 { portSheet with hold := hold } (onLens 1 (fun l => { l with
    kind := some .focus, state := st, staged := want, stagingAt := some 0, stuckAt := some 0
    move := some { targets := want, server := .sheet, best := false } }) (talking (cell .run)))

/-- A LENS_STATE at rest at 700. -/
def rested : LensPacket := { presence := 1, focus := 700, iris := 0, zoom := 0, moving := 0 }

theorem test_meets_LensStateTaken :
    (live (focusing .idle Axes.none false) = true ∧ ((focusing .idle Axes.none false).ports.get 1).link.state = .talk ∧
      lensStateOk rested = true ∧ ((focusing .idle Axes.none false).ports.get 1).lens.kind = some .focus ∧
      rested.presence = 1 ∧ (focusing .idle Axes.none false).budget.waitList = [] ∧
      ((focusing .idle Axes.none false).ports.get 1).sweep = none ∧
      ((focusing .idle Axes.none false).ports.get 1).probe = none ∧
      ((focusing .idle Axes.none false).ports.get 1).lens.state = .idle) ∧
    (lensStateOk { rested with moving := 1 } = true ∧
      ((focusing .moving Axes.none false).ports.get 1).lens.state = .moving ∧ { rested with moving := 1 }.moving ≠ 0) ∧
    (((focusing .unknown Axes.none false).ports.get 1).lens.state = .unknown ∧ rested.moving = 0 ∧
      ((focusing .unknown Axes.none false).ports.get 1).lens.staged.unlike { Axes.none with focus := some 700 } = Axes.none ∧
      ((focusing .unknown { Axes.none with focus := some 700 } false).ports.get 1).lens.staged.unlike
        { Axes.none with focus := some 700 } = Axes.none) ∧
    (((filming .reserved).ports.get 0).link.state = .talk ∧
      holdsFrames ((withSheet 0 { portSheet with hold := true } (filming .reserved)).ports.get 0) = true ∧
      frameGap 0 (filming .reserved) = false ∧
      (({ Axes.none with focus := some 701 } : Axes).unlike { Axes.none with focus := some 700 } ≠ Axes.none)) ∧
    ((((focusing .moving Axes.none false).ports.get 1).lens.move =
      some { targets := Axes.none, server := .sheet, best := false })) := by decide +kernel

/-- Port 1's link is in a state, a packet being sent and others waiting. -/
def downlink (st : LinkState) (k : Option Packet) (behind : List Packet) : State :=
  onLink 1 (fun l => { l with state := st, sending := k, waiting := behind }) (cell .run)

theorem test_meets_WakeTimers :
    live (waking CableRec.absent) = true ∧ ((waking CableRec.absent).ports.get 1).link.state = .wake ∧
    due ((waking CableRec.absent).ports.get 1).link.askAt (waking CableRec.absent) = true ∧
    due ((waking CableRec.absent).ports.get 1).link.greetAt (waking CableRec.absent) = true ∧
    ((downlink .wake none []).ports.get 1).link.state = .wake ∧
    due ((downlink .wake none []).ports.get 1).link.askAt (downlink .wake none []) = false ∧
    due ((downlink .wake none []).ports.get 1).link.greetAt (downlink .wake none []) = false := by decide +kernel

/-- Port 0's link is in a state, its silence and its hush wait over, a frame of it in flight. -/
def falling (st : LinkState) (b : BufState) : State :=
  onLink 0 (fun l => { l with state := st, silenceAt := some 0, hushAt := some 0 }) (filming b)

theorem test_meets_WindowsOfMotion :
    (live (cell .run) = true ∧ (1000 : Nat) ≤ 1000 ∧ true ≠ (cell .run).trigger.motion ∧ (999 : Nat) < 1000 ∧
      false = (cell .run).trigger.motion) ∧
    (live { filming .filling with clock := 100000 } = true ∧
      { filming .filling with clock := 100000 }.trigger.windowAt ≤ { filming .filling with clock := 100000 }.clock ∧
      ∀ p, ((filming .filling).ports.get p).met = false ∧ ((filming .filling).ports.get p).quiet < 99 ∧
        (∀ n ∈ ((filming .filling).ports.get p).link.motionHistory, n < flickerThreshold (filming .filling)) ∧
        ((filming .filling).ports.get p).link.motionWindow < flickerThreshold (filming .filling)) := by decide +kernel

/-! ## Witnesses: triggers -/

/-- The encoder's edge and remainder, with no program armed. -/
def encoder (k : Edge) (r : Nat) : State :=
  onSheet (fun c => { c with edge := k }) { cell .run with trigger := { (cell .run).trigger with remainder := r } }

theorem test_meets_LineEdgesFiltered :
    (live (encoder .both 1) = true ∧ false = (encoder .both 1).trigger.enc ∧ true ≠ (encoder .both 1).trigger.enc ∧
      encoderSetting (encoder .both 1) = (.both, 3) ∧ (encoder .both 1).trigger.remainder + 1 < 3) ∧
    (encoderSetting (encoder .rise 2) = (.rise, 3) ∧ 3 ≤ (encoder .rise 2).trigger.remainder + 1 ∧
      ∀ i, ((encoder .rise 2).trigger.programs.get i).target ≠ some ((encoder .rise 2).trigger.encCount + 1)) ∧
    encoderSetting (encoder .fall 2) = (.fall, 3) ∧
    (false = (cell .run).trigger.trig ∧ true ≠ (cell .run).trigger.trig ∧
      ∀ i, ((cell .run).trigger.programs.get i).state = .disarmed) := by decide +kernel

/-- Program 3 is in a state, its record having a source, its timer and its target met; two edges are counted. -/
def programmed (st : ProgState) (k : Source) : State :=
  onProgram 3 (fun g => { g with
    state := st, nextEvent := some 0, target := some 1
    record := { source := k, period := 100, spacing := 2
                steps := [{ offset := 5, ports := 3, exposure := 0, strobes := 3, width := 300 },
                  { offset := 6, ports := 0, exposure := 0, strobes := 0, width := 0 }] } }) (encoder .both 2)

theorem test_meets_SourceEventsRun :
    (live (programmed .armed .timer) = true ∧ ((programmed .armed .timer).trigger.programs.get 3).state = .armed ∧
      (((programmed .armed .timer).trigger.programs.get 3).record.steps.head?.map ProgStep.offset) = some 5 ∧
      ((programmed .armed .timer).trigger.programs.get 3).nextEvent = some 0 ∧ 0 ≤ (programmed .armed .timer).clock) ∧
    ((programmed .running .lineRise).trigger.programs.get 3).state = .running ∧
    (true ≠ (programmed .running .lineRise).trigger.trig ∧
      ((programmed .running .lineRise).trigger.programs.get 3).record.source = .lineRise ∧
      ∀ j, j ≠ 3 → ((programmed .running .lineRise).trigger.programs.get j).state = .disarmed) ∧
    (((programmed .armed .encoder).trigger.programs.get 3).record.source = .encoder ∧
      ((programmed .armed .encoder).trigger.programs.get 3).target =
        some ((programmed .armed .encoder).trigger.encCount + 1) ∧
      (∀ j, j ≠ 3 → ((programmed .armed .encoder).trigger.programs.get j).target ≠
        some ((programmed .armed .encoder).trigger.encCount + 1)) ∧
      (encoderSetting (programmed .armed .encoder)).2 ≤ (programmed .armed .encoder).trigger.remainder + 1 ∧
      (encoderSetting (programmed .armed .encoder)).1 = .both) ∧
    ((programmed .disarmed .timer).trigger.programs.get 3).state = .disarmed := by decide +kernel

theorem test_meets_StepsAndStrobes :
    (live (programmed .running .timer) = true ∧ ((programmed .running .timer).trigger.programs.get 3).state = .running ∧
      ((programmed .running .timer).trigger.programs.get 3).record.steps[((programmed .running .timer).trigger.programs.get
        3).nextStep]? = some { offset := 5, ports := 3, exposure := 0, strobes := 3, width := 300 } ∧
      (programmed .running .timer).clock < ((programmed .running .timer).trigger.programs.get 3).runStart + 5) ∧
    (((programmed .running .timer).trigger.programs.get 3).runStart + 5 ≤
        { programmed .running .timer with clock := 5 }.clock ∧
      ∀ p, ((programmed .running .timer).ports.get p).power.state ≠ .on ∧
        ((programmed .running .timer).ports.get p).lens.state ≠ .staged ∧
        ((programmed .running .timer).ports.get p).probe = none) ∧
    (((#v[some 0, some 1, none, none] : Vector (Option Nat) 4).get 0 = some 0 ∧ 0 ≤ (cell .run).clock) ∧
      ((#v[some 0, some 1, none, none] : Vector (Option Nat) 4).get 1 = some 1 ∧ (cell .run).clock < 1) ∧
      (cell .run).trigger.strobes.get 3 = none) := by decide +kernel

/-! ## Witnesses: lenses and probes -/

/-- A want of focus 701. -/
def want : Axes := { Axes.none with focus := some 701 }

theorem test_meets_LensTimers :
    (live (focusing .staged want false) = true ∧
      due ((focusing .staged want false).ports.get 1).lens.stagingAt (focusing .staged want false) = true ∧
      due ((cell .run).ports.get 1).lens.stagingAt (cell .run) = false ∧
      ((focusing .idle want false).ports.get 1).lens.state ≠ .staged) ∧
    (((focusing .staged want false).ports.get 1).lens.state = .staged ∧
      holdsFrames ((focusing .staged want false).ports.get 1) = false ∧
      ((focusing .staged want false).ports.get 1).link.state = .talk ∧
      ((focusing .staged want false).ports.get 1).probe = none ∧
      ((focusing .staged want false).ports.get 1).sweep = none ∧
      ((focusing .staged want false).ports.get 1).lens.stagedBy = .sheet ∧
      (focusing .staged want false).budget.waitList = [] ∧
      max 1 (((focusing .staged want false).ports.get 1).link.identity.map Identity.motionPower |>.getD 0) ≤
        room (focusing .staged want false) ∧
      room { focusing .staged want false with budget := Budget.reset } <
        max 1 (((focusing .staged want false).ports.get 1).link.identity.map Identity.motionPower |>.getD 0)) ∧
    (((focusing .moving want false).ports.get 1).lens.state = .moving ∧
      due ((focusing .moving want false).ports.get 1).lens.stuckAt (focusing .moving want false) = true ∧
      ((focusing .staged want false).ports.get 1).lens.state ≠ .moving) ∧
    (holdsFrames ((withSheet 0 { portSheet with hold := true } (filming .reserved)).ports.get 0) = true ∧
      frameGap 0 (withSheet 0 { portSheet with hold := true } (filming .reserved)) = false) := by decide +kernel

/-- The run of a probe whose ready limit is over. -/
def unready (job : ProbeJob) : ProbeRun := { probeRun job .classing with readyBy := some 0 }

theorem test_meets_ProbeEnds :
    (live (probes (probeRun .auto .classing) .start (cell .run)) = true ∧
      ((probes (probeRun .auto .classing) .start (cell .run)).ports.get 1).probe = some (probeRun .auto .classing) ∧
      due (probeRun .auto .classing).readyBy (cell .run) = false) ∧
    (((probes (unready (.learn 3)) (.learn 1 false) (cell .run)).ports.get 1).probe = some (unready (.learn 3)) ∧
      due (unready (.learn 3)).readyBy (cell .run) = true ∧
      ((probes (unready (.learn 3)) (.learn 1 false) (cell .run)).ports.get 1).link.state ≠ .hush ∧
      ((probes (unready (.learn 3)) (.learn 1 false) (cell .run)).ports.get 1).power.owed = false ∧
      ((probes (unready (.learn 3)) (.learn 1 false) (cell .run)).ports.get 1).lens.state ≠ .staged ∧
      (unready (.learn 3)).trace = .unasked ∧
      ((probes (unready (.learn 3)) (.learn 1 false) (cell .run)).ports.get 1).queue = [.order 3] ∧
      (unready (.order 3 false)).job = .order 3 false) ∧
    ((onPort 1 (fun q => { q with probe := some (unready .auto), queue := [.probe] }) (cell .run)).ports.get 1).queue =
      [.probe] ∧
    ((probeRun (.order 3 false) .pulsing).phase = .pulsing ∧ (probeRun (.order 3 false) .pulsing).path = some .dark ∧
      ((probes (probeRun (.order 3 false) .pulsing) (.probe 1 false false) (cell .run)).ports.get 1).link.state = .dark ∧
      ((probes (probeRun (.order 3 false) .pulsing) (.probe 1 false false) (cell .run)).ports.get 1).queue = [.order 3] ∧
      ((probes (probeRun (.order 3 false) .pulsing) (.probe 1 false false) (cell .run)).ports.get 1).power.owed = false) := by
  decide +kernel

/-- A pulse set with one echo at tick 90. -/
def pulses : Vector (List Int) 16 := Vector.replicate 16 (List.replicate 90 0 ++ [120] ++ List.replicate 165 0)

theorem test_pulses_give_one_echo :
    echoesOf 20 (averaged 256 pulses.toList) = [{ ticks := 90, polarity := .pos, amplitude := 120 }] := by decide +kernel

/-- A LEARN of port 1 after its earlier pulse sets. -/
def learning (sets : List (List Echo)) : ProbeRun := { probeRun (.learn 3) .pulsing with sets := sets }

/-- One echo. -/
def echo : Echo := { ticks := 90, polarity := .pos, amplitude := 120 }

theorem test_meets_LearnPulses :
    (live (probes (learning []) (.learn 1 false) (cell .run)) = true ∧
      ((probes (learning []) (.learn 1 false) (cell .run)).ports.get 1).probe = some (learning []) ∧
      (learning []).phase = .pulsing ∧ (learning []).job = .learn 3 ∧ (learning []).trace = .unasked ∧
      (learning [[echo], [echo]]).sets.length < 3 ∧ (probeRun (.learn 3) .classing).phase ≠ .pulsing) ∧
    ((learning [[echo], [echo], [echo]]).sets = [echo] :: [[echo], [echo]] ∧ [[echo], [echo]].length = 2 ∧
      (learning [[echo], [echo], [echo]]).path = some .dark ∧
      ((probes (learning [[echo], [echo], [echo]]) (.learn 1 false) (cell .run)).ports.get 1).link.state = .dark ∧
      ((probes (learning [[echo], [echo], [echo]]) (.learn 1 false) (cell .run)).ports.get 1).power.owed = false ∧
      ((probes (learning [[echo], [echo], [echo]]) (.learn 1 false) (cell .run)).ports.get 1).queue = [.order 3]) ∧
    ([echo] ≠ [] ∧ (∀ l ∈ [[echo], [echo]] ++ [[echo]], steadyWith [echo] l = true) ∧
      ∃ l ∈ [[echo], []] ++ [[echo]], steadyWith [echo] l = false) := by decide +kernel

theorem test_meets_ChecksAndPackets :
    uplinkCommand 7 ([0x46, 0x00, 0x02, 0x5D, 0xC0] ++ beBytes 2 (crc16 [0x46, 0x00, 0x02, 0x5D, 0xC0]).toNat) = .idle 7 24000 ∧
    crc16 [0x46, 0x00, 0x02, 0x5D, 0xC0] ≠ 0 ∧
    uplinkCommand 7 [0x46, 0x00, 0x02, 0x5D, 0xC0, 0, 0] = .badPacket 7 := by decide +kernel

theorem test_meets_SavedCableReloads :
    judgeCable cableRecord = .ok { CableRec.absent with state := .declared, length := some 3000 } ∧
    judgeCable ({ CableRec.absent with state := .declared, length := some 3000 } : CableRec).bytes =
      .ok { CableRec.absent with state := .declared, length := some 3000 } := by decide +kernel

theorem test_meets_CopyKeepsItsCheck : sheetRecord.length = 0x400 ∧ judgeCellSheet sheetRecord = .ok sheet :=
  ⟨by decide +kernel, test_cell_sheet_record⟩

/-! ## Witnesses: what every step keeps -/

theorem test_meets_HandOffKept : HandOff (cell .configure) where
  held := by decide +kernel
  recheck := by decide +kernel
  header := by decide +kernel
  standing := by decide +kernel
  copied := by decide +kernel
  funded := by decide +kernel
  divided := by decide +kernel

theorem test_meets_BreakLogKept : LogOk [broken] ∧ LogApart [broken] := by
  refine ⟨⟨by decide +kernel, by decide +kernel, by decide +kernel⟩, ?_⟩
  exact List.pairwise_singleton _ _

theorem test_meets_reachable_laws : Reachable State.reset := .reset


/-! ## Witnesses: resets and page takes -/

/-- The part is held in a line reset. -/
def lineHeld : State := { State.reset with resetHeld := true }

/-- A release in progress, with a PAGE_HI write waiting for the pair hi, lo. -/
def paired (hi lo : Word) : State :=
  { State.reset with page := { PageIf.reset with releasing := true, hiOwed := true, hi := hi, lo := lo } }

theorem test_meets_ResetsAndTakes :
    ((cell .run).powered = true ∧ lineHeld.powered = true ∧ lineHeld.resetHeld = true ∧
      live lineHeld = false ∧ live { lineHeld with powered := false } = false) ∧
    (live taking = true ∧ taking.page.taken = .taking ∧ due taking.page.headerReadBy taking = true ∧
      (some (0x4B573843, 2) : Option (Word × Word)) ≠ some (0x4B573843, 1) ∧ State.reset.page.taken ≠ .taking ∧
      7 ≠ taking.reads.header ∧ due ({ taking with page := { taking.page with headerReadBy := some 1 } }).page.headerReadBy taking = false) ∧
    (live (cell .run) = true ∧ (cell .run).page.taken = .held ∧ (cell .run).page.releasing = false ∧
      ((5 : Word) ++ (cell .run).page.lo : Addr) ≠ 0 ∧ ((5 : Word) ++ (cell .run).page.lo : Addr) &&& 0xFFF = 0 ∧
      ((0 : Word) ++ (0x800 : Word) : Addr) ≠ 0 ∧ ((0 : Word) ++ (0x800 : Word) : Addr) &&& 0xFFF ≠ 0) ∧
    (live (paired 0 0) = true ∧ (paired 0 0).page.releasing = true ∧ (paired 0 0).page.hiOwed = true ∧
      (paired 0 0).page.taken = .absent ∧ pagePair (paired 0 0) = 0 ∧ pagePair (paired 0 0x800) &&& 0xFFF ≠ 0) := by
  decide +kernel

/-! ## Witnesses: sheets -/

/-- A read of the Cell Sheet is outstanding while a POOL sweep is in a state, the tracker holding another layout or not. -/
def resheeted (st : AreaState) (addr : Addr) : State :=
  onArea .pool st { reading .cellSheet 0 (cell .configure) with
    pool := { (cell .configure).pool with layout := some { addr := addr, count := 4 } } }

/-- A POOL sweep at its last record, a rebuild owed. -/
def rebuildOwed : State :=
  { reading .pool 3 (cell .run) with pool := { (cell .run).pool with rebuildOwed := some { addr := 0x40000, count := 2 } } }

theorem test_meets_CellSheetJudged :
    (live (resheeted .idle 0x20000) = true ∧ (resheeted .idle 0x20000).page.taken = .held ∧
      (resheeted .idle 0x20000).handed = none ∧ outstanding .cellSheet (resheeted .idle 0x20000) = some 0 ∧
      (resheeted .idle 0x20000).cell.mode = .configure ∧ (cell .run).cell.mode ≠ .configure ∧
      (resheeted .idle 0x20000).pool.layout = some { addr := sheet.poolAddr, count := sheet.bufCount }) ∧
    ((resheeted .idle 0x40000).pool.layout ≠ some { addr := sheet.poolAddr, count := sheet.bufCount } ∧
      areaState .pool (resheeted .idle 0x40000) = .idle ∧ areaState .pool (resheeted .pending 0x40000) = .pending ∧
      areaState .pool (resheeted (.sweeping true 1 none) 0x40000) = .sweeping true 1 none) ∧
    (live rebuildOwed = true ∧ rebuildOwed.handed = none ∧ areaState .pool rebuildOwed = .sweeping false 3 (some 50000) ∧
      areaCount .pool rebuildOwed ≤ 3 + 1 ∧ rebuildOwed.pool.claims = [] ∧ rebuildOwed.pool.entries[3]? = some buffer ∧
      buffer.loaded = true ∧ handOf 0x10 (List.replicate 0x10 0) = buffer.hand ∧
      rebuildOwed.pool.rebuildOwed = some { addr := 0x40000, count := 2 }) ∧
    (live (rebuilding 3) = true ∧ (rebuilding 3).pool.rebuild = some { next := 3, readBy := 0 } ∧
      (rebuilding 3).pool.layout = some { addr := 0x20000, count := 4 } ∧ 0 ≤ (rebuilding 3).clock ∧
      (rebuilding 3).page.taken = .held ∧ (rebuilding 2).pool.rebuild = some { next := 2, readBy := 0 }) ∧
    ((cell .run).pool.rebuild = none ∧ 5 ≠ (rebuilding 3).reads.hand) := by decide +kernel

theorem test_meets_CellSheetJudged_records :
    (judgeCellSheet sheetRecord = .ok sheet ∧ handOf 0x400 sheetRecord ≠ (resheeted .idle 0x20000).cell.take.hand) ∧
    (judgeCellSheet (List.replicate 0x3FF 0 ++ [1]) = .error (.badCheck, 0) ∧
      handOf 0x400 (List.replicate 0x3FF 0 ++ [1]) ≠ (resheeted .idle 0x20000).cell.take.hand) :=
  ⟨⟨test_cell_sheet_record, by decide +kernel⟩, by decide +kernel⟩

/-- A Port Sheet record with a want, hold-frames and a focus want. -/
def portBytes (want hold present focus : Byte) : List Byte :=
  record 0x180 [want, 50, 5, 0, 0x40, 0x1F, 0, 0, 0, 15, hold, present, focus, 0] 9

/-- The sheet it holds. -/
def wanting (w : Want) (hold : Bool) (f : Option Nat) : PortSheet :=
  { portSheet with want := w, hold := hold, lens := { Axes.none with focus := f }, region := none }

theorem test_port_bytes :
    judgePortSheet (portBytes 0 0 0 0) = .ok (wanting .off false none) ∧
    judgePortSheet (portBytes 1 0 0 0) = .ok (wanting .on false none) ∧
    judgePortSheet (portBytes 1 0 1 90) = .ok (wanting .on false (some 90)) ∧
    judgePortSheet (portBytes 1 1 1 90) = .ok (wanting .on true (some 90)) ∧
    judgePortSheet (portBytes 2 0 0 0) = .ok (wanting .standby false none) := by decide +kernel

/-- A focus sweep from slot 3 in a phase, at a step, with the steps recorded. -/
def sweepRun (phase : SweepPhase) (index : Nat) (steps : List SweepStep) : SweepRun where
  slot := 3
  params := sweepParams
  index := index
  phase := phase
  focus := 100
  shot := if phase = .frame then some (77, 0) else none
  steps := steps

/-- Port 1's sheet is being read, its power, link and lens being in a state. -/
def takes (st : PowerState) (ls : LinkState) (l : LensState) (s : State) : State :=
  reading (.portSheet 1) 0 (onPort 1 (fun q => { q with
    power := { q.power with state := st, base := if st.powered then 30 else 0, full := 52 }, link := { q.link with state := ls }
    lens := { q.lens with state := l, kind := some .focus, focusLimits := { low := 0, high := 4095 }, stagingMark := true } }) s)

/-- Is a new record of port 1 being read? -/
def offers (s : State) : Bool :=
  live s && outstanding (.portSheet 1) s == some 0 && handOf 0x180 (portBytes 1 1 1 90) != (s.ports.get 1).take.hand

/-- The same with a frame of port 1 in flight. -/
def shooting (s : State) : State := onEntry 0 (fun _ => { flying .reserved with owner := some 1 }) s

/-- The lens of port 1 forms a want of its own from the sheet's. -/
def formed (s : State) (c : PortSheet) : Axes := ((s.ports.get 1).lens.formWant c.lens).1

theorem test_meets_PortSheetActs_lens :
    (offers (takes .lockedOut .dark .absent (cell .run)) = true ∧ offers (takes .off .dark .idle (cell .configure)) = true ∧
      (cell .configure).cell.mode ≠ .run ∧ offers (takes .on .talk .idle (cell .run)) = true ∧
      offers (takes .waking .talk .stuck (cell .run)) = true ∧ ((cell .run).ports.get 1).sweep = none) ∧
    (formed (takes .on .talk .stuck (cell .run)) (wanting .on true none) = Axes.none ∧
      formed (shooting (takes .on .talk .idle (cell .run))) (wanting .on true (some 90)) ≠ Axes.none ∧
      frameGap 1 (shooting (takes .on .talk .idle (cell .run))) = false ∧
      offers (shooting (takes .on .talk .idle (cell .run))) = true) ∧
    (((takes .on .talk .staged (cell .run)).ports.get 1).lens.state = .staged ∧
      ((takes .on .talk .waitPower (cell .run)).ports.get 1).lens.state = .waitPower ∧
      ((takes .on .talk .waitPower (cell .run)).ports.get 1).lens.stagingMark = true ∧
      formed (takes .on .talk .waitPower (cell .run)) (wanting .on false none) = Axes.none ∧
      formed (takes .on .talk .waitPower (cell .run)) (wanting .on false (some 90)) ≠ Axes.none ∧
      frameGap 1 (takes .on .talk .waitPower (cell .run)) = true ∧
      formed (shooting (takes .on .talk .waitPower (cell .run))) (wanting .on true (some 90)) ≠ Axes.none ∧
      frameGap 1 (shooting (takes .on .talk .waitPower (cell .run))) = false) ∧
    (((onPort 1 (fun q => { q with sweep := some (sweepRun .moving 0 []) }) (takes .on .talk .moving (cell .run))).ports.get
        1).sweep = some (sweepRun .moving 0 []) ∧
      ((takes .on .talk .moving (cell .run)).ports.get 1).lens.state ≠ .waitPower) := by decide +kernel

/-- Other ports' claims wait: port 3's fits, port 2's does not. -/
def contended (s : State) : State :=
  onPower 2 (fun w => { w with state := .waiting }) (onPower 3 (fun w => { w with state := .waiting }) { s with
    budget := { s.budget with
      inForce := 60
      waitList := [{ port := 2, kind := .powerUp, amount := 500, rating := 500 }, { port := 3, kind := .powerUp, amount := 9, rating := 9 }] } })

/-- The same state with no budget left. -/
def spent (s : State) : State := { s with budget := { s.budget with inForce := allotted s } }

theorem test_meets_PortSheetActs_power :
    (offers (takes .held .dark .unknown (cell .run)) = true ∧ ((takes .held .dark .unknown (cell .run)).ports.get 1).probe = none ∧
      ((takes .held .dark .unknown (cell .run)).ports.get 1).cycle = none ∧
      (takes .held .dark .unknown (cell .run)).budget.waitList = [] ∧
      allotment 1 50 (takes .held .dark .unknown (cell .run)) ≤ room (takes .held .dark .unknown (cell .run)) ∧
      room (spent (takes .off .dark .unknown (cell .run))) < allotment 1 50 (spent (takes .off .dark .unknown (cell .run)))) ∧
    (((takes .waiting .dark .unknown (cell .run)).ports.get 1).power.state = .waiting ∧
      ((takes .retryWait .dark .unknown (cell .run)).ports.get 1).power.state = .retryWait ∧
      ((takes .standby .talk .unknown (cell .run)).ports.get 1).power.state = .standby ∧
      52 - 30 ≤ room (takes .standby .talk .unknown (cell .run)) ∧
      room (spent (takes .standby .talk .unknown (cell .run))) < 52 - 30) ∧
    (∀ s, s = contended (takes .on .talk .unknown (cell .run)) → offers s = true ∧ (s.ports.get 1).power.state = .on ∧
      (s.ports.get 1).link.state = .talk ∧ (∀ d ∈ s.budget.waitList, d.kind = .powerUp ∧ d.port ≠ 1 ∧
        (s.ports.get d.port).power.state = .waiting ∧ (s.ports.get d.port).power.base = 0 ∧ (s.ports.get d.port).probe = none) ∧
      (s.budget.waitList.map (·.port)).Nodup) ∧
    (offers (probes (probeRun .auto .pulsing) .start (takes .on .talk .unknown (cell .run))) = true ∧
      ((probes (probeRun .auto .pulsing) .start (takes .on .talk .unknown (cell .run))).ports.get 1).probe ≠ none ∧
      ((probes (probeRun .auto .pulsing) .start (takes .off .dark .unknown (cell .run))).ports.get 1).cycle = none) ∧
    (((takes .on .talk .moving (cell .run)).ports.get 1).power.state.powered = true ∧
      ((takes .on .talk .moving (cell .run)).ports.get 1).snap = none) := by
  refine ⟨by decide +kernel, by decide +kernel, ?_, by decide +kernel, by decide +kernel⟩
  rintro _ rfl
  decide +kernel

/-- A lens of kind FOCUS with limits from 100 to 4000. -/
def limited : LensRec := { LensRec.reset with kind := some .focus, focusLimits := { low := 100, high := 4000 } }

theorem test_meets_PortSheetActs_wants :
    (limited.kind = some .focus ∧ limited.focusLimits.low ≤ limited.focusLimits.high ∧
      ({ Axes.none with focus := some 99 } : Axes).focus = some 99) ∧
    (live (waking CableRec.absent) = true ∧ ((waking CableRec.absent).ports.get 1).link.state = .wake ∧ helloOk greeting = true ∧
      (lensKindOf greeting.lensCode.toNat).isSome = true ∧ ((waking CableRec.absent).ports.get 1).probe = none ∧
      wantOf ((waking CableRec.absent).ports.get 1) ≠ .standby ∧ ((waking CableRec.absent).ports.get 1).power.motion = 0 ∧
      ((waking CableRec.absent).ports.get 1).power.rating.getD 0 < { greeting with maxPower := 60 }.maxPower.toNat ∧
      helloOk { greeting with maxPower := 60 } = true ∧
      allotment 1 60 (waking CableRec.absent) ≤ 52 + room (waking CableRec.absent) ∧
      52 + room (spent (waking CableRec.absent)) < allotment 1 60 (spent (waking CableRec.absent))) := by decide +kernel

/-! ## Witnesses: fire decisions -/

/-- A step of program 3 is due for port 1 alone, its port ON with link and lens in a state. -/
def stepping (ls : LinkState) (l : LensState) (hold : Bool) : State :=
  { onPort 1 (fun q => { q with
      sheet := some { portSheet with hold := hold }, power := { q.power with state := .on }
      link := { q.link with state := ls }, lens := { q.lens with state := l } }) (programmed .running .timer) with clock := 5 }

/-- The step due. -/
def dueStep : ProgStep := { offset := 5, ports := 3, exposure := 0, strobes := 3, width := 300 }

/-- Two buffers of port 1 are in flight. -/
def full (s : State) : State :=
  onEntry 0 (fun _ => { flying .filling with owner := some 1 }) (onEntry 1 (fun _ => { flying .filling with owner := some 1 }) s)

/-- Every buffer is with the host. -/
def drained (s : State) : State :=
  { s with pool := { s.pool with entries := s.pool.entries.map fun x => { x with state := .out } } }

/-- A claim of a program step waits for the POOL sweep, which is at its last record. -/
def awaiting (c : ClaimStatus) (s : State) : State :=
  let t := reading .pool 3 s
  { t with pool := { t.pool with claims := [
    { port := 1, requester := .step 3 0, exposure := 8000, begun := true, status := c }] } }

theorem test_meets_FireDecisions :
    (live (stepping .talk .idle true) = true ∧ ((stepping .talk .idle true).trigger.programs.get 3).state = .running ∧
      ((stepping .talk .idle true).trigger.programs.get 3).record.steps[((stepping .talk .idle true).trigger.programs.get
        3).nextStep]? = some dueStep ∧
      ((stepping .talk .idle true).trigger.programs.get 3).runStart + dueStep.offset ≤ (stepping .talk .idle true).clock ∧
      (∀ o, (dueStep.ports.getLsbD o.val = true ∧
        ((stepping .talk .idle true).ports.get o).sheet.any (fun c => c.members.getLsbD 3) = true) ↔ o = 1) ∧
      ((stepping .talk .idle true).ports.get 1).power.state = .on) ∧
    (((stepping .hushing .idle true).ports.get 1).link.state = .hushing ∧
      ((stepping .hushing .idle true).ports.get 1).lens.state ≠ .staged ∧
      ((probes (probeRun .auto .classing) .start (stepping .talk .idle true)).ports.get 1).probe =
        some (probeRun .auto .classing) ∧ (probeRun .auto .classing).phase ≠ .draining) ∧
    (holdsFrames ((full (stepping .talk .staged true)).ports.get 1) = true ∧
      ((full (stepping .talk .staged true)).ports.get 1).lens.state = .staged ∧
      inFlight 1 (full (stepping .talk .staged true)) ≠ 0 ∧
      ((stepping .talk .moving true).ports.get 1).lens.state = .moving) ∧
    (((stepping .talk .idle true).ports.get 1).link.state = .talk ∧ ((stepping .talk .idle true).ports.get 1).probe = none ∧
      2 ≤ inFlight 1 (full (stepping .talk .idle true)) ∧ (stepping .talk .idle true).page.taken = .held ∧
      judgeClaim 1 .frame (drained (stepping .talk .idle true)) = .nothing ∧
      (stepping .talk .idle true).cell.mode = .run ∧ judgeClaim 1 .frame (stepping .talk .idle true) = .got 0 ∧
      (stepping .talk .idle true).pool.entries[0]? = some buffer) := by decide +kernel

theorem test_meets_FireDecisions_waiting :
    (live (awaiting .live (stepping .talk .idle true)) = true ∧ (awaiting .live (stepping .talk .idle true)).handed = none ∧
      areaState .pool (awaiting .live (stepping .talk .idle true)) = .sweeping false 3 (some 50000) ∧
      areaCount .pool (awaiting .live (stepping .talk .idle true)) ≤ 3 + 1 ∧
      (awaiting .live (stepping .talk .idle true)).pool.entries[3]? = some buffer ∧ buffer.loaded = true ∧
      handOf 0x10 (List.replicate 0x10 0) = buffer.hand ∧
      (awaiting .live (stepping .talk .idle true)).pool.rebuildOwed = none ∧
      ((awaiting .live (stepping .talk .idle true)).ports.get 1).probe = none ∧
      ((awaiting .live (stepping .talk .idle true)).ports.get 1).lens.state ≠ .staged) ∧
    (2 ≤ inFlight 1 (full (awaiting .live (stepping .talk .idle true))) ∧
      (full (awaiting .live (stepping .talk .idle true))).pool.entries[3]? = some buffer ∧
      judgeClaim 1 .frame (awaiting .live (stepping .wake .idle true)) = .noBuffer ∧
      (awaiting .live (stepping .talk .idle true)).cell.mode = .run ∧
      judgeClaim 1 .frame (awaiting .live (stepping .talk .idle true)) = .got 0) ∧
    (judgeClaim 1 .frame (awaiting .dropped (stepping .talk .idle true)) = .got 0 ∧
      ∀ b, judgeClaim 1 .frame (awaiting .dropped (stepping .wake .idle true)) ≠ .got b) := by
  refine ⟨by decide +kernel, by decide +kernel, by decide +kernel, fun b h => ?_⟩
  rw [show judgeClaim 1 .frame (awaiting .dropped (stepping .wake .idle true)) = .noBuffer by decide +kernel] at h
  exact nomatch h

theorem test_meets_FireDecisions_start :
    ∀ s, s = onProgram 3 (fun g => { g with record := { g.record with steps := [{ dueStep with offset := 0 }, dueStep] } })
      (programmed .armed .timer) → live s = true ∧ (s.trigger.programs.get 3).state = .armed ∧
    (s.trigger.programs.get 3).nextEvent = some 0 ∧ 0 ≤ s.clock ∧
    (s.trigger.programs.get 3).record.steps = { dueStep with offset := 0 } :: [dueStep] ∧ dueStep.offset ≠ 0 ∧
    ∀ o, (s.ports.get o).sheet.any (fun c => c.members.getLsbD 3) = false := by
  rintro _ rfl
  decide +kernel

/-! ## Witnesses: focus sweeps -/

/-- Port 1, in TALK, runs a focus sweep as the head of its queue, its lens in a state at 700. -/
def sweeps (l : LensState) (w : SweepRun) : State :=
  runs 3 (.sweep 1 sweepParams) (onPort 1 (fun q => { q with
    queue := [.order 3], sweep := some w, sheet := some portSheet
    lens := { q.lens with
      state := l, focusLimits := { low := 0, high := 4095 }, pos := { Axes.none with focus := some 700 }, stuckAt := some 0
      move := some { targets := { Axes.none with focus := some 700 }, server := .sweep, best := false } } })
    (talking (cell .run)))

/-- The sweep's frame is in flight in buffer 0. -/
def sweepFrames (st : BufState) (i : Nat) : State :=
  onEntry 0 (fun _ => { flying st with owner := some 1, stamp := some { shot with port := 1 } })
    (onLink 1 (fun l => { l with silenceAt := some 0 }) (sweeps .idle (sweepRun .frame i [])))

/-- The sweep has just become the head. -/
def sweepOrdered : State :=
  onPort 1 (fun q => { q with sweep := none })
    { onSlot 3 (fun x => { x with state := .queued }) (sweeps .idle (sweepRun .frame 0 [])) with handed := some 3 }

theorem test_meets_SweepSteps :
    (2 ≤ sweepParams.count ∧ 2 < sweepParams.count ∧ (0 : Nat) ≤ 4095) ∧
    (bestStep [⟨1, none, none⟩] 0 none = none ∧ bestStep [⟨1, none, some 4⟩, ⟨2, some 1, some 5⟩, ⟨3, some 2, some 5⟩] 0 none =
      some (1, ⟨2, some 1, some 5⟩, 5)) ∧
    (live sweepOrdered = true ∧ (sweepOrdered.ports.get 1).link.state = .talk ∧ (sweepOrdered.ports.get 1).probe = none ∧
      (sweepOrdered.ports.get 1).snap = none ∧ (sweepOrdered.ports.get 1).lens.staged = Axes.none ∧
      (sweepOrdered.ports.get 1).lens.stagedBy = .sheet ∧ sweepOrdered.budget.waitList = [] ∧ sweepOrdered.pool.claims = [] ∧
      (sweepOrdered.ports.get 1).queue = [.order 3] ∧ (sweepOrdered.ports.get 1).lens.state = .idle ∧
      (sweepOrdered.ports.get 1).sweep = none ∧ frameGap 1 sweepOrdered = true ∧
      (sweepOrdered.ports.get 1).power.motion = 0 ∧
      max 1 ((sweepOrdered.ports.get 1).link.identity.map Identity.motionPower |>.getD 0) ≤ room sweepOrdered ∧
      handedOrder 3 sweepOrdered = some (.sweep 1 sweepParams) ∧ (sweepOrdered.slots.get 3).state = .queued ∧
      (sweepOrdered.slots.get 3).stopMark = false ∧ regionOf (sweepOrdered.ports.get 1) ≠ none ∧
      (sweepOrdered.ports.get 1).lens.kind = some .focus ∧
      (sweepOrdered.ports.get 1).lens.pos.focus ≠
        some (stepPosition sweepParams 0 (sweepOrdered.ports.get 1).lens.focusLimits)) := by decide +kernel

theorem test_meets_SweepSteps_frames :
    ((sweepFrames .filling 2).pool.entries[0]? =
        some { flying .filling with owner := some 1, stamp := some { shot with port := 1 } } ∧
      (sweepRun .frame 2 []).shot = some (77, 0) ∧ joined 1 .filling 77 (sweepFrames .filling 2) = some 0 ∧
      inFlight 1 (sweepFrames .filling 2) = 1 ∧ due (flying .reserved).reservedBy (sweepFrames .reserved 2) = true ∧
      ((sweepFrames .reserved 2).ports.get 1).sweep = some (sweepRun .frame 2 [])) ∧
    ((sweepFrames .reserved 1).slots.get 3).stopMark = false ∧
    (1 + 1 < sweepParams.count ∧ sweepParams.count ≤ 2 + 1 ∧
      ((sweepFrames .filling 1).ports.get 1).lens.pos.focus ≠
        some (stepPosition sweepParams 2 ((sweepFrames .filling 1).ports.get 1).lens.focusLimits)) ∧
    ((onSlot 3 (fun x => { x with stopMark := true }) (sweepFrames .filling 1)).slots.get 3).stopMark = true ∧
    (bestStep ([] ++ [⟨100, some 0, none⟩]) 0 none = none ∧
      bestStep ([⟨700, some 1, some 9⟩] ++ [⟨100, some 0, none⟩]) 0 none = some (0, ⟨700, some 1, some 9⟩, 9) ∧
      bestStep ([⟨500, some 1, some 9⟩] ++ [⟨100, some 0, none⟩]) 0 none = some (0, ⟨500, some 1, some 9⟩, 9)) := by
  decide +kernel

theorem test_meets_SweepSteps_moves :
    (live (sweeps .moving (sweepRun .moving 0 [])) = true ∧
      ((sweeps .moving (sweepRun .moving 0 [])).ports.get 1).lens.state = .moving ∧
      ((sweeps .moving (sweepRun .moving 0 [])).ports.get 1).lens.move =
        some { targets := { Axes.none with focus := some 700 }, server := .sweep, best := false } ∧
      rested.moving = 0 ∧ lensStateOk rested = true ∧
      ((sweeps .moving (sweepRun .moving 0 [])).ports.get 1).power.state = .on ∧
      (sweeps .moving (sweepRun .moving 0 [])).cell.mode = .run ∧
      judgeClaim 1 .frame (sweeps .moving (sweepRun .moving 0 [])) = .got 0) ∧
    (2 ≤ inFlight 1 (full (sweeps .moving (sweepRun .moving 0 []))) ∧
      (((sweeps .moving (sweepRun .moving 0 [])).ports.get 1).lens.takePositions rested).focus ≠
        some (stepPosition sweepParams 1 ((sweeps .moving (sweepRun .moving 0 [])).ports.get 1).lens.focusLimits)) ∧
    ((sweepRun .best 3 []).phase = .best ∧ ((sweeps .moving (sweepRun .best 3 [])).ports.get 1).lens.held.unlike
      (((sweeps .moving (sweepRun .best 3 [])).ports.get 1).lens.takePositions rested) = Axes.none) ∧
    due ((sweeps .moving (sweepRun .moving 0 [])).ports.get 1).lens.stuckAt (sweeps .moving (sweepRun .moving 0 [])) = true ∧
    (due ((sweepFrames .filling 0).ports.get 1).link.silenceAt (sweepFrames .filling 0) = true ∧
      (sweepFrames .filling 0).pool.entries[0]?.map (fun x => Entry.joins 1 x.state 77 x) = some true) := by
  decide +kernel

/-! ## Witnesses: HALT -/

/-- HALT with an order queued, a frame filling and another reserved. -/
def halting : State :=
  onSlot 9 (fun x => { x with state := .queued, order := some (.snap 1 0) })
    (onEntry 0 (fun _ => flying .reserved) (onPort 1 (fun q => { q with queue := [.order 9] })
      (onPower 1 (fun w => { w with state := .on, base := 30 }) (onEntry 3 (fun _ => flying .filling) (hands .halt (cell .run))))))

/-- HALT while a trace claim waits. -/
def haltingClaim : State :=
  { hands .halt (cell .run) with
    pool := { (cell .run).pool with claims := [
      { port := 1, requester := .trace, exposure := 0, begun := true, status := .live }] } }

theorem test_meets_HaltTearsDown :
    (live (hands .start (cell .configure)) = true ∧ handedOrder 3 (hands .start (cell .configure)) = some .start ∧
      (hands .start (cell .configure)).cell.standing = true ∧
      (∀ p, openHoldings p (hands .start (cell .configure)) ≤ shareCap p (hands .start (cell .configure))) ∧
      (hands .start (cell .configure)).budget.waitList = [] ∧
      (∀ p, ((hands .start (cell .configure)).ports.get p).probe = none ∧
        ((hands .start (cell .configure)).ports.get p).cycle = none) ∧
      ∀ p, ((hands .start (cell .configure)).ports.get p).power.base = 0) ∧
    (live halting = true ∧ handedOrder 3 halting = some .halt ∧ halting.cell.mode = .run ∧
      (∀ p, QEntry.order 3 ∉ (halting.ports.get p).queue) ∧ (halting.ports.get 1).power.state.powered = true ∧
      (halting.ports.get 0).link.state = .dark ∧ QEntry.order 9 ∈ (halting.ports.get 1).queue ∧
      (∀ p, QEntry.order 8 ∉ (halting.ports.get p).queue) ∧ halting.pool.claims = [] ∧
      halting.pool.entries[0]? = some (flying .reserved) ∧ halting.pool.entries[1]? = some buffer ∧
      halting.pool.entries[3]? = some (flying .filling)) ∧
    (live haltingClaim = true ∧ handedOrder 3 haltingClaim = some .halt ∧
      (∀ z ∈ haltingClaim.pool.entries, z.state = .out ∨ z.state = .given) ∧ judgeClaim 1 .trace haltingClaim = .got 0 ∧
      haltingClaim.pool.entries[0]? = some buffer) ∧
    (live (runs 31 .halt (cell .configure)) = true ∧ ((runs 31 .halt (cell .configure)).slots.get 31).halts = true ∧
      ((runs 31 .halt (cell .configure)).slots.get 30).halts = false) := by decide +kernel

/-! ## Witnesses: measurement and actions -/

theorem test_meets_MeasurementJudged :
    (live (cell .run) = true ∧ ∀ p, (({ cell .run with ports := Vector.ofFn fun p => { (cell .run).ports.get p with
        power := { ((cell .run).ports.get p).power with
          current := min 65535 (((Vector.replicate 8 ({ current := -5, voltage := 70000 } : Reading)).get p).current -
            ((cell .run).ports.get p).power.trim).toNat
          voltage := min 65535 ((Vector.replicate 8 ({ current := -5, voltage := 70000 } : Reading)).get
            p).voltage } } } : State).ports.get p).power.current ≤ 3000) ∧
    (((drawing .settling 3001 52).port 1).power.state = .settling ∧ 3000 < ((drawing .settling 3001 52).port 1).power.current) ∧
    (((drawing .on 626 120).port 1).power.state = .on ∧ ((drawing .on 626 120).port 1).power.current ≤ 3000 ∧
      ((drawing .on 626 120).port 1).power.limit < ((drawing .on 626 120).port 1).power.current ∧
      ((drawing .on 626 120).port 1).probe = none) ∧
    (((drawing .limit 624 120).port 1).power.state = .limit ∧ ((drawing .limit 624 120).port 1).power.current ≤ 3000 ∧
      ((drawing .limit 624 120).port 1).power.current < ((drawing .limit 624 120).port 1).power.limit) ∧
    (((drawing .on 625 120).port 1).power.current ≤ ((drawing .on 625 120).port 1).power.limit ∧
      ((drawing .off 3001 0).port 1).power.state = .off) := by decide +kernel

/-- Port 1 is in a state, having tripped n times, and an action has been sent for it. -/
def acting (st : PowerState) (n : Nat) (a : Action) : State :=
  onPower 1 (fun w => { w with state := st, base := if st.powered then 30 else 0 }) (sent a n)

/-- LINK_LOST of port 1 has been sent, auto-probe being enabled or not when it was raised, and its queue holds entries. -/
def probing (auto : Bool) (queue : List QEntry) : State :=
  onPort 1 (fun q => { q with queue := queue }) { cell .run with
    faults := { FaultUnit.reset with sent := [{ port := 1, kind := .linkLost, action := .nothing, autoProbe := auto }] } }

/-- The run of a probe whose hush failed. -/
def ending : ProbeRun := probeRun (.order 3 false) .ending

/-- Seven orders. -/
def seven : List QEntry := List.replicate 7 (.order 5)

/-- Port 1's probe is ending at the head of its queue, its link in WAKE, and the order of slot 5 is queued. -/
def endingAt (auto : Bool) (behind : List QEntry) (o : Order) : State :=
  onSlot 5 (fun x => { x with state := .queued, order := some o }) (onLink 1 (fun l => { l with state := .wake })
    (onPort 1 (fun q => { q with probe := some ending }) (runs 3 (.probe 1 false false) (probing auto (.order 3 :: behind)))))

theorem test_meets_MeasurementJudged_actions :
    (live (acting .off 0 .nothing) = true ∧ (acting .off 0 .nothing).faults.sent =
      [{ port := 1, kind := .lensStuck, action := .nothing, autoProbe := false }] ∧
      ((acting .off 0 .nothing).ports.get 1).probe = none) ∧
    (((acting .lockedOut 4 .cut).ports.get 1).power.state = .lockedOut ∧ ((acting .held 0 .cutRetry).ports.get 1).power.state = .held ∧
      ((acting .held 0 .cutLock).ports.get 1).power.state = .held) ∧
    (((acting .off 2 .cutRetry).ports.get 1).power.retry = 2 ∧ ((acting .off 3 .cutRetry).ports.get 1).power.retry = 3 ∧
      ((acting .waiting 0 .cut).ports.get 1).power.state.powered = false) ∧
    (((acting .on 3 .cutRetry).ports.get 1).power.state.powered = true ∧ (acting .on 3 .cutRetry).budget.waitList = [] ∧
      ((acting .on 3 .cutRetry).ports.get 1).snap = none ∧ ((acting .on 3 .cutRetry).ports.get 1).sweep = none) ∧
    (live (probing true []) = true ∧ (probing true []).cell.sheet = some sheet ∧
      (probing true []).faults.sent = [{ port := 1, kind := .linkLost, action := .nothing, autoProbe := true }] ∧
      ((probing true []).ports.get 1).probe = none ∧ ((probing true []).ports.get 1).faults.cooldownAt = none ∧
      (probing true []).cell.standing = true ∧ loadRuns 1 (probing true []) = false ∧
      QEntry.probe ∈ ((probing true [.probe]).ports.get 1).queue ∧
      (QEntry.probe ∉ (QEntry.order 3 :: seven) ∧ 8 ≤ ((probing true (.order 3 :: seven)).ports.get 1).queue.length ∧
        ((probing true seven).ports.get 1).queue.length < 8)) ∧
    (∀ s, s = endingAt true seven (.cycle 1) → live s = true ∧ (s.ports.get 1).probe = some ending ∧ ending.phase = .ending ∧
      ending.job = .order 3 false ∧ ending.trace = .unasked ∧ (s.ports.get 1).link.state = .wake ∧
      (s.ports.get 1).queue = .order 3 :: seven ∧ (s.ports.get 1).snap = none ∧ (s.ports.get 1).sweep = none ∧
      (s.ports.get 1).power.owed = false ∧ (s.ports.get 1).lens.state ≠ .staged ∧ (s.slots.get 3).loads 1 = false ∧
      s.budget.waitList = [] ∧ s.cell.sheet ≠ none ∧ (s.ports.get 1).faults.cooldownAt = none ∧ QEntry.probe ∉ seven ∧
      seven.length = 7 ∧ seven.head? = some (.order 5) ∧ (s.slots.get 5).state = .queued ∧ (s.slots.get 5).order = some (.cycle 1)) ∧
    (loadRuns 1 (runs 8 (.cableLoad 1 0x40) (endingAt true seven (.probe 1 false false))) = true ∧
      ((runs 8 (.cableLoad 1 0x40) (endingAt true seven (.probe 1 false false))).slots.get 5).order = some (.probe 1 false false)) ∧
    ((endingAt true [] (.snap 1 0)).cell.standing = true ∧ loadRuns 1 (endingAt true [] (.snap 1 0)) = false ∧
      (endingAt false [.order 5] (.snap 1 0)).faults.sent =
        [{ port := 1, kind := .linkLost, action := .nothing, autoProbe := false }] ∧
      ((endingAt false [.order 5] (.snap 1 0)).slots.get 5).order = some (.snap 1 0)) := by
  refine ⟨by decide +kernel, by decide +kernel, by decide +kernel, by decide +kernel, by decide +kernel, ?_, by decide +kernel,
    by decide +kernel⟩
  rintro _ rfl
  decide +kernel

/-- What an event leaves of port 1's queue, the dropped count and the orders of slots 3 and 5. -/
structure Seen where
  queue : List QEntry
  dropped : Nat
  first : SlotState × Reason
  second : SlotState × Reason
deriving DecidableEq, Repr

/-- Read it from an outcome. -/
def endsSeen (o : Host.Outcome State Fault Refusal) : Option Seen :=
  match o with
  | .next t => some { queue := (t.ports.get 1).queue, dropped := t.faults.dropped.toNat
                      first := ((t.slots.get 3).state, (t.slots.get 3).reason)
                      second := ((t.slots.get 5).state, (t.slots.get 5).reason) }
  | .fault _ | .refused _ => none

/-- Behind a PROBE whose hush failed a SNAP is skipped on the fallen link, and a CYCLE begins (R52, R54, R55). -/
theorem test_next_entry_after_a_failed_hush :
    endsSeen (Sys2Proof.Machine.exec .faultActionApplied (endingAt false [.order 5] (.snap 1 0))) =
      some { queue := [], dropped := 0, first := (.aborted, .linkLost), second := (.aborted, .linkLost) } ∧
    endsSeen (Sys2Proof.Machine.exec .faultActionApplied (endingAt true seven (.cycle 1))) =
      some { queue := seven, dropped := 1, first := (.aborted, .linkLost), second := (.running, .none) } := by
  decide +kernel

/-- The enable that stood at the fault decides, not the one that a take has set or cleared since (R23). -/
theorem test_auto_probe_enable_is_that_of_the_fault :
    [(true, false), (false, true)].map (fun x => endsSeen (Sys2Proof.Machine.exec .faultActionApplied
        (onSheet (fun c => { c with autoProbe := x.2 }) (probing x.1 [.order 6]))) |>.map (·.queue)) =
      [some [.order 6, .probe], some [.order 6]] := by decide +kernel

/-! ## Witnesses: the break log -/

/-- A window ends, port 1 alone being in TALK, with histories that meet the condition or not, and the mark and quiet run given. -/
def windowed (meets mark : Bool) (quiet : Nat) (log : List BreakRec) : State :=
  onPort 1 (fun q => { q with
    met := mark, quiet := quiet
    link := { q.link with state := .talk, motionHistory := if meets then [8, 8, 8] else [] } })
    { cell .run with clock := 100000, faults := { FaultUnit.reset with log := log } }

/-- Sixteen records of port 1, the last of them RESOLVED or not. -/
def sixteen (active : Bool) : List BreakRec :=
  (List.range 16).map fun n => { broken with number := n, active := active || n != 15 }

/-- The ACTIVE FLICKER record of port 1. -/
def flicker : BreakRec := { broken with kind := .flicker, ticks := none }

theorem test_meets_BreakLogDealt_windows :
    (live (windowed true false 0 []) = true ∧ (windowed true false 0 []).trigger.windowAt ≤ (windowed true false 0 []).clock ∧
      (windowed true false 0 []).page.taken = .held ∧
      (∀ o, ((windowed true false 0 []).ports.get o).link.state = .talk ↔ o = 1) ∧
      flickerThreshold (windowed true false 0 []) = 8 ∧ ((windowed true false 0 []).ports.get 1).met = false ∧
      3 ≤ ((windowed true false 0 []).ports.get 1).link.motionHistory.countP (fun n => decide (8 ≤ n))) ∧
    (((windowed true true 100 [flicker]).ports.get 1).met = true ∧ ((windowed true true 100 [flicker]).ports.get 1).quiet = 100 ∧
      ((windowed false false 100 [flicker]).ports.get 1).link.motionHistory = [] ∧
      (windowed false false 100 [flicker]).faults.log.find? (fun r => r.active && r.port == 1 && r.kind == .flicker) =
        some flicker ∧ flicker.number = (3 : Fin 16).val) ∧
    (makeRoom [] = some (0, []) ∧ makeRoom (sixteen true) = none ∧
      (windowed true false 0 (sixteen true)).faults.log.any (fun r => r.active && r.port == 1 && r.kind == .flicker) = false) := by
  decide +kernel

/-- Port 2 meets the condition in the same window as port 1. -/
def windowedTwice (log : List BreakRec) : State :=
  onPort 2 (fun q => { q with link := { q.link with state := .talk, motionHistory := [8, 8, 8] } }) (windowed true false 0 log)

theorem test_meets_BreakLogDealt_two_ports :
    (live (windowedTwice [broken]) = true ∧ (windowedTwice [broken]).trigger.windowAt ≤ (windowedTwice [broken]).clock ∧
      (windowedTwice [broken]).page.taken = .held ∧ (windowedTwice [broken]).page.mask = 0 ∧
      (∀ o, ((windowedTwice [broken]).ports.get o).link.state = .talk ↔ o = 1 ∨ o = 2)) ∧
    (∀ o, o = 1 ∨ o = 2 → ((windowedTwice [broken]).ports.get o).met = false ∧
      (windowedTwice [broken]).faults.log.any (BreakRec.isActive o .flicker) = false ∧
      (windowedTwice [broken]).trigger.seenHigh = false ∧ (windowedTwice [broken]).trigger.seenLow = true ∧
      ((windowedTwice [broken]).ports.get o).link.motionHistory = [8, 8, 8] ∧
      ((windowedTwice [broken]).ports.get o).link.restWindow = 0 ∧ ((windowedTwice [broken]).ports.get o).link.restHistory = [] ∧
      flickerThreshold (windowedTwice [broken]) = 8) ∧
    (makeRoom [broken] = some ((0 : Fin 16).val, [broken]) ∧
      makeRoom ([broken] ++ [newFlicker 1 (cellTime (windowedTwice [broken])) false 0]) =
        some ((1 : Fin 16).val, [broken] ++ [newFlicker 1 (cellTime (windowedTwice [broken])) false 0])) ∧
    ((reactionOf .flicker (windowedTwice [broken])).route = .attentionStop ∧
      (windowedTwice [broken]).faults.stopLatch = false) := by decide +kernel

/-- The addresses written by a step, each area's once. -/
def writesOf (o : Host.Outcome State Fault Refusal) : List Nat :=
  match o with
  | .next t => (t.traffic.filterMap fun x => match x with
      | .write a _ => some (a.toNat / 0x40)
      | .read _ _ _ | .message _ _ => none).destutter (· ≠ ·)
  | .fault _ | .refused _ => []

/-- Both new records are in the mirror (0x13500, 0x13540) before the stop latch's header report (0x10040) and the two port reports (R178):
no fault is raised before the log is up to date for the whole window. -/
theorem test_faults_after_the_log_of_the_window :
    writesOf (exec .windowEnd (windowedTwice [])) = [0x4D4, 0x4D5, 0x401, 0x422, 0x42A] := by decide +kernel

theorem test_sixteen_records : LogOk (sixteen true) ∧ LogOk (sixteen false) :=
  ⟨⟨by decide +kernel, by decide +kernel, by decide +kernel⟩, ⟨by decide +kernel, by decide +kernel, by decide +kernel⟩⟩

theorem test_meets_BreakLogDealt_log :
    (LogOk [broken] ∧ [broken].length < 16) ∧
    ((sixteen true).length = 16 ∧ (∀ r ∈ sixteen true, r.active = true) ∧
      (sixteen false)[15]? = some { broken with number := 15, active := false } ∧
      ∀ r ∈ (sixteen false).take 15, r.active = true) ∧
    (matchRec 1 .openCircuit 98 [broken] none = some broken ∧ matchRec 1 .openCircuit 99 [broken] none = none ∧
      (BreakRec.isActive 1 .openCircuit broken && decide (absDiff (broken.ticks.getD 0) 82 ≤ 8)) = true) ∧
    ([broken, flicker].find? (BreakRec.isActive 1 .flicker) = some flicker ∧
      ([{ index := 0, kind := .openCircuit, ticks := 90, distance := 40, amplitude := 100, joint := none, flexing := true }] :
        List Finding).find? (·.flexing) ≠ none) ∧
    (live (probes (probeRun .auto .pulsing) .start (cell .run)) = true ∧
      ((probes (probeRun .auto .pulsing) .start (cell .run)).ports.get 1).queue.length ≤ 1 ∧
      (probeRun .auto .pulsing).job = .auto ∧ (probeRun .auto .pulsing).trace = .unasked ∧
      (probeRun .auto .pulsing).path = some .dark ∧
      ((probes (probeRun .auto .pulsing) .start (cell .run)).ports.get 1).link.state = .dark) := by
  refine ⟨⟨⟨by decide +kernel, by decide +kernel, by decide +kernel⟩, by decide +kernel⟩, by decide +kernel, by decide +kernel,
    by decide +kernel, by decide +kernel⟩

/-! ## Witnesses: packets and the fall of a link -/

/-- Port 1's probe is in a phase on the hushed path, its link in a state with its hush wait over, the lens at rest. -/
def hushed (job : ProbeJob) (phase : ProbePhase) (trace : TraceClaim) (ls : LinkState) : State :=
  onLink 1 (fun l => { l with state := ls, hushAt := some 0 }) (onPort 1 (fun q => { q with
    sheet := some portSheet, queue := [.order 3], power := { q.power with state := .on }
    probe := some { probeRun job phase with
      path := if phase = .pulsing then some .hushed else none, trace := trace, beganPowered := true } })
    (runs 3 (.probe 1 true false) (cell .run)))

theorem test_meets_PacketsByLinkState :
    (live (downlink .dark none []) = true ∧ ((downlink .dark none []).ports.get 1).link.state = .dark ∧
      ((downlink .hush none []).ports.get 1).link.state = .hush) ∧
    (((downlink .wake none []).ports.get 1).link.state = .wake ∧ lensStateOk rested = true ∧ frameOpenOk 4 2 8 = true ∧
      frameDataOk [1] = true) ∧
    ((downlink .talk none []).ports.get 1).link.state = .talk ∧
    (((downlink .hushing none []).ports.get 1).link.state = .hushing ∧
      ((downlink .hushing none []).ports.get 1).probe = none ∧
      ((hushed (.order 3 false) .hushing .unasked .hushing).slots.get 3).stopMark = false ∧
      (ProbeJob.order 3 false).asksTrace = false ∧
      (((hushed (.order 3 false) .hushing .unasked .hushing).ports.get 1).probe.map (·.phase)) = some .hushing) ∧
    (((downlink .wake (some .ask) []).ports.get 1).link.sending = some .ask ∧ Packet.ask ≠ .hush ∧
      ((downlink .wake (some .ask) []).ports.get 1).link.waiting = [] ∧
      ((downlink .talk (some .sleep) [.setup 7 .bits12, .wake]).ports.get 1).link.waiting = .setup 7 .bits12 :: [.wake]) ∧
    (((downlink .hushing (some .hush) []).ports.get 1).link.sending = some .hush ∧
      ((downlink .hushing (some .hush) []).ports.get 1).link.waiting = []) ∧
    ((downlink .talk none []).ports.get 1).link.sending = none := by decide +kernel

/-- A trace of port 1 is being filled in buffer 2. -/
def tracing (s : State) : State :=
  onEntry 2 (fun x => { x with state := .filling, kind := .trace, owner := some 1 }) s

theorem test_meets_LinkFalls :
    (live (falling .talk .filling) = true ∧ (falling .talk .filling).budget.waitList = [] ∧
      ((falling .talk .filling).ports.get 0).link.state = .talk ∧
      due ((falling .talk .filling).ports.get 0).link.silenceAt (falling .talk .filling) = true ∧
      ((falling .talk .filling).ports.get 0).queue = [] ∧ ((falling .talk .filling).ports.get 0).snap = none ∧
      ((falling .talk .filling).ports.get 0).sweep = none ∧ ((falling .talk .filling).ports.get 0).probe = none ∧
      (falling .talk .filling).pool.entries[3]? = some (flying .filling) ∧ (flying .filling).owner = some 0) ∧
    (((hushed (.order 3 false) .hushing .unasked .hushing).ports.get 1).link.state = .hushing ∧
      due ((hushed (.order 3 false) .hushing .unasked .hushing).ports.get 1).link.hushAt
        (hushed (.order 3 false) .hushing .unasked .hushing) = true ∧
      ((hushed (.order 3 false) .hushing .unasked .hushing).ports.get 1).queue = [.order 3] ∧
      (falling .hushing .reserved).pool.entries[3]? = some (flying .reserved)) ∧
    (((falling .wake .filling).ports.get 0).link.state ≠ .talk ∧
      due ((filming .filling).ports.get 0).link.silenceAt (filming .filling) = false) := by decide +kernel

theorem test_meets_LinkFalls_hush :
    (live (hushed (.order 3 false) .draining .unasked .talk) = true ∧
      ((hushed (.order 3 false) .draining .unasked .talk).ports.get 1).probe.map (·.phase) = some .draining ∧
      ((hushed (.order 3 false) .draining .unasked .talk).ports.get 1).lens.state ≠ .moving ∧
      inFlight 1 (shooting (hushed (.order 3 false) .draining .unasked .talk)) = 1 ∧
      (shooting (hushed (.order 3 false) .draining .unasked .talk)).pool.entries[(0 : BufNo).val]? =
        some { flying .reserved with owner := some 1 } ∧
      due (flying .reserved).reservedBy (cell .run) = true ∧ (cell .run).pool.claims = []) ∧
    (((hushed (.order 3 true) .hushing .unasked .hushing).slots.get 3).stopMark = false ∧
      judgeClaim 1 .trace (hushed (.order 3 true) .hushing .unasked .hushing) = .got 0) ∧
    (((onSlot 3 (fun x => { x with stopMark := true }) (hushed (.order 3 true) .hushing .unasked .hushing)).slots.get
        3).stopMark = true ∧
      ((hushed (.order 3 true) .hushing .unasked .hushing).ports.get 1).power.owed = false ∧
      ((hushed (.order 3 true) .hushing .unasked .hushing).ports.get 1).lens.state ≠ .staged ∧
      ((hushed (.order 3 true) .hushing .unasked .hushing).ports.get 1).link.owedSetup = false ∧
      wantOf ((hushed (.order 3 true) .hushing .unasked .hushing).ports.get 1) ≠ .standby) ∧
    (((hushed (.order 3 true) .pulsing (.got 2) .hush).ports.get 1).probe.map (·.path) = some (some .hushed) ∧
      ((hushed (.order 3 true) .pulsing (.got 2) .hush).ports.get 1).link.state = .hush ∧
      (tracing (hushed (.order 3 true) .pulsing (.got 2) .hush)).pool.entries[2]?.map (·.state) = some .filling ∧
      (tracing (hushed (.order 3 true) .pulsing (.got 2) .hush)).pool.entries[2]?.map (·.kind) = some .trace ∧
      (tracing (hushed (.order 3 true) .pulsing (.got 2) .hush)).pool.entries[2]?.map (·.pending) = some .complete) ∧
    (∀ s, s = onPower 1 (fun w => { w with state := .limit, limitAt := some 0 }) (onSheet (fun c => { c with
        reactions := Vector.replicate 9 { action := .cut, route := .nothing } })
        (tracing (hushed (.order 3 true) .pulsing (.got 2) .hush))) → live s = true ∧
      (s.ports.get 1).power.state = .limit ∧ due (s.ports.get 1).power.limitAt s = true ∧
      (reactionOf .overload s).action = .cut ∧ autoProbeOn s = false ∧ s.budget.waitList = [] ∧
      (s.ports.get 1).probe.map (·.beganPowered) = some true) := by
  refine ⟨by decide +kernel, by decide +kernel, by decide +kernel, by decide +kernel, ?_⟩
  rintro _ rfl
  decide +kernel

/-- Port 1, whose link has been silent, has a focus sweep that has staged focus 701, and a host's iris of 5 held back. -/
def sweepFalling : State :=
  onLens 1 (fun l => { l with move := none, staged := want, stagedBy := .sweep, held := { Axes.none with iris := some 5 } })
    (onLink 1 (fun l => { l with silenceAt := some 0 }) (sweeps .staged (sweepRun .moving 1 [])))

theorem test_meets_LinkFalls_sweep :
    live sweepFalling = true ∧ sweepFalling.budget.waitList = [] ∧ (sweepFalling.ports.get 1).link.state = .talk ∧
    due (sweepFalling.ports.get 1).link.silenceAt sweepFalling = true ∧ (sweepFalling.ports.get 1).queue = [.order 3] ∧
    (sweepFalling.ports.get 1).probe = none ∧ (sweepFalling.ports.get 1).snap = none ∧
    (sweepFalling.ports.get 1).sweep = some (sweepRun .moving 1 []) ∧ (sweepRun .moving 1 []).slot = 3 ∧
    (sweepRun .moving 1 []).shot = none ∧ (sweepRun .moving 1 []).phase = .moving ∧
    (sweepFalling.ports.get 1).lens.state = .staged ∧ (sweepFalling.ports.get 1).lens.move = none := by decide +kernel

/-- What port 1 shows in the state a command answers; none where it stops. -/
def portAfter {α : Type} (f : PortState → α) (o : Host.Outcome State Fault Refusal) : Option α :=
  match o with
  | .next t => some (f (t.ports.get 1))
  | .fault _ | .refused _ => none

/-- A loss keeps the want that a sweep had staged, and the held want is merged into it (R143, R147). -/
theorem test_fall_keeps_the_want_a_sweep_staged :
    portAfter (·.lens.staged) (Sys2Proof.Machine.exec (.silenceTimerExpiry 1) sweepFalling) =
      some { focus := some 701, iris := some 5, zoom := none } := by decide +kernel

/-- A greeting again keeps it too, within the new limits and with the clamped flag set (R136, step 4). -/
theorem test_greeting_again_fits_the_want_a_sweep_staged :
    portAfter (fun q => (q.lens.staged, q.lens.clamped))
        (Sys2Proof.Machine.exec (.hello 1 { greeting with maxPower := 0, focusHigh := 600 }) sweepFalling) =
      some ({ focus := some 600, iris := none, zoom := none }, true) := by decide +kernel

/-- Port 1's probe is in DRAINING, its lens in a state, no frame in flight. -/
def drains (st : LensState) : State :=
  onLens 1 (fun l => { l with state := st, kind := some .focus, stuckAt := some 0 }) (hushed (.order 3 false) .draining .unasked .talk)

/-- The end of a move is a moment at which a DRAINING probe tests: it asks for its hush (R155). -/
theorem test_draining_probe_tests_at_the_end_of_a_move :
    portAfter (fun q => (q.probe.map (·.phase), q.link.state)) (Sys2Proof.Machine.exec (.lensState 1 rested) (drains .moving)) =
      some (some .hushing, .hushing) := by decide +kernel

/-- A change of power is none: the probe waits on, though the port is at a gap and its lens at rest (R155; log 64). -/
theorem test_draining_probe_does_not_test_at_limit :
    portAfter (fun q => (q.power.state, q.probe.map (·.phase), q.link.state)) (Sys2Proof.Machine.exec
        (.currentMeasurement (Vector.replicate 8 { current := 60, voltage := 0 }))
        (drains .unknown)) =
      some (.limit, some .draining, .talk) := by decide +kernel

/-- Port 1's probe has hushed a port that has come to want STANDBY, with focus 701 staged meanwhile. -/
def probeOwes : State :=
  onPort 1 (fun q => { q with
    sheet := some { portSheet with want := .standby }
    power := { q.power with base := 52, full := 52, owed := true }
    lens := { q.lens with state := .staged, kind := some .focus, staged := want } })
    (hushed (.order 3 false) .pulsing .unasked .hush)

theorem test_meets_ProbeEnds_owed :
    live probeOwes = true ∧ (probeOwes.ports.get 1).probe.map (fun r => (r.phase, r.path, r.job)) =
      some (.pulsing, some .hushed, .order 3 false) ∧ (probeOwes.ports.get 1).probe.map (·.trace) = some .unasked ∧
    (probeOwes.ports.get 1).queue = [.order 3] ∧ (probeOwes.ports.get 1).sweep = none ∧
    (probeOwes.ports.get 1).link.state = .hush ∧ (probeOwes.ports.get 1).link.sending = none ∧
    (probeOwes.ports.get 1).link.owedSetup = false ∧ (probeOwes.ports.get 1).link.owedSleep = false ∧
    (probeOwes.ports.get 1).power.owed = true ∧ (probeOwes.ports.get 1).power.state = .on ∧
    wantOf (probeOwes.ports.get 1) = .standby ∧ (probeOwes.ports.get 1).power.motion = 0 ∧
    (probeOwes.ports.get 1).lens.state = .staged ∧ holdsFrames (probeOwes.ports.get 1) = false ∧
    frameGap 1 probeOwes = true ∧ probeOwes.budget.waitList = [] ∧
    max 1 ((probeOwes.ports.get 1).link.identity.map Identity.motionPower |>.getD 0) ≤
      room (onPower 1 (fun w => { w with base := min (allotment 1 (standbyPower (probeOwes.ports.get 1)) probeOwes) 52 })
        probeOwes) := by decide +kernel

/-- At a probe's end the Power Manager acts before the lens is tested: SLEEP goes ahead of LENS_MOVE (R157, step 4). -/
theorem test_probe_end_sleeps_before_the_lens_moves :
    portAfter (fun q => (q.link.sending, q.link.waiting, q.power.state, q.power.base))
        (Sys2Proof.Machine.exec (.pulseSetEnd 1 (Vector.replicate 16 [])) probeOwes) =
      some (some .resume, [.sleep, .lensMove want], .standby, 2) := by decide +kernel

/-- Port 1's probe holds back a want of OFF, the port having tripped n times, and the end of its limit time is due with an action. -/
def offHeldBack (a : Action) (n : Nat) : State :=
  onSheet (fun c => { c with reactions := Vector.replicate 9 { action := a, route := .nothing } }) (onPort 1 (fun q => { q with
    sheet := some { portSheet with want := .off }
    power := { q.power with state := .limit, base := 52, full := 52, limitAt := some 0, retry := n, owed := true } })
    (hushed (.order 3 false) .pulsing .unasked .hush))

theorem test_meets_ProbeEnds_wants_off :
    ∀ s, s = offHeldBack .cutRetry 3 → live s = true ∧ (s.ports.get 1).probe.map (fun r => (r.beganPowered, r.phase, r.job)) =
      some (true, .pulsing, .order 3 false) ∧ (s.ports.get 1).probe.map (·.trace) = some .unasked ∧
    (s.ports.get 1).queue = [.order 3] ∧ (s.ports.get 1).snap = none ∧ (s.ports.get 1).sweep = none ∧
    (s.ports.get 1).power.owed = true ∧ wantOf (s.ports.get 1) = .off ∧ (s.ports.get 1).power.state = .limit ∧
    due (s.ports.get 1).power.limitAt s = true ∧ s.budget.waitList = [] ∧ autoProbeOn s = false ∧
    (reactionOf .overload s).action = .cutRetry := by
  rintro _ rfl
  decide +kernel

/-- A want of OFF that arrives after a fault leaves a HELD or LOCKED_OUT port as it is, and moves RETRY_WAIT to OFF (R79). -/
theorem test_want_of_off_after_a_fault :
    [Action.cut, .cutLock, .cutRetry].map (fun a => portAfter (fun q => (q.power.state, q.power.retry, q.power.owed))
        (Sys2Proof.Machine.exec (.limitTimerExpiry 1) (offHeldBack a 2))) =
      [some (.held, 2, false), some (.lockedOut, 2, false), some (.off, 3, false)] := by decide +kernel

/-- Port 1 is HELD, a probe pulses on it, and its sheet is being read. -/
def heldProbed : State :=
  onPort 1 (fun q => { q with probe := some (probeRun .auto .pulsing) }) (takes .held .dark .unknown (cell .run))

/-- A take releases a HELD port whatever its want, during a probe too, which owes a power-up (R27, R76, R77). -/
theorem test_take_releases_held_during_a_probe :
    offers heldProbed = true ∧ [(0 : Byte), 1].map (fun w => portAfter (fun q => (q.power.state, q.power.owed))
        (Sys2Proof.Machine.exec (.sweepRecordRead (.portSheet 1) ⟨0, portBytes w 1 1 90⟩) heldProbed)) =
      [some (.off, false), some (.off, true)] := by decide +kernel

/-! ## Witnesses: echoes -/

/-- A record with one run, of height 4 at ticks 9 to 10. -/
def oneRun : List Int := List.replicate 9 0 ++ [3, 4, 1]

theorem test_meets_Reflectometer :
    ((0 : Nat) < 20 ∧ (probeRun .auto .pulsing).baseline = [] ∧ (probeRun .auto .pulsing).length = some 3000 ∧
      (begun .auto .unasked).length = none ∧ [echo][0]? = some echo ∧
      echoesOf 20 (averaged 256 pulses.toList) = [echo]) ∧
    ((8 : Nat) ≤ 9 ∧ 10 < oneRun.length ∧ (∀ t, t < 11 → 9 ≤ t → (3 : Int) ≤ oneRun.getD t 0) ∧
      ¬ (3 : Int) ≤ oneRun.getD 8 0 ∧ ¬ (3 : Int) ≤ oneRun.getD 11 0 ∧
      (oneRun.getD 9 0).natAbs < (oneRun.getD 10 0).natAbs ∧
      echoesOf 3 oneRun = [{ ticks := 10, polarity := .pos, amplitude := 4 }]) := by decide +kernel

/-! ## Witnesses: ends of the work that runs -/

theorem test_meets_PageReleaseEndsUse_buffers :
    (onEntry 0 (fun _ => flying .reserved) (onEntry 3 (fun _ => flying .filling) (cell .run))).pool.layout =
      some { addr := 0x20000, count := 4 } ∧
    (onEntry 0 (fun _ => flying .reserved) (onEntry 3 (fun _ => flying .filling) (cell .run))).pool.entries[0]? =
      some (flying .reserved) ∧
    (onEntry 0 (fun _ => flying .reserved) (onEntry 3 (fun _ => flying .filling) (cell .run))).pool.entries[3]? =
      some (flying .filling) := by decide +kernel

/-- A CANCEL of slot 9's order of port 1 has been handed over, the order being in a state and its queue as given. -/
def cancelsHead (o : Order) (st : SlotState) (queue : List QEntry) (f : PortState → PortState) : State :=
  hands (.cancel 9) (onSlot 9 (fun x => { x with state := st, order := some o, stopMark := false })
    (onPort 1 (fun q => f { q with queue := queue }) (cell .run)))

theorem test_meets_CancelTable_heads :
    (∀ s, s = cancelsHead (.snap 1 0) .queued [.order 9] id → live s = true ∧ handedOrder 3 s = some (.cancel 9) ∧
      (s.slots.get 9).state = .queued ∧ (s.ports.get 1).queue = [.order 9]) ∧
    (∀ s, s = runs 8 (.cableLoad 1 0x40) (cancelsHead (.snap 1 0) .queued [.order 9, .probe] id) →
      (s.ports.get 1).queue = [.order 9, .probe] ∧ loadRuns 1 s = true ∧ QEntry.order 9 ∉ [QEntry.probe]) ∧
    (∀ s, s = onSlot 8 (fun x => { x with state := .queued, order := some (.cycle 1) })
        (cancelsHead (.snap 1 0) .queued [.order 9, .order 8] id) → (s.slots.get 9).state = .queued ∧
      (s.ports.get 1).queue = [.order 9, .order 8] ∧ (s.slots.get 8).state = .queued ∧
      (s.slots.get 8).order = some (.cycle 1) ∧ (s.ports.get 1).power.state = .off) := by
  refine ⟨?_, ?_, ?_⟩ <;> rintro _ rfl <;> decide +kernel

theorem test_meets_CancelTable_runs :
    (∀ s, s = cancelsHead (.snap 1 0) .running [.order 9] (fun q => { q with snap := some ⟨9, none, false⟩ }) →
      live s = true ∧ s.cell.mode ≠ .setup ∧ handedOrder 3 s = some (.cancel 9) ∧
      (s.slots.get 9).order.bind Order.queuePort = some 1 ∧ (s.slots.get 9).state = .running ∧
      (s.slots.get 9).stopMark = false ∧ (s.ports.get 1).queue = [.order 9] ∧
      (s.ports.get 1).snap = some ⟨9, none, false⟩ ∧ (s.ports.get 1).probe = none) ∧
    (∀ x, x = { flying .reserved with owner := some 1 } → ∀ s, s = onEntry 0 (fun _ => x)
        (cancelsHead (.snap 1 0) .running [.order 9] (fun q => { q with snap := some ⟨9, some (77, 0), false⟩ })) →
      (s.ports.get 1).snap = some ⟨9, some (77, 0), false⟩ ∧ s.pool.entries[0]? = some x ∧ x.joins 1 .reserved 77 = true) ∧
    (∀ s, s = onEntry 0 (fun _ => flying .reserved) (cancelsHead (.snap 1 0) .running [.order 9] (fun q => { q with
        snap := some ⟨9, some (77, 0), false⟩ })) →
      (s.ports.get 1).snap = some ⟨9, some (77, 0), false⟩ ∧ s.pool.entries[0]? = some (flying .reserved) ∧
      (flying .reserved).joins 1 .reserved 77 = false) ∧
    (∀ s, s = cancelsHead (.snap 1 0) .running [.order 9] (fun q => { q with snap := some ⟨9, some (77, 0), true⟩ }) →
      (s.ports.get 1).snap = some ⟨9, some (77, 0), true⟩ ∧ (s.ports.get 1).queue = [.order 9]) ∧
    (∀ s, s = cancelsHead (.cycle 1) .running [.order 9] (fun q => { q with
        cycle := some { slot := 9, found := .on, holdEnd := 9 } }) →
      (s.ports.get 1).cycle = some { slot := 9, found := .on, holdEnd := 9 } ∧ (s.ports.get 1).snap = none ∧
      (s.ports.get 1).probe = none ∧ wantOf (s.ports.get 1) = .off ∧ (s.slots.get 9).stopMark = false) := by
  refine ⟨?_, ?_, ?_, ?_, ?_⟩ <;> (try rintro _ rfl) <;> (try rintro _ rfl) <;> decide +kernel

theorem test_meets_CancelTable_sweeps_and_probes :
    (∀ w, w = { sweepRun .moving 0 [] with slot := 9 } → ∀ s,
      s = cancelsHead (.sweep 1 sweepParams) .running [.order 9] (fun q => { q with
        sweep := some w, lens := { q.lens with state := .staged } }) →
      (s.ports.get 1).sweep = some w ∧ (s.ports.get 1).snap = none ∧ (s.ports.get 1).cycle = none ∧
      (s.ports.get 1).probe = none ∧ (s.ports.get 1).lens.state = .staged ∧ (s.slots.get 9).state = .running ∧
      (s.slots.get 9).order.bind Order.queuePort = some 1 ∧ (s.ports.get 1).queue = [.order 9]) ∧
    (∀ w, w = { sweepRun .frame 0 [] with slot := 9 } → ∀ s,
      s = cancelsHead (.sweep 1 sweepParams) .running [.order 9] (fun q => { q with sweep := some w }) →
      (s.ports.get 1).sweep = some w ∧ w.phase = .frame ∧ (s.ports.get 1).queue = [.order 9]) ∧
    (∀ r, r = { probeRun (.order 9 true) .pulsing with trace := .got 0, path := some .hushed } → ∀ s,
      s = onEntry 0 (fun _ => { flying .filling with kind := .trace, owner := some 1 })
        (cancelsHead (.probe 1 true false) .running [.order 9] (fun q => { q with
          probe := some r, link := { q.link with state := .hush } })) →
      (s.ports.get 1).probe = some r ∧ (s.ports.get 1).snap = none ∧ (s.ports.get 1).cycle = none ∧
      (s.ports.get 1).sweep = none ∧ r.job = .order 9 true ∧ r.phase = .pulsing ∧ (s.ports.get 1).power.owed = false ∧
      (s.ports.get 1).link.state = .hush ∧ r.trace.buffer = some 0 ∧
      s.pool.entries[0]?.map (·.state) = some .filling ∧ (s.ports.get 1).queue = [.order 9] ∧
      (s.slots.get 9).stopMark = false) := by
  refine ⟨?_, ?_, ?_⟩ <;> rintro _ rfl _ rfl <;> decide +kernel

/-- CELL_CHECK is due, port 1 ON with orders in its queue, a buffer FILLING and another RESERVED. -/
def checking (c : Half) : State :=
  onEntry 0 (fun _ => flying .reserved) (onEntry 3 (fun _ => flying .filling)
    (runs 9 (.snap 1 0) (onPort 1 (fun q => { q with queue := [.order 9], snap := some ⟨9, none, false⟩ })
      (talking (recheck c)))))

theorem test_meets_CellCheckFaults_teardown :
    live (checking 0) = true ∧ (checking 0).cell.mode = .run ∧ (checking 0).cell.recheckAt = some 0 ∧
    (∀ p, ((checking 0).ports.get p).link.state ≠ .dark → ((checking 0).ports.get p).power.state.powered = true) ∧
    QEntry.order 9 ∈ ((checking 0).ports.get 1).queue ∧ (∀ p, QEntry.order 8 ∉ ((checking 0).ports.get p).queue) ∧
    ((checking 0).ports.get 1).link.state ≠ .dark ∧ (checking 0).pool.claims = [] ∧
    (checking 0).pool.entries[0]? = some (flying .reserved) ∧ (checking 0).pool.entries[3]? = some (flying .filling) := by
  decide +kernel

theorem test_meets_CellCheckFaults_mismatch :
    (checking (~~~ sheet.check)).cell.sheet.map CellSheet.check ≠ (checking (~~~ sheet.check)).cell.storedCheck :=
  test_complement_differs sheet.check

theorem test_meets_HaltTearsDown_links :
    ∀ p, (halting.ports.get p).link.state ≠ .dark → (halting.ports.get p).power.state.powered = true := by decide +kernel

/-- A CYCLE's hold is over, its port OFF and wanting ON, with a budget in force. -/
def powersUp (budget : Nat) : State :=
  { withSheet 1 portSheet cycled with budget := { cycled.budget with inForce := budget } }

theorem test_meets_CycleRuns_power :
    (live (powersUp 100) = true ∧ (powersUp 100).cell.mode = .run ∧
      ((powersUp 100).ports.get 1).cycle = some { slot := 3, found := .on, holdEnd := 0 } ∧ 0 ≤ (powersUp 100).clock ∧
      ((powersUp 100).ports.get 1).queue = [.order 3] ∧ ((powersUp 100).ports.get 1).power.state = .off ∧
      wantOf ((powersUp 100).ports.get 1) ≠ .off ∧ ((powersUp 100).ports.get 1).probe = none ∧
      (powersUp 100).budget.waitList = []) ∧
    (powerUpClaim (powersUp 100) 1).amount ≤ room (powersUp 100) ∧
    room (powersUp 9) < (powerUpClaim (powersUp 9) 1).amount := by decide +kernel

/-- A frame of port 0 is FILLING in buffer 1 while another is RESERVED. -/
def twoFrames : State :=
  onEntry 1 (fun _ => { flying .filling with stamp := some { shot with tag := 5 } }) (filming .reserved)

theorem test_meets_FramePacketsJoin_second :
    live twoFrames = true ∧ (twoFrames.ports.get 0).link.state = .talk ∧ joined 0 .reserved 77 twoFrames = some 3 ∧
    twoFrames.pool.entries[3]? = some (flying .reserved) ∧ fillingFrame 0 twoFrames = some 1 ∧
    twoFrames.pool.entries[1]? = some { flying .filling with stamp := some { shot with tag := 5 } } ∧
    (twoFrames.ports.get 0).snap = none ∧ (twoFrames.ports.get 0).sweep = none := by decide +kernel

/-- A LEARN of port 1 before its fourth set, on the hushed path, its camera known and its voltage reported. -/
def learningHushed : State :=
  onPort 1 (fun q => { q with
      link := { q.link with state := .hush, identity := some (identityOf .focus greeting) }
      power := { q.power with camVoltage := some 20000, voltage := 23000, current := 50 } })
    (probes { learning [[echo], [echo], [echo]] with path := some .hushed } (.learn 1 false) (cell .run))

theorem test_meets_LearnPulses_hushed :
    live learningHushed = true ∧
    (learningHushed.ports.get 1).probe = some { learning [[echo], [echo], [echo]] with path := some .hushed } ∧
    (learningHushed.ports.get 1).link.state = .hush ∧
    (learningHushed.ports.get 1).link.identity = some (identityOf .focus greeting) ∧
    (learningHushed.ports.get 1).power.owed = false ∧ (learningHushed.ports.get 1).queue = [.order 3] ∧
    (∀ l ∈ [[echo], [echo]] ++ [echoesOf 20 (averaged 256 pulses.toList)], steadyWith [echo] l = true) := by decide +kernel

theorem test_meets_Reflectometer_baseline :
    (∀ x ∈ [(echo, 0), ({ echo with ticks := 96 }, 1)], matchesBase false { echo with ticks := 300 } x.1 = false) ∧
    ([(echo, 0), ({ echo with ticks := 96 }, 1)].map (·.2)).Nodup ∧
    [(echo, 0), ({ echo with ticks := 96 }, 1)][1]? = some ({ echo with ticks := 96 }, 1) ∧
    matchBaseline [{ echo with ticks := 95 }, { echo with ticks := 300 }] [(echo, 0), ({ echo with ticks := 96 }, 1)] =
      ([(echo, 0)], 1) ∧
    ({ probeRun .auto .pulsing with baseline := [echo] } : ProbeRun).baseline ≠ [] := by decide +kernel
end Sys2Proof.Tests
end

namespace Sys2Proof.Machine

/-! ## The basis of the hand-off

`HandOff` speaks of eight fields of the control part. `Control.basis` gathers them, one lemma per operation that is not covered by
Laws/Control.lean says that it keeps them, and the few operations that move them have an equation each. -/

/-- The fields of the control part that the hand-off laws speak of. -/
structure Basis where
  taken : PageTaken
  headerReadBy : Option Nat
  mode : Mode
  recheckAt : Option Nat
  standing : Bool
  sheet : Option CellSheet
  inForce : Nat
  remainder : Nat

/-- The basis of the hand-off within the control part. -/
def Control.basis (c : Control) : Basis where
  taken := c.taken
  headerReadBy := c.headerReadBy
  mode := c.cell.mode
  recheckAt := c.cell.recheckAt
  standing := c.cell.standing
  sheet := c.cell.sheet
  inForce := c.inForce
  remainder := c.remainder

/-- States with the same basis have the hand-off together. -/
theorem HandOff.of_basis {s t : State} (hs : HandOff s) (h : (control t).basis = (control s).basis) : HandOff t := by
  have ht : t.page.taken = s.page.taken := congrArg Basis.taken h
  have hr : t.page.headerReadBy = s.page.headerReadBy := congrArg Basis.headerReadBy h
  have hm : t.cell.mode = s.cell.mode := congrArg Basis.mode h
  have hc : t.cell.recheckAt = s.cell.recheckAt := congrArg Basis.recheckAt h
  have hst : t.cell.standing = s.cell.standing := congrArg Basis.standing h
  have hsh : t.cell.sheet = s.cell.sheet := congrArg Basis.sheet h
  have hf : t.budget.inForce = s.budget.inForce := congrArg Basis.inForce h
  have hrem : t.trigger.remainder = s.trigger.remainder := congrArg Basis.remainder h
  have henc : encoderSetting t = encoderSetting s := by unfold encoderSetting; rw [hsh]
  obtain ⟨held, recheck, header, standing, copied, funded, divided⟩ := hs
  constructor
  · rw [ht, hm]; exact held
  · rw [hc, hm]; exact recheck
  · rw [hr, ht]; exact header
  · rw [hm, hst]; exact standing
  · rw [hst, hsh]; exact copied
  · rw [hf, hm]; exact funded
  · rw [hrem, henc]; exact divided

/-- A command whose event keeps the hand-off keeps it: the end of an event leaves the control part as it is. -/
theorem HandOff.of_act {f : Event → Event} {s t : State} (h : act f s = .next t) (hs : HandOff s)
    (hf : ∀ e : Event, HandOff e.toState → HandOff (f e).toState) : HandOff t := by
  unfold act at h
  split at h <;> injection h with h <;> subst h
  · exact (hf (Event.of s) hs).of_basis (by rw [control_after])
  · exact hs

/-- A command whose event keeps the basis keeps the hand-off. -/
theorem HandOff.of_act_basis {f : Event → Event} {s t : State} (h : act f s = .next t) (hs : HandOff s)
    (hf : ∀ e : Event, (control (f e).toState).basis = (control e.toState).basis) : HandOff t :=
  HandOff.of_act h hs fun e he => he.of_basis (hf e)

/-! ## Operations that keep the basis -/

/-- A fold of operations that keep the basis. -/
theorem basis_foldl {α : Type} (xs : List α) (f : Event → α → Event) (e : Event)
    (h : ∀ x a, (control (f x a).toState).basis = (control x.toState).basis) :
    (control (xs.foldl f e).toState).basis = (control e.toState).basis := by
  induction xs generalizing e with
  | nil => rfl
  | cons a as ih => rw [List.foldl_cons, ih, h]

theorem basis_forPorts (ps : List Port) (f : Port → Event → Event) (e : Event)
    (h : ∀ p x, (control (f p x).toState).basis = (control x.toState).basis) :
    (control (forPorts ps f e).toState).basis = (control e.toState).basis := basis_foldl _ _ e fun x p => h p x

theorem basis_forProgs (f : ProgNo → Event → Event) (e : Event)
    (h : ∀ i x, (control (f i x).toState).basis = (control x.toState).basis) :
    (control (forProgs f e).toState).basis = (control e.toState).basis := basis_foldl _ _ e fun x i => h i x

/-! ### Programs -/

@[simp] theorem basis_modProgram (i : ProgNo) (f : Program → Program) (e : Event) :
    (control (modProgram i f e).toState).basis = (control e.toState).basis := rfl

@[simp] theorem basis_lightStep (x : ProgStep) (e : Event) :
    (control (lightStep x e).toState).basis = (control e.toState).basis := basis_foldl _ _ e fun _ _ => rfl

@[simp] theorem basis_reachStep (i : ProgNo) (n : Nat) (x : ProgStep) (e : Event) :
    (control (reachStep i n x e).toState).basis = (control e.toState).basis := by
  unfold reachStep
  rw [basis_modProgram, basis_forPorts _ _ _ fun p y => by simp, basis_lightStep]

@[simp] theorem basis_reachFirst (i : ProgNo) (xs : List ProgStep) (n : Nat) (e : Event) :
    (control (reachFirst i xs n e).toState).basis = (control e.toState).basis := by
  induction xs generalizing n e with
  | nil => rfl
  | cons x xs ih =>
    unfold reachFirst
    split
    · rw [ih, basis_reachStep]
    · rfl

@[simp] theorem basis_sourceEvent (i : ProgNo) (e : Event) :
    (control (sourceEvent i e).toState).basis = (control e.toState).basis := by
  unfold sourceEvent
  dsimp only
  (repeat' split) <;> simp

@[simp] theorem basis_lineEvent (rise : Bool) (i : ProgNo) (e : Event) :
    (control (lineEvent rise i e).toState).basis = (control e.toState).basis := by
  unfold lineEvent
  dsimp only
  split <;> simp

@[simp] theorem basis_encoderEvent (i : ProgNo) (e : Event) :
    (control (encoderEvent i e).toState).basis = (control e.toState).basis := by
  unfold encoderEvent
  dsimp only
  split <;> simp

@[simp] theorem basis_disarmProgram (i : ProgNo) (e : Event) :
    (control (disarmProgram i e).toState).basis = (control e.toState).basis := rfl

@[simp] theorem basis_disarmAll (e : Event) : (control (disarmAll e).toState).basis = (control e.toState).basis :=
  basis_forProgs _ e fun _ _ => rfl

@[simp] theorem basis_armProgram (i : ProgNo) (e : Event) :
    (control (armProgram i e).toState).basis = (control e.toState).basis := by
  unfold armProgram
  split <;> simp

@[simp] theorem basis_disarmOrder (i : ProgNo) (e : Event) :
    (control (disarmOrder i e).toState).basis = (control e.toState).basis := by
  unfold disarmOrder
  split <;> simp

/-! ### The break log -/

@[simp] theorem basis_takeLog (g : LogEvent) (e : Event) :
    (control (takeLog g e).toState).basis = (control e.toState).basis := by
  have mirrored : ∀ x : Event, control (forNumbers (allNumbers.filter fun n => g.changed.contains n.val) writeMirror x).toState =
      control x.toState := fun x => control_forNumbers _ _ x fun n y => control_writeMirror n y
  have signalled : ∀ x : Event, control (if g.changed.isEmpty then x else attend flagBreaks x).toState = control x.toState :=
    fun x => by split <;> simp
  unfold takeLog
  dsimp only
  split
  · rw [signalled, mirrored]; rfl
  · rw [control_writeHeader]
    change (control (Event.toState (if g.changed.isEmpty then _ else _))).basis = _
    rw [signalled, mirrored]; rfl

@[simp] theorem control_raiseEach (p : Port) (k : FaultKind) (n : Nat) (e : Event) :
    control (raiseEach p k n e).toState = control e.toState := by
  induction n generalizing e with
  | zero => rfl
  | succ n ih => unfold raiseEach; rw [ih, control_handleFault]

@[simp] theorem basis_completeProbe (p : Port) (r : ProbeRun) (asked : Bool) (echoes : List Echo) (e : Event) :
    (control (completeProbe p r asked echoes e).2.toState).basis = (control e.toState).basis := by
  simp [completeProbe, reportFindings]

@[simp] theorem control_completeLearn (p : Port) (r : ProbeRun) (sets : List (List Echo)) (e : Event) :
    control (completeLearn p r sets e).2.2.2.toState = control e.toState := by
  unfold completeLearn
  dsimp only
  (repeat' split) <;> rfl

@[simp] theorem basis_finishProbe (p : Port) (r : ProbeRun) (sets : List (List Echo)) (e : Event) :
    (control (finishProbe p r sets e).toState).basis = (control e.toState).basis := by
  unfold finishProbe
  split <;> simp

@[simp] theorem basis_takeSet (p : Port) (r : ProbeRun) (echoes : List Echo) (e : Event) :
    (control (takeSet p r echoes e).toState).basis = (control e.toState).basis := by
  unfold takeSet
  dsimp only
  (repeat' split) <;> simp

@[simp] theorem basis_detectFlicker (p : Port) (pushed : Option Nat) (e : Event) :
    (control (detectFlicker p pushed e).toState).basis = (control e.toState).basis := by
  unfold detectFlicker resolveQuiet flickerFound
  dsimp only
  (repeat' split) <;> simp

@[simp] theorem basis_endWindow (p : Port) (e : Event) :
    (control (endWindow p e).toState).basis = (control e.toState).basis := by
  unfold endWindow
  dsimp only
  split <;> simp

@[simp] theorem basis_endWindows (e : Event) : (control (endWindows e).toState).basis = (control e.toState).basis := by
  unfold endWindows
  rw [control_forPorts _ _ _ fun p x => control_handleFault p .flicker x, basis_forPorts _ _ _ basis_endWindow]

/-! ### Sweeps and the rebuild -/

@[simp] theorem basis_issueRead (c : Channel) (a : Addr) (size : Nat) (e : Event) :
    (control (issueRead c a size e).toState).basis = (control e.toState).basis := rfl

@[simp] theorem basis_readHand (l : Layout) (b : Nat) (e : Event) :
    (control (readHand l b e).toState).basis = (control e.toState).basis := rfl

@[simp] theorem basis_startRebuild (l : Layout) (e : Event) :
    (control (startRebuild l e).toState).basis = (control e.toState).basis := by
  have lost : ∀ x : Event, control (forPorts allPorts loseTrace x).toState = control x.toState :=
    fun x => control_forPorts _ _ x control_loseTrace
  unfold startRebuild
  dsimp only
  split
  · rw [lost]; rfl
  · rw [basis_readHand, lost]; rfl

@[simp] theorem basis_newLayout (l : Layout) (e : Event) :
    (control (newLayout l e).toState).basis = (control e.toState).basis := by
  unfold newLayout
  split
  · rfl
  · split
    · rfl
    · simp
    · simp

@[simp] theorem basis_nextHand (b : Nat) (e : Event) :
    (control (nextHand b e).toState).basis = (control e.toState).basis := by
  unfold nextHand
  (repeat' split) <;> rfl

@[simp] theorem basis_endPoolSweep (e : Event) :
    (control (endPoolSweep e).toState).basis = (control e.toState).basis := by
  unfold endPoolSweep
  dsimp only
  split <;> simp

@[simp] theorem basis_endArea (a : Area) (again : Bool) (e : Event) :
    (control (endArea a again e).toState).basis = (control e.toState).basis := by
  unfold endArea
  dsimp only
  split <;> simp

@[simp] theorem basis_readRecord (a : Area) (again : Bool) (n : Nat) (e : Event) :
    (control (readRecord a again n e).toState).basis = (control e.toState).basis := rfl

@[simp] theorem basis_beginArea (a : Area) (e : Event) :
    (control (beginArea a e).toState).basis = (control e.toState).basis := by
  unfold beginArea
  cases a <;> dsimp only <;> (repeat' split) <;> simp <;> rfl

@[simp] theorem basis_nextRecord (a : Area) (e : Event) :
    (control (nextRecord a e).toState).basis = (control e.toState).basis := by
  unfold nextRecord
  (repeat' split) <;> simp

@[simp] theorem basis_failRecord (a : Area) (e : Event) :
    (control (failRecord a e).toState).basis = (control e.toState).basis := by
  unfold failRecord
  split <;> simp

@[simp] theorem basis_afterRecord (a : Area) (e : Event) :
    (control (afterRecord a e).toState).basis = (control e.toState).basis := by
  unfold afterRecord
  split <;> simp

/-! ### Orders -/

@[simp] theorem basis_takeOrder (n : SlotNo) (bytes : List Byte) (e : Event) :
    (control (takeOrder n bytes e).toState).basis = (control e.toState).basis := by
  have handed : ∀ (x : Event) m, (control ({ x with handed := m } : Event).toState).basis = (control x.toState).basis :=
    fun _ _ => rfl
  unfold takeOrder
  dsimp only
  split
  · simp
  · split
    · simp
    · refine (handed _ _).trans ?_
      split <;> simp

@[simp] theorem basis_dealOrder (n : SlotNo) (bytes : List Byte) (e : Event) :
    (control (dealOrder n bytes e).toState).basis = (control e.toState).basis := by
  unfold dealOrder
  dsimp only
  (repeat' split) <;> simp

@[simp] theorem basis_carriedOn (e : Event) : (control (carriedOn e).toState).basis = (control e.toState).basis :=
  (basis_nextRecord _ _).trans rfl

@[simp] theorem basis_carryQueued (p : Port) (e : Event) :
    (control (carryQueued p e).toState).basis = (control e.toState).basis := by
  simp [carryQueued]

/-- An order that runs at once keeps the basis when what it does keeps it. -/
theorem basis_carryOut (n : SlotNo) (o : Order) (f : Event → Event) (e : Event)
    (h : ∀ x, (control (f x).toState).basis = (control x.toState).basis) :
    (control (carryOut n o f e).toState).basis = (control e.toState).basis := by
  unfold carryOut
  rw [basis_carriedOn]
  split
  · exact h e
  · simp

@[simp] theorem basis_carryLoad (n : SlotNo) (p : Port) (a : Addr) (e : Event) :
    (control (carryLoad n p a e).toState).basis = (control e.toState).basis := by
  unfold carryLoad
  split <;> simp

@[simp] theorem basis_carryClearBreaks (n : SlotNo) (port : Option Port) (activeToo : Bool) (e : Event) :
    (control (carryClearBreaks n port activeToo e).toState).basis = (control e.toState).basis := by
  simp [carryClearBreaks]

@[simp] theorem basis_packetSent (p : Port) (k : Packet) (e : Event) :
    (control (packetSent p k e).toState).basis = (control e.toState).basis := rfl

@[simp] theorem basis_writeService (v : Word) (e : Event) :
    (control (writeService v e).toState).basis = (control e.toState).basis := by
  unfold writeService
  dsimp only
  split
  · rw [control_writeHeader]; rfl
  · rfl

end Sys2Proof.Machine

namespace Sys2Proof.Machine

/-! ## The operations that move the basis -/

/-- Outside HELD the cell is in SETUP. -/
theorem HandOff.setup {s : State} (h : HandOff s) (ht : s.page.taken ≠ .held) : s.cell.mode = .setup := by
  by_contra hm
  exact ht (h.held.mpr hm)

/-- A page that is HELD has no header read outstanding. -/
theorem HandOff.noHeader {s : State} (h : HandOff s) (ht : s.page.taken ≠ .taking) : s.page.headerReadBy = none := by
  cases hr : s.page.headerReadBy with
  | none => rfl
  | some d => exact absurd (h.header.mp (by rw [hr]; rfl)) ht

/-- Outside RUN the re-check is stopped. -/
theorem HandOff.noRecheck {s : State} (h : HandOff s) (hm : s.cell.mode ≠ .run) : s.cell.recheckAt = none := by
  cases hr : s.cell.recheckAt with
  | none => rfl
  | some d => exact absurd (h.recheck.mp (by rw [hr]; rfl)) hm

/-- Outside RUN no budget is in force. -/
theorem HandOff.noBudget {s : State} (h : HandOff s) (hm : s.cell.mode ≠ .run) : s.budget.inForce = 0 := by
  by_contra hf
  exact hm (h.funded hf)

/-! ### The page -/

/-- A take that fails leaves the page ABSENT, with the cell in SETUP still (R3). -/
theorem HandOff.failTake {e : Event} (h : HandOff e.toState) (ht : e.page.taken ≠ .held) :
    HandOff (Machine.failTake e).toState := by
  have failed : HandOff { e.toState with page := { e.page with taken := .absent, headerReadBy := none } } :=
    { h with held := by simp [h.setup ht], header := by simp }
  exact failed.of_basis (by unfold Machine.failTake; rw [control_raiseFlags])

/-- A take that starts is TAKING with its header read outstanding, or has failed (R3). -/
theorem HandOff.startTake {e : Event} (a : Addr) (h : HandOff e.toState) (ht : e.page.taken ≠ .held) :
    HandOff (Machine.startTake a e).toState := by
  unfold Machine.startTake
  split
  · exact { h with held := by simp [h.setup ht], header := by simp [timer] }
  · exact h.failTake ht

/-- The basis after a release of a HELD page (R5, R36). -/
theorem basis_releasePage_held {e : Event} (ht : e.page.taken = .held) : (control (releasePage e).toState).basis =
    { taken := .absent, headerReadBy := e.page.headerReadBy, mode := .setup, recheckAt := none, standing := false, sheet := none
      inForce := 0, remainder := 0 } := by
  have shares : ∀ x : Event, control (forEntries poolShare x).toState = control x.toState :=
    fun x => control_forEntries _ x control_poolShare
  have ports : ∀ x : Event, control (forPorts allPorts (fun p y => modPort p PortState.release y) x).toState = control x.toState :=
    fun x => control_forPorts _ _ x fun _ _ => rfl
  have powers : ∀ x : Event, control (forPorts allPorts (powerDown .release) x).toState = control x.toState :=
    fun x => control_forPorts _ _ x (control_powerDown .release)
  have cleared : ∀ x : Event, (control (closeWindow { x with
      slots := x.slots.map Slot.release, pool := { Pool.reset with handErrors := x.pool.handErrors }
      trigger := { x.trigger with remainder := 0, seenHigh := false, seenLow := false } }).toState).basis =
      { (control x.toState).basis with remainder := 0 } := fun _ => rfl
  have unclaimed : ∀ x : Event, (control ({ x with pool := { x.pool with claims := [] } } : Event).toState).basis =
      (control x.toState).basis := fun _ => rfl
  unfold releasePage
  rw [if_pos (by simp [held, ht])]
  dsimp only
  rw [cleared, ports, shares, unclaimed, basis_disarmAll, powers]
  rfl

/-- A release of a page that is not HELD closes the window and abandons a take (R5). -/
theorem releasePage_absent {e : Event} (ht : e.page.taken ≠ .held) : releasePage e =
    closeWindow { e with page := { e.page with taken := .absent, headerReadBy := none } } :=
  if_neg (by simp [held, ht])

/-- A release leaves the page ABSENT and the cell in SETUP, with nothing in force (R5, R36). -/
theorem HandOff.releasePage {e : Event} (h : HandOff e.toState) : HandOff (Machine.releasePage e).toState := by
  by_cases ht : e.page.taken = .held
  · have hh : e.page.headerReadBy = none := h.noHeader (by simp [ht])
    have released : HandOff { e.toState with
        page := { e.page with taken := .absent }, cell := CellCtl.reset, budget := Budget.reset
        trigger := { e.trigger with remainder := 0 } } := by
      constructor <;> simp [CellCtl.reset, Budget.reset, hh]
    exact released.of_basis (basis_releasePage_held ht)
  · rw [releasePage_absent ht]
    exact { h with held := by simp [closeWindow, h.setup ht], header := by simp [closeWindow] }

/-- After a release the page is ABSENT. -/
theorem releasePage_taken (e : Event) : (releasePage e).page.taken = .absent := by
  by_cases ht : e.page.taken = .held
  · exact congrArg Basis.taken (basis_releasePage_held ht)
  · rw [releasePage_absent ht]; rfl

theorem HandOff.actOnPair {e : Event} (h : HandOff e.toState) : HandOff (Machine.actOnPair e).toState := by
  unfold Machine.actOnPair
  dsimp only
  split
  · exact h.releasePage.of_basis rfl
  · split
    · next ht => exact h.startTake _ (by simp [ht])
    · exact h.releasePage.startTake _ (by simp [releasePage_taken])

theorem HandOff.writePageHi (v : Word) {e : Event} (h : HandOff e.toState) : HandOff (Machine.writePageHi v e).toState := by
  unfold Machine.writePageHi
  dsimp only
  split
  · exact h.of_basis rfl
  · have stored : HandOff ({ e with page := { e.page with hi := v } } : Event).toState := h.of_basis rfl
    exact stored.actOnPair

/-- The basis after a successful take (R4). -/
theorem basis_takePage (e : Event) : (control (takePage e).toState).basis = { (control e.toState).basis with
    taken := .held, headerReadBy := none, mode := .configure } := by
  have zeroed : ∀ x : Event, control (forNumbers allNumbers zeroMirror x).toState = control x.toState :=
    fun x => control_forNumbers _ _ x fun _ _ => rfl
  have mirrored : ∀ (ns : List (Fin 16)) (x : Event), control (forNumbers ns writeMirror x).toState = control x.toState :=
    fun ns x => control_forNumbers ns _ x control_writeMirror
  unfold takePage
  dsimp only
  rw [control_attend, mirrored, zeroed, control_writeHeader]
  rfl

/-- A take under way that succeeds makes the page HELD and the cell CONFIGURE, with nothing in force still (R4). -/
theorem HandOff.takePage {e : Event} (h : HandOff e.toState) (ht : e.page.taken ≠ .held) :
    HandOff (Machine.takePage e).toState := by
  have hm : e.cell.mode ≠ .run := by simp [h.setup ht]
  have taken : HandOff { e.toState with
      page := { e.page with taken := .held, headerReadBy := none }, cell := { e.cell with mode := .configure } } :=
    { h with
      held := by simp
      recheck := by simp [h.noRecheck hm]
      header := by simp
      standing := by simp
      funded := by simp [h.noBudget hm] }
  exact taken.of_basis (basis_takePage e)

/-! ### The mode and the sheet -/

/-- The basis after a teardown: the budget in force is 0 (R31, R61). -/
theorem basis_teardown (e : Event) : (control (teardown e).toState).basis = { (control e.toState).basis with inForce := 0 } := by
  have shares : ∀ x : Event, control (forEntries poolShare x).toState = control x.toState :=
    fun x => control_forEntries _ x control_poolShare
  have queues : ∀ x : Event, control (forPorts allPorts haltQueue x).toState = control x.toState :=
    fun x => control_forPorts _ _ x control_haltQueue
  have powers : ∀ x : Event, control (forPorts allPorts (powerDown .teardown) x).toState = control x.toState :=
    fun x => control_forPorts _ _ x (control_powerDown .teardown)
  have unseen : ∀ x : Event, (control ({ x with trigger := { x.trigger with seenHigh := false, seenLow := false } } :
      Event).toState).basis = (control x.toState).basis := fun _ => rfl
  unfold teardown
  dsimp only
  rw [unseen, shares, queues, control_answerClaims, basis_disarmAll, powers]
  rfl

/-- RUN left with its teardown keeps the hand-off, whatever is then shown (R31, R34). -/
theorem HandOff.leave {e : Event} {t : State} (why : Cause) (h : HandOff e.toState) (hm : e.cell.mode = .run)
    (ht : (control t).basis = { (control (leaveRun why e).toState).basis with inForce := 0 }) : HandOff t := by
  have hheld : e.page.taken = .held := h.held.mpr (by simp [hm])
  have left : HandOff { (leaveRun why e).toState with budget := Budget.reset } :=
    { h with
      held := by simp [leaveRun, hheld]
      recheck := by simp [leaveRun]
      standing := by simp [leaveRun]
      funded := by simp [Budget.reset] }
  exact left.of_basis ht

theorem HandOff.carryHalt (n : SlotNo) {e : Event} (h : HandOff e.toState) (hm : e.cell.mode = .run) :
    HandOff (Machine.carryHalt n e).toState := by
  refine h.leave .halt hm ?_
  unfold Machine.carryHalt
  rw [basis_teardown, control_startSlot, control_showMode]

theorem HandOff.cellCheck {e : Event} (h : HandOff e.toState) (hm : e.cell.mode = .run) :
    HandOff (Machine.cellCheck e).toState := by
  refine h.leave .cellCheck hm ?_
  unfold Machine.cellCheck
  rw [control_showMode, control_setStop, basis_teardown]

theorem forProgs_clock (f : ProgNo → Event → Event) (e : Event) (h : ∀ i x, (f i x).clock = x.clock) :
    (forProgs f e).clock = e.clock := by
  simp [forProgs, allProgs, h]

/-- The basis after an accepted START (R30). -/
theorem basis_startCell (e : Event) : (control (startCell e).toState).basis = { (control e.toState).basis with
    mode := .run, recheckAt := timer Config.recheckPeriod e, inForce := sheetBudget e.toState, remainder := 0 } := by
  have shown : ∀ x : Event, sheetBudget (showMode x).toState = sheetBudget x.toState := fun x => by
    unfold sheetBudget
    rw [show (showMode x).cell = x.cell from congrArg Control.cell (control_showMode x)]
  have begun : ∀ x : Event, (control x.toState).basis = (control e.toState).basis → x.clock = e.clock →
      ∀ y : Event, y = { x with
        trigger := { x.trigger with encCount := 0, remainder := 0 }
        cell := { x.cell with mode := .run, cause := some .start, recheckAt := timer Config.recheckPeriod x } } →
      (control y.toState).basis = { (control e.toState).basis with
        mode := .run, recheckAt := timer Config.recheckPeriod e, remainder := 0 } ∧
      sheetBudget y.toState = sheetBudget e.toState := by
    intro x hb hc y hy
    have hsheet : x.cell.sheet = e.cell.sheet := congrArg Basis.sheet hb
    subst hy
    constructor
    · rw [← hb]
      simp [control, Control.basis, timer, hc]
    · unfold sheetBudget
      rw [show ∀ c : CellCtl, ({ c with mode := .run } : CellCtl).sheet = c.sheet from fun _ => rfl]
      simp only [hsheet]
  have funded : ∀ x : Event, (control ({ x with budget := { x.budget with inForce := sheetBudget x.toState } } :
      Event).toState).basis = { (control x.toState).basis with inForce := sheetBudget x.toState } := fun _ => rfl
  obtain ⟨hbasis, hbudget⟩ := begun (forProgs disarmProgram { e with cell := { e.cell with storedCheck := sheetCheck e.toState } })
    ((basis_forProgs _ _ basis_disarmProgram).trans rfl) (forProgs_clock _ _ fun _ _ => rfl) _ rfl
  unfold startCell
  dsimp only
  rw [control_forPorts _ _ _ control_offerPowerUp, funded, shown, control_showMode]
  dsimp only at hbasis hbudget
  rw [hbasis, hbudget]

/-- An accepted START stands on a sheet, restarts the re-check and clears the remainder (R29, R30). -/
theorem HandOff.carryStart (n : SlotNo) {e : Event} (h : HandOff e.toState) (hm : e.cell.mode = .configure) :
    HandOff (Machine.carryStart n e).toState := by
  have hheld : e.page.taken = .held := h.held.mpr (by simp [hm])
  unfold Machine.carryStart
  split
  · exact h.of_basis (by simp)
  · next hr =>
    have hst : e.cell.standing = true := by
      cases hx : e.cell.standing with
      | true => rfl
      | false => simp [startRefusal, hx] at hr
    have started : HandOff { e.toState with
        cell := { e.cell with mode := .run, recheckAt := timer Config.recheckPeriod e }
        budget := { e.budget with inForce := sheetBudget e.toState }, trigger := { e.trigger with remainder := 0 } } :=
      { h with
        held := by simp [hheld]
        recheck := by simp [timer]
        standing := by simp [hst]
        funded := by simp
        divided := .inl rfl }
    exact started.of_basis (by rw [control_doneSlot, basis_startCell]; rfl)

/-- A Cell Sheet taken in CONFIGURE stands, and the remainder is 0 or below the same divider (R23, R103). -/
theorem HandOff.takeCellSheet (c : CellSheet) {e : Event} (h : HandOff e.toState) :
    HandOff (Machine.takeCellSheet c e).toState := by
  refine HandOff.of_basis ?_ (basis_newLayout _ _)
  refine { h with copied := by simp, standing := by simp, divided := ?_ }
  have kept : (if encoderSetting e.toState = (c.edge, c.divider) then e.trigger else { e.trigger with remainder := 0 }).remainder =
      0 ∨ (if encoderSetting e.toState = (c.edge, c.divider) then e.trigger else { e.trigger with remainder := 0 }).remainder <
      c.divider := by
    split
    · next henc => simpa [henc] using h.divided
    · exact .inl rfl
  exact kept

theorem HandOff.dealCellSheet (bytes : List Byte) {e : Event} (h : HandOff e.toState) :
    HandOff (Machine.dealCellSheet bytes e).toState := by
  have shown : ∀ (x : Event) (t : TakeReport), HandOff x.toState →
      HandOff (attend flagCell (writeHeader { x with cell := { x.cell with take := t } })).toState :=
    fun x t hx => hx.of_basis (by rw [control_attend, control_writeHeader]; rfl)
  unfold Machine.dealCellSheet
  dsimp only
  split
  · exact h
  · refine shown _ _ ?_
    unfold judgeSheet
    split
    · exact h
    · split
      · exact h.takeCellSheet _
      · exact h

/-- A record read keeps the hand-off, whichever area it is of (R12). -/
theorem HandOff.recordRead (a : Area) (bytes : List Byte) {e : Event} (h : HandOff e.toState) :
    HandOff (Machine.recordRead a bytes e).toState := by
  unfold Machine.recordRead
  split
  · refine HandOff.of_basis ?_ (basis_afterRecord _ _)
    cases a with
    | cellSheet => exact h.dealCellSheet bytes
    | portSheet p => exact h.of_basis (congrArg Control.basis (control_dealPortSheet p bytes e))
    | orders => exact h.of_basis (basis_dealOrder _ bytes e)
    | pool => exact h.of_basis (congrArg Control.basis (control_dealBuffer _ bytes e))
  · exact h

/-- A counted edge keeps the remainder below the divider (R103). -/
theorem HandOff.countEdge {e : Event} (h : HandOff e.toState) :
    HandOff (Machine.countEdge (encoderSetting e.toState).2 e).toState := by
  unfold Machine.countEdge
  split
  · next hlt => exact { h with divided := .inr hlt }
  · have zeroed : HandOff ({ e with trigger := { e.trigger with remainder := 0, encCount := e.trigger.encCount + 1 } } :
        Event).toState := { h with divided := .inl rfl }
    exact zeroed.of_basis (basis_forProgs _ _ basis_encoderEvent)

end Sys2Proof.Machine

namespace Sys2Proof.Machine

/-! ## Every command keeps the hand-off -/

/-- A part at the reset values of the basis has the hand-off. -/
theorem HandOff.of_reset {s : State} (h : (control s).basis = (control State.reset).basis) : HandOff s := by
  have reset : HandOff State.reset := by
    constructor <;> simp [State.reset, PageIf.reset, CellCtl.reset, Budget.reset, Trigger.reset]
  exact reset.of_basis h

/-! ### Register writes and the hand-off of the page -/

theorem HandOff.writeRegister (o : Nat) (v : Word) {e : Event} (h : HandOff e.toState) :
    HandOff (Machine.writeRegister o v e).toState := by
  unfold Machine.writeRegister
  split
  · exact h.of_basis (basis_writeService v e)
  · exact h.of_basis rfl
  · exact h.writePageHi v
  · exact h.of_basis (congrArg Control.basis (control_writeNotice v e))
  · exact h.of_basis (congrArg Control.basis (control_clearAttention v e))
  · exact h.of_basis (congrArg Control.basis (control_writeMask v e))
  · exact h

theorem execRegisterWriteOther_keeps_handOff (o : BitVec 12) (size : Nat) (v : Word) {s t : State} (hs : HandOff s)
    (h : execRegisterWriteOther o size v s = .next t) : HandOff t := by
  refine HandOff.of_act h hs fun e he => ?_
  split
  · exact he.writeRegister _ v
  · exact he

theorem execPageHeaderReadComplete_keeps_handOff (reply : Completion (Option (Word × Word))) {s t : State} (hs : HandOff s)
    (h : execPageHeaderReadComplete reply s = .next t) : HandOff t := by
  refine HandOff.of_act h hs fun e he => ?_
  split
  · next ht =>
    split
    · exact he.takePage (by simp [ht.1])
    · exact he.failTake (by simp [ht.1])
  · exact he

theorem execPageHeaderReadTimeout_keeps_handOff {s t : State} (hs : HandOff s)
    (h : execPageHeaderReadTimeout s = .next t) : HandOff t := by
  refine HandOff.of_act h hs fun e he => ?_
  split
  · next ht => exact he.failTake (by simp [ht.1])
  · exact he

theorem execPageReleaseEnd_keeps_handOff {s t : State} (hs : HandOff s) (h : execPageReleaseEnd s = .next t) : HandOff t := by
  refine HandOff.of_act h hs fun e he => ?_
  have ended : HandOff ({ e with page := { e.page with releasing := false, hiOwed := false } } : Event).toState := he.of_basis rfl
  split
  · split
    · exact ended.actOnPair
    · exact ended
  · exact he

theorem execSweepRecordRead_keeps_handOff (a : Area) (bytes : Completion (List Byte)) {s t : State} (hs : HandOff s)
    (h : execSweepRecordRead a bytes s = .next t) : HandOff t := by
  refine HandOff.of_act h hs fun e he => ?_
  unfold completes
  split
  · exact he.recordRead a bytes.data
  · exact he

/-! ### START, HALT, the re-check and the encoder -/

/-- An order carried out at once keeps the hand-off when its work does in a mode that accepts it (R43). -/
theorem HandOff.carryOut (n : SlotNo) (o : Order) (f : Event → Event) {e : Event} (h : HandOff e.toState)
    (hf : o.acceptedIn e.cell.mode = true → HandOff (f e).toState) : HandOff (Machine.carryOut n o f e).toState := by
  refine HandOff.of_basis ?_ (basis_carriedOn _)
  split
  · next hm => exact hf hm
  · exact h.of_basis (congrArg Control.basis (control_refuseSlot n .wrongMode e))

theorem execStart_keeps_handOff (n : SlotNo) {s t : State} (hs : HandOff s) (h : execStart n s = .next t) : HandOff t := by
  refine HandOff.of_act h hs fun e he => ?_
  split
  · refine he.carryOut n .start _ fun hm => he.carryStart n ?_
    cases hx : e.cell.mode <;> simp_all [Order.acceptedIn]
  · exact he

theorem execHalt_keeps_handOff (n : SlotNo) {s t : State} (hs : HandOff s) (h : execHalt n s = .next t) : HandOff t := by
  refine HandOff.of_act h hs fun e he => ?_
  split
  · refine he.carryOut n .halt _ fun hm => he.carryHalt n ?_
    cases hx : e.cell.mode <;> simp_all [Order.acceptedIn]
  · exact he

theorem execCellRecheck_keeps_handOff {s t : State} (hs : HandOff s) (h : execCellRecheck s = .next t) : HandOff t := by
  refine HandOff.of_act h hs fun e he => ?_
  split
  · next t hm _ =>
    have again : HandOff ({ e with cell := { e.cell with recheckAt := some (t + Config.recheckPeriod) } } : Event).toState :=
      { he with recheck := by simp [hm] }
    dsimp only
    split
    · split
      · exact again
      · exact again.cellCheck hm
    · exact he
  · exact he

theorem execEncoderEdge_keeps_handOff (level : Bool) (ns : Nat) {s t : State} (hs : HandOff s)
    (h : execEncoderEdge level ns s = .next t) : HandOff t := by
  refine HandOff.of_act h hs fun e he => ?_
  have filtered : HandOff ({ e with trigger := { e.trigger with enc := level } } : Event).toState := he.of_basis rfl
  split
  · dsimp only
    split
    · exact filtered.countEdge
    · exact filtered
  · exact he

/-! ### Commands that keep the basis -/

/-- An uplink packet whose effect leaves the control part as it is keeps the hand-off (R87). -/
theorem HandOff.of_uplink {p : Port} {ok : Bool} {f : Event → Event} {s t : State} (h : act (uplink p ok f) s = .next t)
    (hs : HandOff s) (hf : ∀ x, control (f x).toState = control x.toState) : HandOff t :=
  HandOff.of_act_basis h hs fun e => congrArg Control.basis (control_uplink p ok f e hf)

theorem execWindowEnd_keeps_handOff {s t : State} (hs : HandOff s) (h : execWindowEnd s = .next t) : HandOff t := by
  have next : ∀ x : Event, (control ({ x with trigger := { x.trigger with
      seenHigh := x.trigger.motion, seenLow := !x.trigger.motion
      windowAt := x.trigger.windowAt + Config.windowTime } } : Event).toState).basis = (control x.toState).basis := fun _ => rfl
  refine HandOff.of_act_basis h hs fun e => ?_
  split
  · exact (next _).trans (basis_endWindows e)
  · rfl

theorem execTrimComplete_keeps_handOff (p : Port) (readings : Vector Int 16) {s t : State} (hs : HandOff s)
    (h : execTrimComplete p readings s = .next t) : HandOff t := by
  refine HandOff.of_act_basis h hs fun e => ?_
  split
  · dsimp only
    rw [control_setPower]; rfl
  · rfl

theorem execCurrentMeasurement_keeps_handOff (readings : Vector Reading 8) {s t : State} (hs : HandOff s)
    (h : execCurrentMeasurement readings s = .next t) : HandOff t := by
  refine HandOff.of_act_basis h hs fun e => ?_
  rw [control_forPorts _ _ _ control_judgeCurrent, control_forPorts _ _ _ fun p x => control_modPower p _ x]

theorem execFaultActionApplied_keeps_handOff {s t : State} (hs : HandOff s) (h : execFaultActionApplied s = .next t) :
    HandOff t := by
  refine HandOff.of_act_basis h hs fun e => ?_
  split
  · rfl
  · rw [control_endFailedHush, control_considerProbe, control_applyAction]; rfl

theorem execTrigEdge_keeps_handOff (level : Bool) (ns : Nat) {s t : State} (hs : HandOff s)
    (h : execTrigEdge level ns s = .next t) : HandOff t := by
  refine HandOff.of_act_basis h hs fun e => ?_
  split
  · exact (basis_forProgs _ _ (basis_lineEvent level)).trans rfl
  · rfl

theorem execTimerSourceEvent_keeps_handOff (i : ProgNo) {s t : State} (hs : HandOff s)
    (h : execTimerSourceEvent i s = .next t) : HandOff t := by
  refine HandOff.of_act_basis h hs fun e => ?_
  dsimp only
  (repeat' split) <;> simp

theorem execStepReached_keeps_handOff (i : ProgNo) {s t : State} (hs : HandOff s)
    (h : execStepReached i s = .next t) : HandOff t := by
  refine HandOff.of_act_basis h hs fun e => ?_
  dsimp only
  (repeat' split) <;> simp

/-! ### All of them -/

/-- Every command keeps the hand-off. The resets give it afresh; PAGE_HI writes, the end of the header read and of a release move the
page with the mode; a Cell Sheet, START, HALT, the re-check and an encoder edge move the cell; every other command keeps the basis. -/
theorem exec_keeps_handOff (c : Instr) {s t : State} (hs : HandOff s) (h : exec c s = .next t) : HandOff t := by
  cases c with
  | powerOnReset enc trig motion => injection h with h; subst h; exact HandOff.of_reset rfl
  | supplyLoss => injection h with h; subst h; exact HandOff.of_reset rfl
  | lineReset =>
    injection h with h
    split at h <;> subst h
    · exact HandOff.of_reset rfl
    · exact hs
  | lineResetRelease enc trig motion =>
    injection h with h
    split at h <;> subst h
    · exact { hs with divided := .inl rfl }
    · exact hs
  | pcieConfigurationWrite on v =>
    injection h with h
    split at h <;> subst h
    · exact hs.of_basis rfl
    · exact hs
  | registerWriteOther o size v => exact execRegisterWriteOther_keeps_handOff o size v hs h
  | pageTake hi => exact HandOff.of_act h hs fun e he => he.writePageHi hi
  | pageRelease => exact HandOff.of_act h hs fun e he => he.writePageHi 0
  | pageHeaderReadComplete reply => exact execPageHeaderReadComplete_keeps_handOff reply hs h
  | pageHeaderReadTimeout => exact execPageHeaderReadTimeout_keeps_handOff hs h
  | pageReleaseEnd => exact execPageReleaseEnd_keeps_handOff hs h
  | sweepRecordRead a bytes => exact execSweepRecordRead_keeps_handOff a bytes hs h
  | start n => exact execStart_keeps_handOff n hs h
  | halt n => exact execHalt_keeps_handOff n hs h
  | cellRecheck => exact execCellRecheck_keeps_handOff hs h
  | encoderEdge level ns => exact execEncoderEdge_keeps_handOff level ns hs h
  | serviceWrite v => exact HandOff.of_act_basis h hs (basis_writeService v)
  | sweepReadFail a =>
    refine HandOff.of_act_basis h hs fun e => ?_
    unfold completes
    split <;> simp
  | portReportRefresh => exact HandOff.of_act_basis h hs fun e => basis_forPorts _ _ e fun p x => by simp
  | haltTeardownDone => exact HandOff.of_act_basis h hs fun e => basis_foldl _ _ e fun x n => by simp
  | windowEnd => exact execWindowEnd_keeps_handOff hs h
  | trimComplete p readings => exact execTrimComplete_keeps_handOff p readings hs h
  | currentMeasurement readings => exact execCurrentMeasurement_keeps_handOff readings hs h
  | faultActionApplied => exact execFaultActionApplied_keeps_handOff hs h
  | trigEdge level ns => exact execTrigEdge_keeps_handOff level ns hs h
  | timerSourceEvent i => exact execTimerSourceEvent_keeps_handOff i hs h
  | stepReached i => exact execStepReached_keeps_handOff i hs h
  | motionChange level ns => exact HandOff.of_act_basis h hs fun e => by split <;> rfl
  | strobeEnd l => exact HandOff.of_act_basis h hs fun e => by split <;> rfl
  | frameOpen p tag width height depth => exact HandOff.of_uplink h hs fun x => by split <;> simp
  | frameData p tag offset data => exact HandOff.of_uplink h hs (control_dataFrame p tag offset data)
  | frameClose p tag total status => exact HandOff.of_uplink h hs (control_closeFrame p tag total status)
  | lensState p l => exact HandOff.of_uplink h hs (control_lensReport p l)
  | idle p voltage => exact HandOff.of_uplink h hs fun x => control_modPower p _ x
  | hushed p => exact HandOff.of_uplink h hs fun x => by split <;> simp
  | arm n =>
    refine HandOff.of_act_basis h hs fun e => ?_
    split
    · exact basis_carryOut _ _ _ e fun x => by simp [doneProgram]
    · rfl
  | disarm n =>
    refine HandOff.of_act_basis h hs fun e => ?_
    split
    · exact basis_carryOut _ _ _ e fun x => by simp [doneProgram]
    · rfl
  | checkTest n =>
    refine HandOff.of_act_basis h hs fun e => ?_
    split
    · exact basis_carryOut _ _ _ e fun x => by rw [control_doneSlot]; rfl
    · rfl
  | cancel n | cableLoad n | cableSave n | clearBreaks n | clearFaults n | clearStop n | clearLockout n =>
    refine HandOff.of_act_basis h hs fun e => ?_
    split
    · exact basis_carryOut _ _ _ e fun x => by simp
    · rfl
  | _ =>
    refine HandOff.of_act_basis h hs fun e => ?_
    (repeat' split) <;> simp

/-- Settles O56: a step carries out the command at the front of the queue, or queues commands as time passes. -/
theorem handOffKept : Obligations.HandOffKept := by
  unfold Obligations.HandOffKept
  intro s t hs h
  unfold step at h
  split at h
  · next c rest _ => exact exec_keeps_handOff c (s := { s with pending := rest }) (hs.of_basis rfl) h
  · injection h with h
    subst h
    exact hs.of_basis (by unfold ownStep; (repeat' split) <;> rfl)

end Sys2Proof.Machine

namespace Sys2Proof.Machine

/-! ## Bytes of numbers and packets (R8, R83 to R86) -/

@[simp] theorem length_leBytes (n v : Nat) : (leBytes n v).length = n := by
  induction n generalizing v with
  | zero => rfl
  | succ n ih => simp [leBytes, ih]

/-- The n lowest bytes of a number spell it modulo 256^n. -/
theorem leNat_leBytes (n v : Nat) : leNat (leBytes n v) = v % 256 ^ n := by
  induction n generalizing v with
  | zero => simp [leBytes, leNat, Nat.mod_one]
  | succ n ih =>
    have head : (BitVec.ofNat 8 v).toNat = v % 256 := BitVec.toNat_ofNat v 8
    rw [leBytes, leNat, ih, head, pow_succ', Nat.mod_mul]

@[simp] theorem length_beBytes (n v : Nat) : (beBytes n v).length = n := by simp [beBytes]

theorem beNat_beBytes (n v : Nat) : beNat (beBytes n v) = v % 256 ^ n := by
  simp [beNat, beBytes, leNat_leBytes]

/-- The two bytes of a 16-bit quantity spell it. -/
@[simp] theorem beNat_beBytes_half (x : Half) : beNat (beBytes 2 x.toNat) = x.toNat := by
  rw [beNat_beBytes]
  exact Nat.mod_eq_of_lt x.isLt

@[simp] theorem beNat_byte (x : Byte) : beNat [x] = x.toNat := by simp [beNat, leNat]

@[simp] theorem beNat_beBytes_word (x : Word) : beNat (beBytes 4 x.toNat) = x.toNat := by
  rw [beNat_beBytes]
  exact Nat.mod_eq_of_lt x.isLt

/-- What a packet whose check passes is read as, from its bytes before the check (R83, R85). -/
def packetCommand (p : Port) (body : List Byte) : Instr :=
  let at' := if tagged (fieldAt 0 1 body) then 3 else 1
  if fieldAt at' 2 body ≠ (body.drop (at' + 2)).length then .badPacket p
  else commandOf p (fieldAt 0 1 body) (fieldAt 1 2 body) (body.drop (at' + 2))

/-- A packet is read by its check first: with a wrong one it is bad, with the right one it is what its other bytes say, when they are
as many as a packet has (R83, R86). -/
theorem uplinkCommand_append (p : Port) (body : List Byte) (crc : Half) :
    uplinkCommand p (body ++ beBytes 2 crc.toNat) =
      if body.length < 3 ∨ crc ≠ crc16 body then .badPacket p else packetCommand p body := by
  have before : (body ++ beBytes 2 crc.toNat).take ((body ++ beBytes 2 crc.toNat).length - 2) = body := by simp
  have behind : (body ++ beBytes 2 crc.toNat).drop ((body ++ beBytes 2 crc.toNat).length - 2) = beBytes 2 crc.toNat := by simp
  unfold uplinkCommand
  dsimp only
  rw [before, behind, beNat_beBytes_half]
  by_cases hlen : body.length < 3
  · rw [if_pos (by simp; omega), if_pos (.inl hlen)]
  · rw [if_neg (by simp; omega)]
    by_cases hcrc : crc = crc16 body
    · have passes : ¬ (body.length < 3 ∨ crc ≠ crc16 body) := by simp [hcrc]; omega
      rw [if_neg (by simp [hcrc]), if_neg passes]
      rfl
    · rw [if_pos fun h => hcrc (BitVec.eq_of_toNat_eq h.symm), if_pos (.inr hcrc)]

/-- A good packet of at least three bytes before its check is what they say. -/
theorem uplinkCommand_good (p : Port) {body : List Byte} (h : 3 ≤ body.length) :
    uplinkCommand p (body ++ beBytes 2 (crc16 body).toNat) = packetCommand p body := by
  rw [uplinkCommand_append, if_neg (by simp; omega)]

/-- The field that stands behind other bytes. -/
theorem fieldAt_append (pre field post : List Byte) :
    fieldAt pre.length field.length (pre ++ (field ++ post)) = beNat field := by
  simp [fieldAt]

/-- A packet without a tag: kind, payload length, payload (R83). -/
theorem packetCommand_untagged (p : Port) (k : Byte) (size : Half) (pay : List Byte) (hk : tagged k.toNat = false)
    (hs : size.toNat = pay.length) : ∃ tag, packetCommand p ([k] ++ (beBytes 2 size.toNat ++ pay)) = commandOf p k.toNat tag pay := by
  have kind : fieldAt 0 1 ([k] ++ (beBytes 2 size.toNat ++ pay)) = k.toNat := by
    simpa using fieldAt_append [] [k] (beBytes 2 size.toNat ++ pay)
  have length : fieldAt 1 2 ([k] ++ (beBytes 2 size.toNat ++ pay)) = pay.length := by
    rw [← hs]
    simpa using fieldAt_append [k] (beBytes 2 size.toNat) pay
  have behind : ([k] ++ (beBytes 2 size.toNat ++ pay)).drop 3 = pay := by simp
  refine ⟨fieldAt 1 2 ([k] ++ (beBytes 2 size.toNat ++ pay)), ?_⟩
  unfold packetCommand
  rw [kind, hk]
  simp only [Bool.false_eq_true, if_false, Nat.reduceAdd, behind]
  rw [if_neg (not_not.mpr length)]

/-- A packet with a tag: kind, tag, payload length, payload (R83). -/
theorem packetCommand_tagged (p : Port) (k : Byte) (tag size : Half) (pay : List Byte) (hk : tagged k.toNat = true)
    (hs : size.toNat = pay.length) :
    packetCommand p ([k] ++ (beBytes 2 tag.toNat ++ (beBytes 2 size.toNat ++ pay))) = commandOf p k.toNat tag.toNat pay := by
  have kind : fieldAt 0 1 ([k] ++ (beBytes 2 tag.toNat ++ (beBytes 2 size.toNat ++ pay))) = k.toNat := by
    simpa using fieldAt_append [] [k] (beBytes 2 tag.toNat ++ (beBytes 2 size.toNat ++ pay))
  have shot : fieldAt 1 2 ([k] ++ (beBytes 2 tag.toNat ++ (beBytes 2 size.toNat ++ pay))) = tag.toNat := by
    simpa using fieldAt_append [k] (beBytes 2 tag.toNat) (beBytes 2 size.toNat ++ pay)
  have length : fieldAt 3 2 ([k] ++ (beBytes 2 tag.toNat ++ (beBytes 2 size.toNat ++ pay))) = pay.length := by
    rw [← hs]
    simpa using fieldAt_append ([k] ++ beBytes 2 tag.toNat) (beBytes 2 size.toNat) pay
  have behind : ([k] ++ (beBytes 2 tag.toNat ++ (beBytes 2 size.toNat ++ pay))).drop 5 = pay := by
    simpa using List.drop_left' (l₁ := [k] ++ (beBytes 2 tag.toNat ++ beBytes 2 size.toNat)) (l₂ := pay) (i := 5) (by simp)
  unfold packetCommand
  rw [kind, hk, shot]
  simp only [if_true, Nat.reduceAdd, behind]
  rw [if_neg (not_not.mpr length)]

/-- Settles O52: a packet's bytes are read field by field behind its check. -/
theorem checksAndPackets : Obligations.ChecksAndPackets := by
  unfold Obligations.ChecksAndPackets
  refine ⟨by decide +kernel, by decide +kernel, fun p v body hb => ?_, fun p tag total status body hb => ?_, fun p body crc h => ?_⟩
  · subst hb
    rw [uplinkCommand_good p (by simp)]
    obtain ⟨tag, idle⟩ := packetCommand_untagged p 0x46 2 (beBytes 2 v.toNat) rfl (by simp)
    exact idle.trans (by simp [commandOf, fieldAt, List.take_of_length_le])
  · subst hb
    rw [uplinkCommand_good p (by simp)]
    have close := packetCommand_tagged p 0x44 tag 5 (beBytes 4 total.toNat ++ [status]) rfl (by simp)
    have fields : ([0x44] : List Byte) ++ (beBytes 2 tag.toNat ++ (beBytes 2 (5 : Half).toNat ++ (beBytes 4 total.toNat ++ [status]))) =
      ([0x44] : List Byte) ++ beBytes 2 tag.toNat ++ [0x00, 0x05] ++ beBytes 4 total.toNat ++ [status] := by simp; rfl
    rw [← fields]
    exact close.trans (by simp [commandOf, fieldAt])
  · rw [uplinkCommand_append, if_pos (.inr h)]

/-! ## The reset state (R19, R182) -/

@[simp] theorem reset_port (p : Port) : State.reset.ports.get p = PortState.reset CableRec.absent := by
  simp [State.reset, Vector.get_eq_getElem]

theorem handOff_reset : HandOff State.reset := HandOff.of_reset rfl

theorem budgeted_reset : Budgeted State.reset where
  base := by simp [PortState.reset, PortPower.reset, PowerState.powered]
  motion := by simp [PortState.reset, PortPower.reset, LensRec.reset]
  inRun := by simp [State.reset, CellCtl.reset]
  outside := by simp [State.reset, Budget.reset]
  within := by decide +kernel
  settled := by simp [PortState.reset, PortPower.reset]
  dark := by simp [PortState.reset, PortLink.reset]

theorem queued_reset : Queued State.reset where
  once := List.nodup_nil
  exact := by simp [PortState.reset, PortPower.reset, State.reset, Budget.reset]
  claims := List.nodup_nil
  single := by simp [PortState.reset, PortPower.reset]

theorem inFlight_reset : InFlight State.reset := by
  constructor <;> simp [State.reset, Pool.reset, inFlight, CellCtl.reset]

/-- Settles O55: each invariant at the reset values. -/
theorem resetHasInvariants : Obligations.ResetHasInvariants :=
  ⟨handOff_reset, ⟨by decide, List.nodup_nil, by simp [State.reset, FaultUnit.reset]⟩, List.Pairwise.nil, budgeted_reset, queued_reset,
    inFlight_reset⟩

end Sys2Proof.Machine

namespace Sys2Proof.Machine

/-! ## Register writes (R1, R11, R14, R15) -/

/-- A write to an offset without an effect is discarded (R1). -/
theorem writeRegister_unused {o : Nat} (h : o ∉ [0x04, 0x08, 0x0C, 0x10, 0x14, 0x18]) (v : Word) (e : Event) :
    writeRegister o v e = e := by
  unfold writeRegister
  split <;> simp_all

/-- A write of PAGE_LO is stored; every other write of the row is discarded (R1, R2). -/
theorem exec_registerWriteOther {o : BitVec 12} {size : Nat} {v : Word} {s : State} (h : live s = true)
    (hw : (Instr.registerWriteOther o size v).wellFormed = true) : exec (.registerWriteOther o size v) s =
      .next (if o = 0x08 ∧ size = 4 then { s with page := { s.page with lo := v } } else s) := by
  refine act_plain h ?_
  by_cases h8 : o = 0x08 ∧ size = 4
  · obtain ⟨rfl, rfl⟩ := h8
    rfl
  · rw [if_neg h8]
    split
    · next hx =>
      refine writeRegister_unused ?_ v _
      have h8' : o.toNat ≠ 8 := fun ho => h8 ⟨BitVec.eq_of_toNat_eq ho, hx.1⟩
      simp [Instr.wellFormed, otherWrite, hx.1] at hw
      simp
      omega
    · rfl

/-- ATTENTION_CLEAR clears the flags written as 1 and sends nothing (R14, R15). -/
theorem exec_attentionClear {v : Word} {s : State} (h : live s = true) : exec (.attentionClear v) s =
    .next { s with page := { s.page with attention := s.page.attention &&& ~~~(v.setWidth 14) } } := by
  refine act_plain h ?_
  rw [clearAttention, setAttention_eq, risen_of_clear]
  · simp [Event.of]
  · intro hx h0
    refine hx ?_
    have h0' : s.page.attention &&& s.page.mask = 0 := h0
    calc s.page.attention &&& ~~~(v.setWidth 14) &&& s.page.mask
        = s.page.attention &&& s.page.mask &&& ~~~(v.setWidth 14) := by ac_rfl
      _ = 0 := by rw [h0']; simp

/-- ATTENTION_MASK_WRITE takes bits 0 to 13, and sends a message when flags AND mask rises from zero (R15). -/
theorem exec_attentionMaskWrite {v : Word} {s : State} (h : live s = true) : exec (.attentionMaskWrite v) s =
    .next { s with page := { s.page with mask := v.setWidth 14 }
                   traffic := s.traffic ++ s.risen s.page.attention (v.setWidth 14) } := by
  refine act_plain h ?_
  rw [writeMask, setAttention_eq]
  rfl

/-- A notice of an area makes an IDLE one PENDING and has a SWEEPING one swept again, while the page is HELD (R3, R11). -/
theorem act_notice {a : Area} {s : State} (h : live s = true) : act (notice a) s = .next (if s.page.taken = .held then
    { s with page := { s.page with areas := putAt s.page.areas (Area.index a) (noticed (areaState a s)) } } else s) := by
  refine act_plain h ?_
  unfold notice
  by_cases ht : s.page.taken = .held
  · rw [if_pos (by simp [held, ht]), if_pos ht]; rfl
  · rw [if_neg (by simp [held, ht]), if_neg ht]

/-- Settles O6: from what each register write makes of the page. -/
theorem registerWrites : Obligations.RegisterWrites := by
  unfold Obligations.RegisterWrites
  refine ⟨fun o size v s h hw => exec_registerWriteOther h hw, ⟨fun v s h => ?_, fun v s h => ?_⟩, fun a c s h hc => ?_⟩
  · exact ⟨_, exec_attentionClear h, fun i => by simp, rfl⟩
  · exact ⟨_, exec_attentionMaskWrite h, rfl, rfl, rfl⟩
  · have hx : exec c s = act (notice a) s := by
      obtain ⟨rfl, rfl⟩ | ⟨p, rfl, rfl⟩ | ⟨rfl, rfl⟩ | ⟨rfl, rfl⟩ := hc <;> rfl
    rw [hx, act_notice h]
    refine ⟨fun ht => by rw [if_neg ht], fun ht => ?_⟩
    rw [if_pos ht]
    refine ⟨_, rfl, ?_, fun b hb => ?_, rfl⟩
    · simp only [areaState, get_putAt_self]
      cases s.page.areas.get (Area.index a) <;> rfl
    · simp [areaState, get_putAt_ne _ _ _ _ (index_ne hb)]

end Sys2Proof.Machine

namespace Sys2Proof.Machine

/-! ## PAGE_HI (R2, R3, R5) -/

/-- A take that fails leaves the page ABSENT and sets ATTENTION.PAGE (R3). -/
theorem failTake_eq (e : Event) : failTake e = { e with
    page := { e.page with taken := .absent, headerReadBy := none, attention := e.page.attention ||| flagPage }
    traffic := e.traffic ++ e.toState.risen (e.page.attention ||| flagPage) e.page.mask } := by
  rw [failTake, raiseFlags_eq]
  rfl

/-- A take of an aligned address issues its header read (R3). -/
theorem startTake_aligned {a : Addr} (h : a &&& 0xFFF = 0) (e : Event) : startTake a e = { e with
    page := { e.page with taken := .taking, addr := a, headerReadBy := some (e.clock + 50000) }
    reads := e.reads.issued .header, traffic := e.traffic ++ [.read e.reads.next a 8] } := if_pos h

theorem startTake_unaligned {a : Addr} (h : a &&& 0xFFF ≠ 0) (e : Event) : startTake a e = failTake e := if_neg h

/-- A zero pair releases the page; the release lasts when the page was HELD (R2; log 11). -/
theorem actOnPair_zero {e : Event} (h : pagePair e.toState = 0) : actOnPair e =
    { releasePage e with page := { (releasePage e).page with releasing := e.page.taken == .held } } := if_pos h

/-- A pair that is not zero starts its take when the page is ABSENT (R2). -/
theorem actOnPair_absent {e : Event} (h : pagePair e.toState ≠ 0) (ht : e.page.taken = .absent) :
    actOnPair e = startTake (pagePair e.toState) e := (if_neg h).trans (if_pos ht)

/-- In TAKING or HELD the page is released first (R2). -/
theorem actOnPair_taken {e : Event} (h : pagePair e.toState ≠ 0) (ht : e.page.taken ≠ .absent) :
    actOnPair e = startTake (pagePair e.toState) (releasePage e) := (if_neg h).trans (if_neg ht)

/-- While a release is in progress a write of PAGE_HI waits for its end (R2). -/
theorem writePageHi_releasing {e : Event} (v : Word) (h : e.page.releasing = true) :
    writePageHi v e = { e with page := { e.page with hi := v, hiOwed := true } } := if_pos h

/-- Else the pair it makes is acted on (R2). -/
theorem writePageHi_acts {s : State} (v : Word) (h : s.page.releasing = false) :
    writePageHi v (Event.of s) = actOnPair (Event.of { s with page := { s.page with hi := v } }) := if_neg (by simp [h])

theorem pagePair_hi (hi : Word) (s : State) : pagePair { s with page := { s.page with hi := hi } } = hi ++ s.page.lo := rfl

/-- The state once a release has ended, with no write of PAGE_HI waiting any more. -/
def State.releaseEnded (s : State) : State := { s with page := { s.page with releasing := false, hiOwed := false } }

theorem pagePair_releaseEnded (s : State) : pagePair s.releaseEnded = pagePair s := rfl

/-- A write of PAGE_HI that waited is acted on at the end of the release, with the pair as it then stands (R2). -/
theorem exec_pageReleaseEnd_waiting {s t : State} (h : live s = true) (hr : s.page.releasing = true)
    (hw : s.page.hiOwed = true) (ht : actOnPair (Event.of s.releaseEnded) = Event.of t) : exec .pageReleaseEnd s = .next t :=
  act_plain h ((if_pos hr).trans ((if_pos hw).trans ht))

/-- Settles O8: by the page-taken state and the alignment of the pair. -/
theorem pagePairActs : Obligations.PagePairActs := by
  unfold Obligations.PagePairActs
  refine ⟨fun hi s h a ha hne => ⟨fun hr => ?_, fun hr ht => ?_⟩, fun s h ht hr hlo => ?_, fun s h hr hw => ?_,
    fun s h hr hw ht hne hal => ?_⟩
  · exact act_plain h (writePageHi_releasing hi hr)
  · have pair : pagePair { s with page := { s.page with hi := hi } } = a := (pagePair_hi hi s).trans ha.symm
    have hpair : pagePair (Event.of { s with page := { s.page with hi := hi } }).toState ≠ 0 := by rw [of_state, pair]; exact hne
    cases hk : s.page.taken with
    | held => exact absurd hk ht
    | absent =>
      refine ⟨s.page.attention, s.page.service, by simp, by simp, fun hal => act_plain h ?_, fun hal => act_plain h ?_⟩
      · rw [writePageHi_acts hi hr, actOnPair_absent hpair hk, of_state, pair, startTake_aligned hal]
        rfl
      · rw [writePageHi_acts hi hr, actOnPair_absent hpair hk, of_state, pair, startTake_unaligned hal, failTake_eq]
        rfl
    | taking =>
      have hna : s.page.taken ≠ .absent := by simp [hk]
      refine ⟨s.page.attention &&& flagPage, .closed, by simp, by simp, fun hal => act_plain h ?_, fun hal => act_plain h ?_⟩
      · rw [writePageHi_acts hi hr, actOnPair_taken hpair hna, releasePage_absent ht, of_state, pair,
          startTake_aligned hal]
        rfl
      · rw [writePageHi_acts hi hr, actOnPair_taken hpair hna, releasePage_absent ht, of_state, pair,
          startTake_unaligned hal, failTake_eq]
        rfl
  · refine act_plain h ?_
    have hz : pagePair (Event.of { s with page := { s.page with hi := 0 } }).toState = 0 := by simp [pagePair, hlo]
    have hk : ((Event.of { s with page := { s.page with hi := 0 } }).page.taken == .held) = false := by simp [Event.of, ht]
    rw [writePageHi_acts 0 hr, actOnPair_zero hz, releasePage_absent (by simpa using hk), hk, ← hr]
    rfl
  · refine act_plain h ?_
    refine (if_pos hr).trans ((if_neg (by simp [Event.of, hw])).trans ?_)
    simp [Event.of, ← hw]
  · refine exec_pageReleaseEnd_waiting h hr hw ?_
    rw [actOnPair_absent (e := Event.of s.releaseEnded) hne ht, of_state, pagePair_releaseEnded, startTake_aligned hal]
    rfl

end Sys2Proof.Machine

namespace Sys2Proof.Machine

/-! ## Vectors -/

theorem modAt_eq_putAt {α : Type} {n : Nat} (v : Vector α n) (i : Fin n) (f : α → α) : modAt v i f = putAt v i (f (v.get i)) := rfl

theorem putAt_putAt {α : Type} {n : Nat} (v : Vector α n) (i : Fin n) (x y : α) : putAt (putAt v i x) i y = putAt v i y := by
  simp [putAt]

/-- Vectors with the same entries are the same. -/
theorem vector_ext_get {α : Type} {n : Nat} {v w : Vector α n} (h : ∀ i, v.get i = w.get i) : v = w := by
  ext i hi
  exact h ⟨i, hi⟩

@[simp] theorem get_map {α β : Type} {n : Nat} (v : Vector α n) (f : α → β) (i : Fin n) : (v.map f).get i = f (v.get i) := by
  simp [Vector.get_eq_getElem]

/-! ## What the reporting operations issue (R6, R10, R28, R40) -/

/-- Rewriting a part-written area issues its three writes (R10). -/
theorem rewriteArea_eq (a : Addr) (count : Word) (body : List Byte) (e : Event) :
    rewriteArea a count body e = { e with traffic := e.traffic ++ areaWrites a count body } := by
  simp [rewriteArea, issue, areaWrites]

/-- While the page is HELD the header report is rewritten (R6). -/
theorem writeHeader_held {e : Event} (h : e.page.taken = .held) : writeHeader e = { e with
    page := { e.page with headerCount := e.page.headerCount + 2 }
    traffic := e.traffic ++ areaWrites (e.page.addr + 0x40) e.page.headerCount (headerBody e.toState) } := by
  unfold writeHeader
  rw [if_pos (by simp [held, h]), rewriteArea_eq]

/-- While it is not, nothing is written (R17). -/
theorem writeHeader_absent {e : Event} (h : e.page.taken ≠ .held) : writeHeader e = e := if_neg (by simp [held, h])

theorem attend_held {e : Event} (h : e.page.taken = .held) (bits : BitVec 14) : attend bits e = raiseFlags bits e :=
  if_pos (by simp [held, h])

theorem attend_absent {e : Event} (h : e.page.taken ≠ .held) (bits : BitVec 14) : attend bits e = e := if_neg (by simp [held, h])

theorem writePortReport_held {e : Event} (h : e.page.taken = .held) (p : Port) : writePortReport p e = { e with
    ports := modAt e.ports p fun q => { q with reportCount := q.reportCount + 2 }
    traffic := e.traffic ++ portWrites e.toState p } := by
  unfold writePortReport
  dsimp only
  rw [if_pos (by simp [held, h]), rewriteArea_eq]
  rfl

theorem writePortReport_absent {e : Event} (h : e.page.taken ≠ .held) (p : Port) : writePortReport p e = e :=
  if_neg (by simp [held, h])

theorem writeAnswer_held {e : Event} (h : e.page.taken = .held) (n : SlotNo) : writeAnswer n e = { e with
    slots := modAt e.slots n fun x => { x with answerCount := x.answerCount + 2 }
    traffic := e.traffic ++ areaWrites (slotAddr n e.toState + 0x60) (e.slots.get n).answerCount (answerBody (e.slots.get n)) } := by
  unfold writeAnswer
  dsimp only
  rw [if_pos (by simp [held, h]), rewriteArea_eq]
  rfl

theorem writeAnswer_absent {e : Event} (h : e.page.taken ≠ .held) (n : SlotNo) : writeAnswer n e = e := if_neg (by simp [held, h])

theorem notice_held {e : Event} (h : e.page.taken = .held) (a : Area) :
    notice a e = setArea a (noticed (areaState a e.toState)) e := if_pos (by simp [held, h])

theorem notice_absent {e : Event} (h : e.page.taken ≠ .held) (a : Area) : notice a e = e := if_neg (by simp [held, h])

/-! ## Port reports -/

/-- A port's report part shows its own port, the slots and the page's address. -/
theorem portWrites_congr {s t : State} {p : Port} (ha : t.page.addr = s.page.addr) (hs : t.slots = s.slots)
    (hp : t.ports.get p = s.ports.get p) : portWrites t p = portWrites s p := by
  simp only [portWrites, sheetAddr, portReport, runningSlot, ha, hs, hp]

/-- Rewriting the report parts of several ports, one after the other (R28). -/
theorem forPorts_writePortReport {ps : List Port} (hps : ps.Nodup) {e : Event} (h : e.page.taken = .held) :
    forPorts ps writePortReport e = { e with
      ports := ps.foldl (fun v p => modAt v p fun q => { q with reportCount := q.reportCount + 2 }) e.ports
      traffic := e.traffic ++ ps.flatMap (portWrites e.toState) } := by
  induction ps generalizing e with
  | nil => simp [forPorts]
  | cons p ps ih =>
    obtain ⟨hp, hps⟩ := List.nodup_cons.mp hps
    have rest : ∀ t : State, t = { e.toState with
        ports := modAt e.ports p fun q => { q with reportCount := q.reportCount + 2 }, traffic := e.traffic ++ portWrites e.toState p } →
        ps.flatMap (portWrites t) = ps.flatMap (portWrites e.toState) := by
      intro t ht
      refine List.flatMap_congr fun q hq => portWrites_congr ?_ ?_ ?_ <;> subst ht
      · rfl
      · rfl
      · exact get_modAt_ne _ _ _ _ fun hqp => hp (hqp ▸ hq)
    change forPorts ps writePortReport (writePortReport p e) = _
    rw [writePortReport_held h]
    rw [ih hps (by exact h), rest _ rfl]
    simp

/-- At all eight ports every port's count goes on by 2. -/
theorem allPorts_foldl_modAt (f : PortState → PortState) (v : Vector PortState 8) :
    allPorts.foldl (fun v p => modAt v p f) v = v.map f := by
  refine vector_ext_get fun i => ?_
  simp only [allPorts, List.foldl, get_modAt, get_map]
  fin_cases i <;> simp

/-- A port report at an event's end, while the page is HELD (R28). -/
theorem reported_held {p : Port} {s : State} (h : s.page.taken = .held) : s.reported [p] = { s with
    ports := modAt s.ports p fun q => { q with reportCount := q.reportCount + 2 }
    page := { s.page with attention := s.page.attention ||| flagPort p }
    traffic := s.traffic ++ portWrites s p ++ s.risen (s.page.attention ||| flagPort p) s.page.mask } := by
  change (attend (flagPort p) (writePortReport p (Event.of s))).toState = _
  rw [writePortReport_held h, attend_held (by exact h), raiseFlags_eq]
  rfl

/-! ## Final states of slots (R38 to R40) -/

/-- A final state while the page is not HELD: it is stored and nothing is written. -/
theorem finishSlot_absent {e : Event} (h : e.page.taken ≠ .held) (n : SlotNo) (st : SlotState) (r : Reason) (field : Nat)
    (results : List Byte) : finishSlot n st r field results e =
    modSlot n (fun x => { x with
      state := st, stopMark := false, reason := r, field := field, results := results, loadBy := none }) e := by
  unfold finishSlot
  dsimp only
  rw [writeAnswer_absent (by exact h), attend_absent (by exact h), notice_absent (by exact h), ite_self]

/-- A final state while the page is HELD: it is stored, the answer part is rewritten with ATTENTION.ORDERS, and a pending offer asks for
a sweep of the ORDERS area. -/
theorem finishSlot_held {e : Event} (h : e.page.taken = .held) (n : SlotNo) (st : SlotState) (r : Reason) (field : Nat)
    (results : List Byte) {x : Slot} (hx : x = { e.slots.get n with
      state := st, stopMark := false, reason := r, field := field, results := results, loadBy := none }) :
    finishSlot n st r field results e = { e with
      slots := putAt e.slots n { x with answerCount := x.answerCount + 2 }
      page := { e.page with
        attention := e.page.attention ||| flagOrders
        areas := if x.offerPending = true then putAt e.page.areas (Area.index .orders) (noticed (areaState .orders e.toState))
          else e.page.areas }
      traffic := e.traffic ++ areaWrites (slotAddr n e.toState + 0x60) x.answerCount (answerBody x) ++
        e.toState.risen (e.page.attention ||| flagOrders) e.page.mask } := by
  have offer : x.offerPending = (e.slots.get n).offerPending := by rw [hx]
  have stored : modSlot n (fun x => { x with
      state := st, stopMark := false, reason := r, field := field, results := results, loadBy := none }) e =
      { e with slots := putAt e.slots n x } := by rw [hx]; rfl
  unfold finishSlot
  dsimp only
  rw [stored, writeAnswer_held (by exact h), attend_held (by exact h), raiseFlags_eq, ← offer]
  simp only [modAt_eq_putAt, putAt_putAt, get_putAt_self]
  by_cases ho : x.offerPending = true
  · rw [if_pos ho, if_pos ho, notice_held (by exact h)]; rfl
  · rw [if_neg ho, if_neg ho]; rfl

/-- Settles O11: each report by whether the page is HELD. -/
theorem reportsWritten : Obligations.ReportsWritten := by
  unfold Obligations.ReportsWritten
  refine ⟨fun s h => ⟨fun ht => ⟨?_, ?_⟩, fun ht => ⟨?_, ?_⟩⟩, fun p s => ⟨fun ht => ?_, fun ht => reported_held ht⟩,
    fun n st r field results s x hx => ⟨fun ht => ?_, fun ht => ?_⟩⟩
  · exact act_plain h (writeHeader_held ht)
  · refine act_plain h ?_
    rw [forPorts_writePortReport (by decide) ht, allPorts_foldl_modAt]
    rfl
  · exact act_plain h (writeHeader_absent ht)
  · have none_written : ∀ l : List Port, forPorts l writePortReport (Event.of s) = Event.of s := by
      intro l
      induction l with
      | nil => rfl
      | cons p l ih =>
        change forPorts l writePortReport (writePortReport p (Event.of s)) = _
        rw [writePortReport_absent ht, ih]
    exact act_plain h (none_written allPorts)
  · exact reported_absent (by simp [held, ht])
  · rw [State.finished, finishSlot_absent ht, hx]
    rfl
  · rw [State.finished, finishSlot_held ht n st r field results hx]
    rfl

end Sys2Proof.Machine

namespace Sys2Proof.Machine

/-! ## Commands that have no effect -/

/-- A command whose event leaves it as it began answers the state it met, live or not (log 12, log 29). -/
theorem act_idle {f : Event → Event} {s : State} (hf : f (Event.of s) = Event.of s) : act f s = .next s := by
  cases h : live s with
  | true => exact act_plain h hf
  | false => exact act_held h

/-! ## Sweeps (R11 to R13, R25) -/

/-- A new POOL sweep answers the claims that asked for one (R121). -/
def Pool.begun (x : Pool) : Pool := { x with claims := x.claims.map fun c => { c with begun := true } }

/-- A PENDING area with records begins its sweep with the read of record 0 (R11, R12, R25). -/
theorem beginArea_pending {a : Area} {s : State} (h : areaState a s = .pending)
    (hp : a = .pool → s.pool.rebuild = none ∧ areaCount .pool s ≠ 0) : beginArea a (Event.of s) = Event.of { s with
      page := { s.page with areas := putAt s.page.areas (Area.index a) (.sweeping false 0 (some (s.clock + 50000))) }
      pool := if a = .pool then s.pool.begun else s.pool
      reads := s.reads.issued (.area a)
      traffic := s.traffic ++ [.read s.reads.next (recordPart a 0 s).1 (recordPart a 0 s).2] } := by
  unfold beginArea
  cases a with
  | cellSheet => exact (if_pos ⟨h, rfl⟩).trans (if_neg (by simp [areaCount]))
  | portSheet p => exact (if_pos ⟨h, rfl⟩).trans (if_neg (by simp [areaCount]))
  | orders => exact (if_pos ⟨h, rfl⟩).trans (if_neg (by simp [areaCount]))
  | pool =>
    obtain ⟨hr, hc⟩ := hp rfl
    exact (if_pos ⟨h, by simp [Event.of, hr]⟩).trans (if_neg hc)

/-- The sweep goes on with the read of the next record (R12). -/
theorem nextRecord_more {a : Area} {again : Bool} {n : Nat} {d : Option Nat} {e : Event}
    (h : areaState a e.toState = .sweeping again n d) (hn : n + 1 < areaCount a e.toState) :
    nextRecord a e = readRecord a again (n + 1) e := by
  unfold nextRecord
  rw [h]
  exact if_pos hn

/-- After the last record it ends (R11). -/
theorem nextRecord_last {a : Area} {again : Bool} {n : Nat} {d : Option Nat} {e : Event}
    (h : areaState a e.toState = .sweeping again n d) (hn : areaCount a e.toState ≤ n + 1) :
    nextRecord a e = endArea a again e := by
  unfold nextRecord
  rw [h]
  exact if_neg (by omega)

/-- With no claim waiting the end of a POOL sweep judges none (R121). -/
theorem rejudgeClaims_none {e : Event} (h : e.pool.claims = []) : rejudgeClaims e = e := by
  have same : ({ e with pool := { e.pool with claims := [] } } : Event) = e := by rw [← h]
  unfold rejudgeClaims
  dsimp only
  rw [h]
  exact same

/-- The end of a POOL sweep that no claim waits for: an owed rebuild begins (R25). -/
theorem endPoolSweep_owed {e : Event} {l : Layout} (h : e.pool.claims = []) (ho : e.pool.rebuildOwed = some l) :
    endPoolSweep e = startRebuild l e := by
  unfold endPoolSweep
  dsimp only
  rw [rejudgeClaims_none h, ho]

theorem endPoolSweep_plain {e : Event} (h : e.pool.claims = []) (ho : e.pool.rebuildOwed = none) : endPoolSweep e = e := by
  unfold endPoolSweep
  dsimp only
  rw [rejudgeClaims_none h, ho]

/-- A sweep that ends with no claim waiting and no rebuild owed leaves the area IDLE or PENDING, and nothing else changes. -/
theorem endArea_plain {a : Area} {again : Bool} {e : Event}
    (h : a = .pool → e.pool.claims = [] ∧ e.pool.rebuildOwed = none) :
    endArea a again e = setArea a (if again then .pending else .idle) e := by
  unfold endArea
  cases a with
  | pool =>
    obtain ⟨hc, ho⟩ := h rfl
    exact endPoolSweep_plain hc ho
  | cellSheet | portSheet p | orders => rfl

/-! ### What a sweep tells -/

theorem forPorts_agenda (ps : List Port) (f : Port → Event → Event) (e : Event)
    (h : ∀ p x, (f p x).agenda = x.agenda) : (forPorts ps f e).agenda = e.agenda := by
  unfold forPorts
  induction ps generalizing e with
  | nil => rfl
  | cons p ps ih => rw [List.foldl_cons, ih, h]

theorem forPorts_touched (ps : List Port) (f : Port → Event → Event) (e : Event)
    (h : ∀ p x, (f p x).touched = x.touched) : (forPorts ps f e).touched = e.touched := by
  unfold forPorts
  induction ps generalizing e with
  | nil => rfl
  | cons p ps ih => rw [List.foldl_cons, ih, h]

@[simp] theorem startRebuild_agenda (l : Layout) (e : Event) : (startRebuild l e).agenda = e.agenda := by
  have lost : ∀ x : Event, (forPorts allPorts loseTrace x).agenda = x.agenda := fun x => forPorts_agenda _ _ x fun _ _ => rfl
  unfold startRebuild
  dsimp only
  split
  · rw [lost]
  · rw [readHand_agenda, lost]

@[simp] theorem startRebuild_touched (l : Layout) (e : Event) : (startRebuild l e).touched = e.touched := by
  have lost : ∀ x : Event, (forPorts allPorts loseTrace x).touched = x.touched := fun x => forPorts_touched _ _ x fun _ _ => rfl
  unfold startRebuild
  dsimp only
  split
  · rw [lost]
  · rw [readHand_touched, lost]

/-- While no claim waits for it, a sweep that goes on or ends tells no block anything and marks no port. -/
theorem nextRecord_quiet {a : Area} {e : Event} (h : a = .pool → e.pool.claims = []) :
    (nextRecord a e).agenda = e.agenda ∧ (nextRecord a e).touched = e.touched := by
  unfold nextRecord
  split
  · split
    · exact ⟨rfl, rfl⟩
    · unfold endArea
      cases a with
      | pool =>
        dsimp only
        cases ho : e.pool.rebuildOwed with
        | none => rw [endPoolSweep_plain (by exact h rfl) (by exact ho)]; exact ⟨rfl, rfl⟩
        | some l => rw [endPoolSweep_owed (by exact h rfl) (by exact ho)]; simp
      | cellSheet | portSheet p | orders => exact ⟨rfl, rfl⟩
  · exact ⟨rfl, rfl⟩
  · exact ⟨rfl, rfl⟩

/-- The state in which a sweep goes on is that of its event. -/
theorem of_nextRead {a : Area} {s : State} (h : a = .pool → s.pool.claims = []) :
    Event.of (s.nextRead a) = nextRecord a (Event.of s) := of_toState (nextRecord_quiet h).1 (nextRecord_quiet h).2

/-! ### Reads that fail -/

/-- A read error is counted and shown while the page is HELD (R13). -/
theorem countReadError_held {s : State} (h : s.page.taken = .held) : countReadError (Event.of s) =
    Event.of (State.headerShown flagPage { s with page := { s.page with readErrors := s.page.readErrors + 1 } }) := by
  rw [of_headerShown, attend_held]
  · rfl
  · rw [writeHeader_held (by exact h)]; exact h

/-- While the page is HELD a header report shown is its writings and the flags set with it (R6, R14). -/
theorem headerShown_held {s : State} (h : s.page.taken = .held) (bits : BitVec 14) : s.headerShown bits = { s with
    page := { s.page with headerCount := s.page.headerCount + 2, attention := s.page.attention ||| bits }
    traffic := s.traffic ++ areaWrites (s.page.addr + 0x40) s.page.headerCount (headerBody s) ++
      s.risen (s.page.attention ||| bits) s.page.mask } := by
  unfold State.headerShown
  rw [writeHeader_held h, attend_held (by exact h), raiseFlags_eq]
  rfl

/-- The completion of an area's latest read acts on it (log 42). -/
theorem completes_latest {a : Area} {s : State} (f : Event → Event) :
    completes a (readNumber (.area a) s) f (Event.of s) = f (Event.of s) := if_pos (answers_self _ _)

/-- That of any other read is discarded (R5, R13; log 42, log 43). -/
theorem completes_other {a : Area} {k : Nat} {s : State} (h : k ≠ readNumber (.area a) s) (f : Event → Event) :
    completes a k f (Event.of s) = Event.of s := if_neg (by rw [answers_ne (by exact h)]; simp)

theorem failRecord_outstanding {a : Area} {n : Nat} {s : State} (h : outstanding a s = some n) (ht : s.page.taken = .held)
    (hc : a = .pool → s.pool.claims = []) : failRecord a (Event.of s) = Event.of ((State.headerShown flagPage { s with
      page := { s.page with readErrors := s.page.readErrors + 1 } }).nextRead a) := by
  unfold failRecord
  rw [if_pos (by simp [h]), countReadError_held ht, of_nextRead]
  intro ha
  rw [headerShown_held (by exact ht)]
  exact hc ha

/-! ### The numbers of the reads (log 42) -/

theorem readNumber_reads_issued (c : Channel) (s : State) :
    readNumber c { s with reads := s.reads.issued c } = s.reads.next := by
  cases c <;> simp [readNumber, Reads.issued]

theorem readNumber_reads_issued_ne {c d : Channel} (h : d ≠ c) (s : State) :
    readNumber d { s with reads := s.reads.issued c } = readNumber d s := by
  have areas : ∀ a b : Area, d = .area b → c = .area a → Area.index b ≠ Area.index a :=
    fun a b hd hc => index_ne fun hab => h (by rw [hd, hc, hab])
  have loads : ∀ m n : SlotNo, d = .load n → c = .load m → n ≠ m := fun m n hd hc hmn => h (by rw [hd, hc, hmn])
  cases c with
  | area a =>
    cases d with
    | area b => exact get_putAt_ne _ _ _ _ (areas a b rfl rfl)
    | header | hand | load n => rfl
  | load m =>
    cases d with
    | load n => exact get_putAt_ne _ _ _ _ (loads m n rfl rfl)
    | header | hand | area a => rfl
  | header =>
    cases d with
    | header => exact absurd rfl h
    | hand | area a | load n => rfl
  | hand =>
    cases d with
    | hand => exact absurd rfl h
    | header | area a | load n => rfl

theorem next_reads_issued (c : Channel) (r : Reads) : (r.issued c).next = r.next + 1 := by
  cases c <;> rfl

/-- Settles O12: from the beginning, the going on and the end of a sweep. -/
theorem sweepReads : Obligations.SweepReads := by
  unfold Obligations.SweepReads
  refine ⟨fun a s h => ⟨fun hn => ?_, fun hp hpool => ?_⟩, fun a again n d s hs => ⟨fun hn => ?_, fun hn hpool => ?_⟩,
    fun a c n s h ht ho hc hcmd => ?_, fun a k s hk => ?_, fun c d s => ⟨?_, ?_, ?_⟩⟩
  · exact act_idle (if_neg fun hx => hn hx.1)
  · refine ⟨(recordPart a 0 s).1, (recordPart a 0 s).2, ?_, ?_, ?_, ?_, act_plain h (beginArea_pending hp hpool)⟩
    · rintro rfl; exact ⟨rfl, rfl⟩
    · rintro p rfl; exact ⟨rfl, rfl⟩
    · rintro rfl; exact ⟨rfl, rfl⟩
    · rintro rfl l hl
      simp [recordPart, hl, recordAddr]
  · rw [State.nextRead, nextRecord_more hs hn]
    rfl
  · rw [State.nextRead, nextRecord_last hs hn, endArea_plain hpool]
    rfl
  · have failed := failRecord_outstanding ho ht hc
    obtain rfl | ⟨rfl, hd⟩ := hcmd
    · exact act_plain h ((completes_latest _).trans failed)
    · exact act_plain h ((if_pos hd).trans failed)
  · exact act_idle (completes_other hk _)
  · exact readNumber_reads_issued c s
  · exact next_reads_issued c s.reads
  · exact fun hd => readNumber_reads_issued_ne hd s

end Sys2Proof.Machine

namespace Sys2Proof.Machine

/-! ## The hand rule and the check (R7, R8) -/

theorem recordRead_none {a : Area} {s : State} (h : outstanding a s = none) (bytes : List Byte) :
    recordRead a bytes (Event.of s) = Event.of s := by
  unfold recordRead
  rw [of_state, h]

theorem recordRead_some {a : Area} {n : Nat} {s : State} (h : outstanding a s = some n) (bytes : List Byte) :
    recordRead a bytes (Event.of s) = afterRecord a (dealRecord a n bytes (Event.of s)) := by
  unfold recordRead
  rw [of_state, h]

/-- With no order handed over the sweep goes on at once (R12, R39). -/
theorem afterRecord_next {a : Area} {e : Event} (h : e.handed = none) : afterRecord a e = nextRecord a e := by
  unfold afterRecord
  rw [h]
  cases a <;> rfl

/-- Any area but ORDERS goes on whatever has been handed over (R12). -/
theorem afterRecord_other {a : Area} {e : Event} (h : a ≠ .orders) : afterRecord a e = nextRecord a e := by
  unfold afterRecord
  cases a with
  | orders => exact absurd rfl h
  | cellSheet | portSheet p | pool => rfl

/-- The completion of the area's latest read deals with the record and goes on (R12). -/
theorem completes_recordRead {a : Area} {n : Nat} {s : State} (h : outstanding a s = some n) (bytes : List Byte) :
    completes a (readNumber (.area a) s) (recordRead a bytes) (Event.of s) = afterRecord a (dealRecord a n bytes (Event.of s)) :=
  (completes_latest _).trans (recordRead_some h bytes)

/-- A record is not new when its hand is the one taken last; of the pool, when its entry has one loaded (R7, R24). -/
def notNew (a : Area) (n : Nat) (bytes : List Byte) (s : State) : Prop :=
  match a with
  | .cellSheet => handOf 0x400 bytes = s.cell.take.hand
  | .portSheet p => handOf 0x180 bytes = (s.ports.get p).take.hand
  | .orders => handOf 0x60 bytes = (s.slots.get (Fin.ofNat 32 n)).takenHand
  | .pool => ∀ x, s.pool.entries[n]? = some x → x.loaded = true ∧ handOf 0x10 bytes = x.hand

/-- A record that is not new is left unread (R7). -/
theorem dealRecord_notNew {a : Area} {n : Nat} {bytes : List Byte} {s : State} (h : notNew a n bytes s) :
    dealRecord a n bytes (Event.of s) = Event.of s := by
  cases a with
  | cellSheet | portSheet p | orders => exact if_pos h
  | pool =>
    simp only [dealRecord, dealBuffer]
    cases hx : (Event.of s).pool.entries[n]? with
    | none => rfl
    | some x =>
      obtain ⟨hl, hh⟩ := h x hx
      simp [hl, hh]

/-- Bytes of their record's size stand as they are. -/
theorem fit_length {n : Nat} {bytes : List Byte} (h : bytes.length = n) : fit n bytes = bytes := by simp [fit, ← h]

/-- The check is the first test (R8). -/
theorem judge_badCheck {α : Type} {n m : Nat} {bytes : List Byte} {reader : Read α} (hn : bytes.length = m)
    (h : (crc16 (bytes.take n)).toNat ≠ leNat ((bytes.drop n).take 2)) :
    judge n (fit m bytes) reader = .error (.badCheck, 0) := by
  rw [fit_length hn]
  exact if_pos h

/-- Settles O13: a record that is not new is left unread, and the check is tested before all else. -/
theorem handAndCheck : Obligations.HandAndCheck := by
  unfold Obligations.HandAndCheck
  refine ⟨fun a bytes s h hh => ⟨fun k hk => ?_, fun n ho hc hnew => ?_⟩, fun bytes hn h => judge_badCheck hn h,
    fun bytes hn h => judge_badCheck hn h, fun bytes hn h => ?_, fun bytes hn h => judge_badCheck hn h,
    fun bytes hn h => judge_badCheck hn h⟩
  · refine act_idle ?_
    by_cases hl : k = readNumber (.area a) s
    · obtain hn | hn := hk
      · exact hl ▸ (completes_latest _).trans (recordRead_none hn bytes)
      · exact absurd hl hn
    · exact completes_other hl _
  · refine act_plain h ?_
    rw [completes_recordRead ho, dealRecord_notNew (by cases a <;> exact hnew), afterRecord_next (by exact hh), of_nextRead hc]
  · unfold judgeOrder
    rw [judge_badCheck hn h]

end Sys2Proof.Machine

namespace Sys2Proof.Machine

/-! ## The pool rebuild (R24, R25) -/

/-- The same change at several ports. -/
theorem forPorts_modPort (ps : List Port) (f : PortState → PortState) (e : Event) :
    forPorts ps (fun p => modPort p f) e = { e with ports := ps.foldl (fun v p => modAt v p f) e.ports } := by
  unfold forPorts
  induction ps generalizing e with
  | nil => rfl
  | cons p ps ih => exact ih (modPort p f e)

/-- The same change at all eight ports. -/
theorem forPorts_all_modPort (f : PortState → PortState) (e : Event) :
    forPorts allPorts (fun p => modPort p f) e = { e with ports := e.ports.map f } := by
  rw [forPorts_modPort, allPorts_foldl_modAt]

theorem startRebuild_eq (l : Layout) (s : State) : startRebuild l (Event.of s) = Event.of (s.rebuilt l) := by
  have lost : ∀ e : Event, forPorts allPorts loseTrace e = { e with ports := e.ports.map fun q => { q with
      probe := q.probe.map fun r => { r with trace := if r.trace.buffer.isSome then .omitted else r.trace } } } :=
    fun e => forPorts_all_modPort _ e
  have first : recordAddr l 0 + 0x0F = l.addr + 0x0F := by simp [recordAddr]
  unfold startRebuild State.rebuilt
  dsimp only
  rw [lost]
  by_cases hc : l.count = 0
  · simp only [if_pos hc, List.append_nil]
    rfl
  · simp only [if_neg hc]
    rw [readHand, first]
    rfl

/-- The next hand of a rebuild is read, with 50 ms of its own, or the rebuild has ended (R24; log 75). -/
def State.handRead (b : Nat) (l : Layout) (s : State) : State := { s with
  pool := { s.pool with rebuild := if b + 1 < l.count then some { next := b + 1, readBy := s.clock + 50000 } else none }
  reads := if b + 1 < l.count then s.reads.issued .hand else s.reads
  traffic := s.traffic ++ if b + 1 < l.count then
    [.read s.reads.next (l.addr + BitVec.ofNat 64 ((b + 1) * 0x40) + 0x0F) 1] else [] }

theorem nextHand_eq {l : Layout} {s : State} (h : s.pool.layout = some l) (b : Nat) :
    nextHand b (Event.of s) = Event.of (s.handRead b l) := by
  unfold nextHand State.handRead
  rw [show (Event.of s).pool.layout = some l from h]
  dsimp only
  by_cases hb : b + 1 < l.count
  · simp only [if_pos hb]
    rfl
  · simp only [if_neg hb, List.append_nil]
    rfl

/-- The hand read outstanding loads the entry's hand, and the next is read (R24). -/
theorem exec_poolRebuildHandRead {r : Rebuild} {l : Layout} {s : State} (h : live s = true) (hr : s.pool.rebuild = some r)
    (hl : s.pool.layout = some l) (hand : Byte) : exec (.poolRebuildHandRead ⟨s.reads.hand, hand⟩) s =
    .next (State.handRead r.next l { s with pool := { s.pool with
      entries := modNth s.pool.entries r.next fun x => { x with hand := hand, loaded := true } } }) := by
  refine act_plain h ?_
  have latest : answers .hand s.reads.hand (Event.of s).toState = true := answers_self .hand s
  dsimp only
  rw [show (Event.of s).pool.rebuild = some r from hr, latest]
  exact nextHand_eq (by exact hl) _

/-- A hand read that fails is counted and shown, and the next is read (R25). -/
theorem exec_poolRebuildReadFail {r : Rebuild} {l : Layout} {s : State} (h : live s = true) (ht : s.page.taken = .held)
    (hr : s.pool.rebuild = some r) (hl : s.pool.layout = some l) {error : Option Nat}
    (he : readFailed .hand error (some r.readBy) s = true) : exec (.poolRebuildReadFail error) s =
    .next (State.handRead r.next l (State.headerShown flagPage { s with
      page := { s.page with readErrors := s.page.readErrors + 1 } })) := by
  refine act_plain h ?_
  dsimp only
  rw [show (Event.of s).pool.rebuild = some r from hr]
  refine (if_pos he).trans ?_
  rw [countReadError_held ht, nextHand_eq]
  rw [headerShown_held (by exact ht)]
  exact hl

/-- A hand read's failure that is not one is discarded (R25; log 42). -/
theorem exec_poolRebuildReadFail_discarded {s : State} {error : Option Nat}
    (he : ∀ r, s.pool.rebuild = some r → readFailed .hand error (some r.readBy) s = false) :
    exec (.poolRebuildReadFail error) s = .next s := by
  refine act_idle ?_
  cases hr : s.pool.rebuild with
  | none => rw [show (Event.of s).pool.rebuild = none from hr]
  | some r =>
    rw [show (Event.of s).pool.rebuild = some r from hr]
    exact if_neg (by rw [of_state, he r hr]; simp)

theorem exec_poolRebuildHandRead_discarded {k : Nat} {hand : Byte} {s : State}
    (h : s.pool.rebuild = none ∨ k ≠ s.reads.hand) : exec (.poolRebuildHandRead ⟨k, hand⟩) s = .next s := by
  refine act_idle ?_
  obtain hn | hk := h
  · rw [show (Event.of s).pool.rebuild = none from hn]
  · rw [show answers .hand k (Event.of s).toState = false from answers_ne hk]
    cases (Event.of s).pool.rebuild <;> rfl

/-! ## The Cell Sheet (R21, R24, R103) -/

/-- The layout already held is kept, and an owed rebuild dropped (R24). -/
theorem newLayout_same {l : Layout} {s : State} (h : s.pool.layout = some l) : newLayout l (Event.of s) =
    Event.of { s with pool := { s.pool with rebuildOwed := none } } := if_pos h

/-- While a POOL sweep is under way the rebuild is owed (R25). -/
theorem newLayout_sweeping {l : Layout} {s : State} (h : s.pool.layout ≠ some l) {again : Bool} {m : Nat} {d : Option Nat}
    (ha : areaState .pool s = .sweeping again m d) : newLayout l (Event.of s) =
    Event.of { s with pool := { s.pool with rebuildOwed := some l } } := by
  refine (if_neg h).trans ?_
  rw [of_state, ha]
  rfl

/-- Else it begins at once (R24). -/
theorem newLayout_still {l : Layout} {s : State} (h : s.pool.layout ≠ some l)
    (ha : areaState .pool s = .idle ∨ areaState .pool s = .pending) : newLayout l (Event.of s) = Event.of (s.rebuilt l) := by
  refine (if_neg h).trans ?_
  rw [of_state]
  obtain ha | ha := ha <;> rw [ha] <;> exact startRebuild_eq l s

/-- The state once a Cell Sheet that is TAKEN has replaced the copy and set the encoder (R23, R103). -/
def State.copied (c : CellSheet) (s : State) : State := { s with
  cell := { s.cell with sheet := some c, standing := true }
  trigger := if encoderSetting s = (c.edge, c.divider) then s.trigger else { s.trigger with remainder := 0 } }

theorem takeCellSheet_eq (c : CellSheet) (s : State) : takeCellSheet c (Event.of s) =
    newLayout { addr := c.poolAddr, count := c.bufCount } (Event.of (s.copied c)) := rfl

/-- The completion of a Cell Sheet read with a new hand: its outcome is shown, and the sweep goes on (R21, R6). -/
theorem exec_sweepRecordRead_cellSheet {bytes : List Byte} {n : Nat} {s u : State} {t : TakeReport} (h : live s = true)
    (ho : outstanding .cellSheet s = some n) (hnew : handOf 0x400 bytes ≠ s.cell.take.hand)
    (hj : judgeSheet bytes (Event.of s) = (t, Event.of u)) :
    exec (.sweepRecordRead .cellSheet ⟨readNumber (.area .cellSheet) s, bytes⟩) s =
      .next ((State.headerShown flagCell { u with cell := { u.cell with take := t } }).nextRead .cellSheet) := by
  refine act_plain h ?_
  have dealt : dealCellSheet bytes (Event.of s) =
      Event.of (State.headerShown flagCell { u with cell := { u.cell with take := t } }) := by
    refine (if_neg hnew).trans ?_
    rw [hj, of_headerShown]
    rfl
  rw [completes_recordRead ho, afterRecord_other (by simp), of_nextRead (by simp)]
  exact congrArg (nextRecord .cellSheet) dealt

/-- One that fails its check, spares or values is REFUSED with that reason and field (R21). -/
theorem judgeSheet_refused {bytes : List Byte} {r : Reason} {f : Nat} {s : State} (hj : judgeCellSheet bytes = .error (r, f)) :
    judgeSheet bytes (Event.of s) =
      ({ hand := handOf 0x400 bytes, verdict := .refused, reason := r, field := f }, Event.of s) := by
  unfold judgeSheet
  rw [hj]

/-- One that passes outside CONFIGURE is REFUSED WRONG_MODE (R21). -/
theorem judgeSheet_wrongMode {bytes : List Byte} {c : CellSheet} {s : State} (hj : judgeCellSheet bytes = .ok c)
    (hm : s.cell.mode ≠ .configure) : judgeSheet bytes (Event.of s) =
      ({ hand := handOf 0x400 bytes, verdict := .refused, reason := .wrongMode, field := 0 }, Event.of s) := by
  unfold judgeSheet
  rw [hj]
  exact if_neg hm

/-- An accepted one in CONFIGURE is TAKEN (R21). -/
theorem judgeSheet_taken {bytes : List Byte} {c : CellSheet} {s u : State} (hj : judgeCellSheet bytes = .ok c)
    (hm : s.cell.mode = .configure) (hu : takeCellSheet c (Event.of s) = Event.of u) : judgeSheet bytes (Event.of s) =
    ({ hand := handOf 0x400 bytes, verdict := .taken, reason := .none, field := 0 }, Event.of u) := by
  unfold judgeSheet
  rw [hj]
  dsimp only
  rw [← hu]
  exact if_pos hm

/-- A POOL sweep whose last record is not new ends, and the rebuild owed begins (R25; log 39). -/
theorem exec_sweepRecordRead_owed {bytes : List Byte} {again : Bool} {n : Nat} {d : Option Nat} {l : Layout} {s : State}
    (h : live s = true) (hh : s.handed = none) (ha : areaState .pool s = .sweeping again n d) (hd : d ≠ none)
    (hn : areaCount .pool s ≤ n + 1) (hc : s.pool.claims = []) (hnew : notNew .pool n bytes s)
    (howed : s.pool.rebuildOwed = some l) :
    exec (.sweepRecordRead .pool ⟨readNumber (.area .pool) s, bytes⟩) s = .next (State.rebuilt l { s with
      page := { s.page with areas := putAt s.page.areas (Area.index .pool) (if again then .pending else .idle) } }) := by
  have ho : outstanding .pool s = some n := by
    obtain ⟨k, rfl⟩ := Option.ne_none_iff_exists'.mp hd
    simp [outstanding, ha]
  refine act_plain h ?_
  rw [completes_recordRead ho, dealRecord_notNew hnew, afterRecord_next (by exact hh), nextRecord_last ha hn, endArea]
  dsimp only
  rw [endPoolSweep_owed (by exact hc) (by exact howed)]
  exact startRebuild_eq l _

/-- Settles O14: by the outcome of the judgement, and of a TAKEN sheet by what becomes of the layout. -/
theorem cellSheetJudged : Obligations.CellSheetJudged := by
  unfold Obligations.CellSheetJudged
  refine ⟨fun bytes n s h ht hh ho hnew k hk => ?_, ⟨rfl, rfl, rfl, rfl⟩,
    fun bytes again n d l x s h hh ha hd hn hc hx hl hhand howed => ?_, fun r l s h hr hl go hgo => ⟨?_, ?_, ?_⟩,
    fun k hand s h hk => ⟨?_, ?_⟩⟩
  · subst hk
    refine ⟨fun r f hj => ?_, fun c hj hm => ?_, fun c hj hm l u hl hu => ⟨fun hlay => ?_, fun hlay ha => ?_, fun hlay ha => ?_⟩⟩
    · exact exec_sweepRecordRead_cellSheet (u := s) h ho hnew (judgeSheet_refused hj)
    · exact exec_sweepRecordRead_cellSheet (u := s) h ho hnew (judgeSheet_wrongMode hj hm)
    all_goals subst hl hu
    · exact exec_sweepRecordRead_cellSheet (u := { s.copied c with pool := { s.pool with rebuildOwed := none } })
        h ho hnew (judgeSheet_taken hj hm ((takeCellSheet_eq c s).trans (newLayout_same hlay)))
    · obtain ⟨again, m, d, ha⟩ := ha
      exact exec_sweepRecordRead_cellSheet (u := { s.copied c with
        pool := { s.pool with rebuildOwed := some { addr := c.poolAddr, count := c.bufCount } } }) h ho hnew (judgeSheet_taken hj hm ((takeCellSheet_eq c s).trans (newLayout_sweeping hlay ha)))
    · exact exec_sweepRecordRead_cellSheet (u := (s.copied c).rebuilt { addr := c.poolAddr, count := c.bufCount })
        h ho hnew (judgeSheet_taken hj hm ((takeCellSheet_eq c s).trans (newLayout_still hlay ha)))
  · refine exec_sweepRecordRead_owed h hh ha hd hn hc (fun y hy => ?_) howed
    obtain rfl : x = y := by simpa [hx] using hy
    exact ⟨hl, hhand⟩
  · subst hgo
    exact fun hand => exec_poolRebuildHandRead h hr hl hand
  · subst hgo
    intro error he ht
    have failed : readFailed .hand error (some r.readBy) s = true := by
      obtain rfl | ⟨rfl, hd⟩ := he
      · exact answers_self .hand s
      · simpa [readFailed, due] using hd
    rw [exec_poolRebuildReadFail h ht hr hl failed, State.handRead]
    rw [headerShown_held (by exact ht)]
  · intro hd
    refine exec_poolRebuildReadFail_discarded fun r' hr' => ?_
    obtain rfl : r = r' := by simpa [hr] using hr'
    simp [readFailed, due, hd]
  · exact exec_poolRebuildHandRead_discarded hk
  · refine exec_poolRebuildReadFail_discarded fun r hr => ?_
    obtain hn | hk := hk
    · simp [hn] at hr
    · exact answers_ne hk

end Sys2Proof.Machine

namespace Sys2Proof.Machine

/-! ## Service (R16) -/

/-- Service opens by the write of 2 in ARMED, and stays open (R16). -/
theorem written_opened (x : Service) (v : Word) : x.written v = .opened ↔ x = .opened ∨ (x = .armed ∧ v = 2) := by
  cases x with
  | closed =>
    unfold Service.written
    dsimp only
    split <;> simp
  | armed =>
    unfold Service.written
    dsimp only
    split
    · next h1 => subst h1; decide
    · split <;> simp_all
  | opened => simp [Service.written]

/-- A SERVICE write moves service, and its opening rewrites the header report with no flag (R16, R6). -/
theorem exec_serviceWrite {v : Word} {s u : State} (h : live s = true)
    (hu : u = { s with page := { s.page with service := s.page.service.written v } }) : exec (.serviceWrite v) s =
    .next (if s.page.service = .armed ∧ v = 2 then u.headerShown 0 else u) := by
  refine act_plain h ?_
  have opens : (s.page.service ≠ .opened ∧ s.page.service.written v = .opened) ↔ (s.page.service = .armed ∧ v = 2) := by
    rw [written_opened]
    constructor
    · rintro ⟨hn, ho | ha⟩
      · exact absurd ho hn
      · exact ha
    · rintro ⟨ha, hv⟩
      exact ⟨by simp [ha], .inr ⟨ha, hv⟩⟩
  by_cases ho : s.page.service = .armed ∧ v = 2
  · rw [if_pos ho, of_headerShown, attend_zero, hu]
    exact if_pos (opens.mpr ho)
  · rw [if_neg ho, hu]
    exact if_neg fun hx => ho (opens.mp hx)

/-- A notice leaves service as it is (R11). -/
theorem service_of_notice {a : Area} {s t : State} (h : live s = true) (ht : act (notice a) s = .next t) :
    t.page.service = s.page.service := by
  rw [act_notice h] at ht
  injection ht with ht
  subst ht
  split <;> rfl

/-- No register write but SERVICE and PAGE_HI moves service (R16). -/
theorem service_of_registerWrite {o : BitVec 12} {size : Nat} {w : Word} {c : Instr} {s t : State} (h : live s = true)
    (hw : (Instr.registerWriteOther o size w).wellFormed = true)
    (hc : c = .registerWriteOther o size w ∨ c = .attentionClear w ∨ c = .attentionMaskWrite w ∨ c = .noticeCellSheet ∨
      (∃ p, c = .noticePortSheet p) ∨ c = .noticeOrders ∨ c = .noticePool)
    (ht : exec c s = .next t) : t.page.service = s.page.service := by
  obtain rfl | rfl | rfl | rfl | ⟨p, rfl⟩ | rfl | rfl := hc
  · rw [exec_registerWriteOther h hw] at ht
    injection ht with ht
    subst ht
    split <;> rfl
  · rw [exec_attentionClear h] at ht
    injection ht with ht
    subst ht
    rfl
  · rw [exec_attentionMaskWrite h] at ht
    injection ht with ht
    subst ht
    rfl
  · exact service_of_notice (a := .cellSheet) h ht
  · exact service_of_notice (a := .portSheet p) h ht
  · exact service_of_notice (a := .orders) h ht
  · exact service_of_notice (a := .pool) h ht

/-- The end of a command's event leaves service as the event made it. -/
theorem service_after (f : Event → Event) (s : State) : (after f s).page.service = (f (Event.of s)).page.service :=
  congrArg Control.service (control_after f s)

/-- A release closes service, whatever it ends (R5, R16). -/
theorem releasePage_service (e : Event) : (releasePage e).page.service = .closed := by
  unfold releasePage
  split <;> rfl

theorem service_of_pageRelease {s t : State} (h : live s = true) (hr : s.page.releasing = false) (hlo : s.page.lo = 0)
    (ht : exec .pageRelease s = .next t) : t.page.service = .closed := by
  have hz : pagePair (Event.of { s with page := { s.page with hi := 0 } }).toState = 0 := by simp [pagePair, hlo]
  have released : exec .pageRelease s = .next (after (writePageHi 0) s) := act_live h
  rw [released] at ht
  injection ht with ht
  rw [← ht, service_after, writePageHi_acts 0 hr, actOnPair_zero hz]
  exact releasePage_service _

/-- Settles O7: by the service state met, and a release closes it. -/
theorem serviceTable : Obligations.ServiceTable := by
  unfold Obligations.ServiceTable
  refine ⟨fun v s h => ⟨fun x => by cases x <;> rfl, exec_serviceWrite h rfl,
      fun o size w c t hw hc ht => service_of_registerWrite h hw hc ht⟩,
    fun s => ⟨rfl, by simp [headerBody]⟩, fun s t ht => ?_, fun o s ho hs => ?_, fun p n force e hst hb => ?_⟩
  · obtain ⟨a, b, d, ht⟩ | ⟨hp, ht⟩ | ⟨h, hr, hlo, ht⟩ := ht
    · injection ht with ht
      rw [← ht]
      rfl
    · injection ht with ht
      rw [← ht, if_pos hp]
      rfl
    · exact service_of_pageRelease h hr hlo ht
  · simp [orderRefusal, ho, hs]
  · simp [probeRefusal, hst, hb]

end Sys2Proof.Machine

namespace Sys2Proof.Machine

/-! ## An event that leaves every port at rest

A page release tells blocks of what it ends; once it is over nothing is left for them to do. -/

/-- Nothing runs, waits or is held back on any port. -/
structure Still (e : Event) : Prop where
  queue : ∀ p, (e.port p).queue = []
  sweep : ∀ p, (e.port p).sweep = none
  probe : ∀ p, (e.port p).probe = none
  lens : ∀ p, (e.port p).lens.state ≠ .staged
  owed : ∀ p, (e.port p).power.owed = false

theorem Still.agenda {e : Event} (h : Still e) (ts : List Task) : Still { e with agenda := ts } :=
  ⟨h.queue, h.sweep, h.probe, h.lens, h.owed⟩

/-- A gap, or the end of a move, finds no probe to go on. -/
theorem Still.drainIfDraining {e : Event} (h : Still e) (p : Port) : drainIfDraining p e = e := by
  unfold Machine.drainIfDraining
  rw [h.probe p]

theorem Still.lensTest {e : Event} (h : Still e) (p : Port) : lensTest p e = e := if_neg fun hx => h.lens p hx.1

/-- Every task finds nothing to do. -/
theorem Still.perform {e : Event} (h : Still e) (t : Task) : perform t e = e := by
  cases t with
  | begin p => unfold Machine.perform beginHead; dsimp only; rw [h.queue p]
  | gap p => exact (congrArg _ (h.lensTest p)).trans (h.drainIfDraining p)
  | moveEnded p => exact h.drainIfDraining p
  | lens p => exact h.lensTest p
  | sweep p => unfold Machine.perform advanceSweep; dsimp only; rw [h.sweep p]
  | probe p => unfold Machine.perform advanceProbe; dsimp only; rw [h.probe p]
  | owed p => exact if_neg (by simp [h.owed p])

theorem Still.drain {e : Event} (h : Still e) (n : Nat) : drain n e = { e with agenda := [] } := by
  induction n generalizing e with
  | zero => rfl
  | succ n ih =>
    cases ha : e.agenda with
    | nil => exact drain_empty ha
    | cons t ts =>
      unfold Machine.drain
      rw [ha]
      dsimp only
      rw [(h.agenda ts).perform t, ih (h.agenda ts)]

/-- While the page is not HELD no marked port is reported (R17, R28). -/
theorem forPorts_reportPort_absent (ps : List Port) {e : Event} (h : e.page.taken ≠ .held) :
    forPorts ps reportPort e = e := by
  induction ps with
  | nil => rfl
  | cons p ps ih =>
    have unreported : reportPort p e = e := by
      unfold reportPort
      rw [writePortReport_absent h, attend_absent h]
    change forPorts ps reportPort (reportPort p e) = e
    rw [unreported, ih]

/-- An event that leaves every port at rest and the page not HELD ends as it stands. -/
theorem Still.after {f : Event → Event} {s : State} (h : Still (f (Event.of s))) (ht : (f (Event.of s)).page.taken ≠ .held) :
    after f s = (f (Event.of s)).toState := by
  unfold Machine.after finish flush
  rw [h.drain, forPorts_reportPort_absent _ (by exact ht)]

/-! ## The shares of a release (R5, R36) -/

/-- The page's and the cell's share of a release, and the budget emptied. -/
def releaseBegun (e : Event) : Event := emptyBudget { e with
  page := { e.page with taken := .absent, areas := Vector.replicate 11 .idle }, handed := none, cell := e.cell.release }

/-- Every waiting claim is dropped. -/
def dropClaims (e : Event) : Event := { e with pool := { e.pool with claims := [] } }

/-- The ports' power removed, the programs DISARMED, and the buffers in flight delivered or returned. -/
def releaseShares (e : Event) : Event :=
  forEntries poolShare (dropClaims (disarmAll (forPorts allPorts (powerDown .release) (releaseBegun e))))

/-- The state in which a release ends, the shares done. -/
def releaseDone (e : Event) : Event := closeWindow { e with
  ports := e.ports.map PortState.release
  slots := e.slots.map Slot.release
  pool := { Pool.reset with handErrors := e.pool.handErrors }
  trigger := { e.trigger with remainder := 0, seenHigh := false, seenLow := false } }

theorem releasePage_held {e : Event} (h : e.page.taken = .held) : releasePage e = releaseDone (releaseShares e) := by
  have done : ∀ x y : Event, y = forPorts allPorts (fun p z => modPort p PortState.release z) x → closeWindow { y with
      slots := y.slots.map Slot.release
      pool := { Pool.reset with handErrors := y.pool.handErrors }
      trigger := { y.trigger with remainder := 0, seenHigh := false, seenLow := false } } = releaseDone x := by
    intro x y hy
    rw [hy, forPorts_all_modPort]
    rfl
  unfold releasePage
  rw [if_pos (by simp [held, h])]
  extract_lets page e1 e2 pool e3 e4
  have begun : emptyBudget e1 = releaseBegun e := rfl
  have shares : e3 = releaseShares e := by
    unfold releaseShares dropClaims
    rw [← begun]
  rw [← shares]
  exact done e3 e4 rfl

/-- No port has anything left to do (R36). -/
theorem still_releaseDone (e : Event) : Still (releaseDone e) := by
  have ports : ∀ p, (releaseDone e).port p = (e.port p).release := fun p => get_map _ _ p
  refine ⟨fun p => ?_, fun p => ?_, fun p => ?_, fun p => ?_, fun p => ?_⟩ <;> rw [ports]
  · rfl
  · rfl
  · rfl
  · simp [PortState.release, LensRec.reset]
  · simp only [PortState.release, PortPower.release]
    split <;> rfl

end Sys2Proof.Machine

namespace Sys2Proof.Machine

/-! ## The buffers in flight at a release (R129, R134) -/

/-- The entry is with the part: RESERVED or FILLING (R115). -/
def Entry.aboard (x : Entry) : Prop := x.state = .filling ∨ x.state = .reserved

/-- The entry as a release shows it: a FILLING buffer OUT and SPOILED, a RESERVED one GIVEN (R134). -/
def Entry.released (x : Entry) : Entry :=
  if x.state = .filling then { x with state := .out, summary := some (summaryOf x .spoiled) } else { x with state := .given }

/-- The writings of the report part of buffer record b, released. -/
def releaseWrites (l : Layout) (b : Nat) (x : Entry) : List Traffic :=
  areaWrites (recordAddr l b + 0x10) x.count (bufferBody x.released)

/-- How far the return of the buffers has come since state s: what is left aboard is as it was, what has left is shown, and nothing
else has been issued but the interrupt message. -/
structure Returning (s : State) (e : Event) : Prop where
  pcie : e.pcie = s.pcie
  layout : e.pool.layout = s.pool.layout
  handErrors : e.pool.handErrors = s.pool.handErrors
  budget : e.budget = Budget.reset
  slots : e.slots = s.slots
  faults : e.faults = s.faults
  mask : e.page.mask = s.page.mask
  areas : e.page.areas = s.page.areas
  flags : e.page.attention &&& flagPage = s.page.attention &&& flagPage
  length : e.pool.entries.length = s.pool.entries.length
  aboard : ∀ (b : Nat) y, e.pool.entries[b]? = some y → y.aboard → s.pool.entries[b]? = some y
  issued : ∃ w, e.traffic = s.traffic ++ w ∧
    (∀ l (b : Nat) x, s.pool.layout = some l → s.pool.entries[b]? = some x → x.aboard →
      (∀ y, e.pool.entries[b]? = some y → ¬ y.aboard) → ∀ m ∈ releaseWrites l b x, m ∈ w) ∧
    ∀ m ∈ w, m ∈ s.messages ∨ ∃ l b x, s.pool.layout = some l ∧ s.pool.entries[b]? = some x ∧ x.aboard ∧ m ∈ releaseWrites l b x

theorem Returning.refl {s : State} (h : s.budget = Budget.reset) : Returning s (Event.of s) where
  pcie := rfl
  layout := rfl
  handErrors := rfl
  budget := h
  slots := rfl
  faults := rfl
  mask := rfl
  areas := rfl
  flags := rfl
  length := rfl
  aboard := fun _ _ h _ => h
  issued := ⟨[], by simp, fun _ _ x _ hx ha hy => absurd ha (hy x hx), by simp⟩

/-- What the return of the buffers looks at. -/
structure Ledger where
  pcie : Pcie
  layout : Option Layout
  handErrors : Word
  entries : List Entry
  budget : Budget
  slots : Vector Slot 32
  faults : FaultUnit
  mask : BitVec 14
  areas : Vector AreaState 11
  attention : BitVec 14
  traffic : List Traffic

def ledger (e : Event) : Ledger where
  pcie := e.pcie
  layout := e.pool.layout
  handErrors := e.pool.handErrors
  entries := e.pool.entries
  budget := e.budget
  slots := e.slots
  faults := e.faults
  mask := e.page.mask
  areas := e.page.areas
  attention := e.page.attention
  traffic := e.traffic

theorem Returning.of_ledger {s : State} {e e' : Event} (h : Returning s e) (hl : ledger e' = ledger e) : Returning s e' := by
  have hpcie : e'.pcie = e.pcie := congrArg Ledger.pcie hl
  have hlayout : e'.pool.layout = e.pool.layout := congrArg Ledger.layout hl
  have herrors : e'.pool.handErrors = e.pool.handErrors := congrArg Ledger.handErrors hl
  have hentries : e'.pool.entries = e.pool.entries := congrArg Ledger.entries hl
  have hbudget : e'.budget = e.budget := congrArg Ledger.budget hl
  have hslots : e'.slots = e.slots := congrArg Ledger.slots hl
  have hfaults : e'.faults = e.faults := congrArg Ledger.faults hl
  have hmask : e'.page.mask = e.page.mask := congrArg Ledger.mask hl
  have hareas : e'.page.areas = e.page.areas := congrArg Ledger.areas hl
  have hflags : e'.page.attention = e.page.attention := congrArg Ledger.attention hl
  have htraffic : e'.traffic = e.traffic := congrArg Ledger.traffic hl
  constructor
  · rw [hpcie]; exact h.pcie
  · rw [hlayout]; exact h.layout
  · rw [herrors]; exact h.handErrors
  · rw [hbudget]; exact h.budget
  · rw [hslots]; exact h.slots
  · rw [hfaults]; exact h.faults
  · rw [hmask]; exact h.mask
  · rw [hareas]; exact h.areas
  · rw [hflags]; exact h.flags
  · rw [hentries]; exact h.length
  · rw [hentries]; exact h.aboard
  · rw [hentries, htraffic]; exact h.issued

/-! ### One buffer leaves -/

/-- A buffer's change and the rewriting of its report part, under a layout (R116). -/
theorem writeBuffer_modEntry {b : Nat} {f : Entry → Entry} {x : Entry} {l : Layout} {e : Event}
    (hl : e.pool.layout = some l) (hx : e.pool.entries[b]? = some x) : writeBuffer b (modEntry b f e) = { e with
      pool := { e.pool with
        entries := modNth (modNth e.pool.entries b f) b fun y => { y with count := (f x).count + 2 } }
      traffic := e.traffic ++ areaWrites (recordAddr l b + 0x10) (f x).count (bufferBody (f x)) } := by
  have changed : (modEntry b f e).pool.entries[b]? = some (f x) := by simp [modEntry, getElem?_modNth, hx]
  unfold writeBuffer
  rw [show (modEntry b f e).pool.layout = some l from hl, changed]
  dsimp only
  rw [rewriteArea_eq]
  rfl

/-- Without a layout nothing is written. -/
theorem writeBuffer_bare {b : Nat} {e : Event} (hl : e.pool.layout = none) : writeBuffer b e = e := by
  unfold writeBuffer
  rw [hl]

/-- A buffer aboard that leaves, shown as a release shows it. -/
theorem Returning.leave {s : State} {e : Event} {b : Nat} {f : Entry → Entry} {x : Entry} (h : Returning s e)
    (hx : e.pool.entries[b]? = some x) (ha : x.aboard) (hoff : ¬ (f x).aboard) (hcount : (f x).count = x.count)
    (hbody : bufferBody (f x) = bufferBody x.released) : Returning s (writeBuffer b (modEntry b f e)) := by
  have hsx : s.pool.entries[b]? = some x := h.aboard b x hx ha
  obtain ⟨w, hw, hshown, honly⟩ := h.issued
  cases hl : s.pool.layout with
  | none =>
    rw [writeBuffer_bare (show (modEntry b f e).pool.layout = none from h.layout.trans hl)]
    refine { h with length := (length_modNth _ _ _).trans h.length, aboard := fun c y hy hay => ?_, issued := ⟨w, hw, ?_, honly⟩ }
    · simp only [modEntry, getElem?_modNth] at hy
      split at hy
      · next hc => subst hc; simp [hx] at hy; exact absurd (hy ▸ hay) hoff
      · exact h.aboard c y hy hay
    · intro l c z hlz
      simp [hl] at hlz
  | some l =>
    rw [writeBuffer_modEntry (h.layout.trans hl) hx]
    have others : ∀ c y, (modNth (modNth e.pool.entries b f) b fun y => { y with count := (f x).count + 2 })[c]? = some y →
        y.aboard → c ≠ b ∧ e.pool.entries[c]? = some y := by
      intro c y hy hay
      simp only [getElem?_modNth] at hy
      split at hy
      · next hc =>
        subst hc
        simp [hx] at hy
        rw [← hy] at hay
        exact absurd hay hoff
      · next hc => exact ⟨hc, hy⟩
    refine { h with
      length := by simpa using h.length
      aboard := fun c y hy hay => h.aboard c y (others c y hy hay).2 hay
      issued := ⟨w ++ releaseWrites l b x, ?_, fun l' c z hl' hz haz hgone m hm => ?_, fun m hm => ?_⟩ }
    · simp only [hw, releaseWrites, hcount, hbody, List.append_assoc]
    · obtain rfl : l = l' := by simpa [hl] using hl'
      by_cases hc : c = b
      · subst hc
        obtain rfl : x = z := by simpa [hsx] using hz
        exact List.mem_append_right _ hm
      · refine List.mem_append_left _ (hshown l c z hl' hz haz (fun y hy => hgone y ?_) m hm)
        simp [getElem?_modNth, hc, hy]
    · obtain hm | hm := List.mem_append.mp hm
      · exact honly m hm
      · exact .inr ⟨l, b, x, hl, hsx, ha, hm⟩

/-- The flags of the pool's deliveries leave ATTENTION.PAGE as it was (log 18). -/
theorem Returning.raisePool {s : State} {e : Event} (h : Returning s e) : Returning s (raiseFlags flagPool e) := by
  rw [raiseFlags_eq]
  obtain ⟨w, hw, hshown, honly⟩ := h.issued
  have messages : e.toState.messages = s.messages := by unfold State.messages; rw [h.pcie]
  refine { h with
    flags := ?_
    issued := ⟨w ++ e.toState.risen (e.page.attention ||| flagPool) e.page.mask, ?_, fun l b x hl hx ha hy m hm =>
      List.mem_append_left _ (hshown l b x hl hx ha hy m hm), fun m hm => ?_⟩ }
  · have apart : flagPool &&& flagPage = 0 := by decide
    have : (e.page.attention ||| flagPool) &&& flagPage = (e.page.attention &&& flagPage) ||| (flagPool &&& flagPage) := by
      ext i; simp [Bool.and_or_distrib_right]
    rw [this, apart]
    simpa using h.flags
  · simp only [hw, List.append_assoc]
  · obtain hm | hm := List.mem_append.mp hm
    · exact honly m hm
    · left
      rw [← messages]
      unfold State.risen at hm
      split at hm
      · exact hm
      · simp at hm

theorem ledger_countDelivery (x : Entry) (e : Event) : ledger (countDelivery x e) = ledger e := by
  unfold countDelivery
  split <;> rfl

/-- SPOILED stands first of the outcomes (R129). -/
theorem worst_spoiled (o : FrameOutcome) : o.worst .spoiled = .spoiled := by cases o <;> rfl

/-- A FILLING buffer is delivered SPOILED. -/
theorem Returning.deliver {s : State} {e : Event} {b : Nat} {x : Entry} (h : Returning s e)
    (hx : e.pool.entries[b]? = some x) (hf : x.state = .filling) : Returning s (Machine.deliver b .spoiled e) := by
  have left : Returning s (writeBuffer b (modEntry b (Entry.deliver .spoiled) e)) :=
    h.leave hx (.inl hf) (by simp [Entry.aboard, Entry.deliver]) rfl
      (by simp [bufferBody, Entry.deliver, Entry.released, hf, worst_spoiled])
  unfold Machine.deliver
  rw [hx]
  exact left.raisePool.of_ledger (ledger_countDelivery _ _)

/-- A RESERVED one is returned to GIVEN. -/
theorem Returning.returnGiven {s : State} {e : Event} {b : Nat} {x : Entry} (h : Returning s e)
    (hx : e.pool.entries[b]? = some x) (hr : x.state = .reserved) : Returning s (Machine.returnGiven b e) := by
  unfold Machine.returnGiven
  rw [hx]
  dsimp only
  rw [if_pos hr]
  exact h.leave hx (.inr hr) (by simp [Entry.aboard, Entry.giveBack]) rfl
    (by simp [bufferBody, Entry.giveBack, Entry.released, hr])

end Sys2Proof.Machine

namespace Sys2Proof.Machine

/-! ### Operations of a release that the ledger does not see -/

@[simp] theorem ledger_modPort (p : Port) (f : PortState → PortState) (e : Event) : ledger (modPort p f e) = ledger e := rfl
@[simp] theorem ledger_modPower (p : Port) (f : PortPower → PortPower) (e : Event) : ledger (modPower p f e) = ledger e := rfl
@[simp] theorem ledger_modLink (p : Port) (f : PortLink → PortLink) (e : Event) : ledger (modLink p f e) = ledger e := rfl
@[simp] theorem ledger_modLens (p : Port) (f : LensRec → LensRec) (e : Event) : ledger (modLens p f e) = ledger e := rfl
@[simp] theorem ledger_tell (t : Task) (e : Event) : ledger (tell t e) = ledger e := rfl

@[simp] theorem ledger_touch (p : Port) (e : Event) : ledger (touch p e) = ledger e := by
  unfold touch
  split <;> rfl

@[simp] theorem ledger_tellProbe (p : Port) (e : Event) : ledger (tellProbe p e) = ledger e := by
  unfold tellProbe
  split <;> rfl

@[simp] theorem ledger_setPower (p : Port) (st : PowerState) (e : Event) : ledger (setPower p st e) = ledger e := by
  unfold setPower
  split <;> simp

@[simp] theorem ledger_setLink (p : Port) (st : LinkState) (e : Event) : ledger (setLink p st e) = ledger e := by
  unfold setLink
  split <;> simp

@[simp] theorem ledger_setLens (p : Port) (st : LensState) (e : Event) : ledger (setLens p st e) = ledger e := by
  unfold setLens
  split <;> simp

@[simp] theorem ledger_leaveRetry (p : Port) (e : Event) : ledger (leaveRetry p e) = ledger e := by simp [leaveRetry]

@[simp] theorem ledger_emptyHistories (p : Port) (e : Event) : ledger (emptyHistories p e) = ledger e := rfl

@[simp] theorem ledger_sweepSpoiled (p : Port) (e : Event) : ledger (sweepSpoiled p e) = ledger e := by
  unfold sweepSpoiled
  (repeat' split) <;> rfl

@[simp] theorem ledger_tellIfDrained (p : Port) (e : Event) : ledger (tellIfDrained p e) = ledger e := by
  unfold tellIfDrained
  split <;> rfl

/-! ### Operations of a release that return buffers -/

theorem Returning.loseFrame {s : State} {e : Event} (h : Returning s e) (p : Port) (b : Nat) :
    Returning s (Machine.loseFrame p b e) := by
  unfold Machine.loseFrame
  cases hx : e.pool.entries[b]? with
  | none => exact h
  | some x =>
    dsimp only
    split
    · cases hs : x.state with
      | filling => exact h.deliver hx hs
      | reserved => exact h.returnGiven hx hs
      | out | given => exact h
    · exact h

theorem Returning.poolShare {s : State} {e : Event} (h : Returning s e) (b : Nat) : Returning s (Machine.poolShare b e) := by
  unfold Machine.poolShare
  cases hx : e.pool.entries[b]? with
  | none => exact h
  | some x =>
    dsimp only
    cases hs : x.state with
    | filling => exact h.deliver hx hs
    | reserved => exact h.returnGiven hx hs
    | out | given => exact h

theorem Returning.foldl {α : Type} {s : State} {f : Event → α → Event} (xs : List α)
    (hf : ∀ a e, Returning s e → Returning s (f e a)) : ∀ e, Returning s e → Returning s (xs.foldl f e) := by
  induction xs with
  | nil => exact fun e h => h
  | cons x xs ih => exact fun e h => ih _ (hf x e h)

theorem Returning.spoilFrames {s : State} {e : Event} (h : Returning s e) (p : Port) : Returning s (Machine.spoilFrames p e) := by
  have lost : Returning s (forEntries (Machine.loseFrame p) (sweepSpoiled p e)) :=
    Returning.foldl _ (fun b _ hx => hx.loseFrame p b) _ (h.of_ledger (by simp))
  unfold Machine.spoilFrames loseFrames
  dsimp only
  split
  · exact lost
  · exact lost.of_ledger (by simp)

theorem Returning.linkDark {s : State} {e : Event} (h : Returning s e) (p : Port) : Returning s (Machine.linkDark p e) := by
  unfold Machine.linkDark
  split
  · exact h
  · exact Returning.spoilFrames (h.of_ledger (by simp)) p

theorem budget_kept {e : Event} (h : e.budget = Budget.reset) : ({ e with budget := Budget.reset } : Event) = e := by rw [← h]

theorem withdraw_reset {e : Event} (h : e.budget = Budget.reset) (p : Port) (k : ClaimKind) : withdraw p k e = e := by
  unfold withdraw
  rw [h]
  exact budget_kept h

theorem withdrawAll_reset {e : Event} (h : e.budget = Budget.reset) (p : Port) : withdrawAll p e = e := by
  unfold withdrawAll
  rw [h]
  exact budget_kept h

theorem leaveInrush_reset {e : Event} (h : e.budget = Budget.reset) (p : Port) : leaveInrush p e = e := by
  unfold leaveInrush
  rw [h]
  exact budget_kept h

/-- With no motion allotment to release, a lens that meets a loss starts no walk. -/
theorem loseLens_unfunded {e : Event} {p : Port} (hb : e.budget = Budget.reset) (hm : (e.port p).power.motion = 0) (dark : Bool) :
    loseLens p dark e = setLens p ((e.port p).lens.state.lost dark) (modLens p (LensRec.lose dark) e) := by
  have motion : ((modLens p (LensRec.lose dark) e).port p).power.motion = 0 := by simpa [Event.port] using hm
  unfold loseLens
  dsimp only
  rw [withdraw_reset (by exact hb), releaseMotion, if_pos motion]

/-! ## What a release leaves of the ports (R36, R82, R94)

Of a port's record a release keeps its cable and its faults; its power and its link's state are what the removal makes of them; all else
is cleared. -/

/-- The part of a port's record that a release does not clear. -/
structure Brief where
  power : PortPower
  link : LinkState
  cable : CableRec
  faults : PortFaults

def PortState.brief (q : PortState) : Brief where
  power := q.power
  link := q.link.state
  cable := q.cable
  faults := q.faults

def briefs (e : Event) (p : Port) : Brief := (e.port p).brief

theorem briefs_modPort {p : Port} {f : PortState → PortState} {g : Brief → Brief} (h : ∀ q, (f q).brief = g q.brief) (e : Event) :
    briefs (modPort p f e) = Function.update (briefs e) p (g (briefs e p)) := by
  funext q
  by_cases hq : q = p
  · subst hq; simp [briefs, Event.port, h]
  · simp [briefs, Event.port, hq, get_modAt_ne _ _ _ _ hq]

/-- A change of a port that its brief does not show. -/
theorem briefs_modPort_same {p : Port} {f : PortState → PortState} (h : ∀ q, (f q).brief = q.brief) (e : Event) :
    briefs (modPort p f e) = briefs e := (briefs_modPort (g := id) h e).trans (Function.update_eq_self _ _)

@[simp] theorem briefs_tell (t : Task) (e : Event) : briefs (tell t e) = briefs e := rfl

@[simp] theorem briefs_touch (p : Port) (e : Event) : briefs (touch p e) = briefs e := by
  unfold touch
  split <;> rfl

@[simp] theorem briefs_tellProbe (p : Port) (e : Event) : briefs (tellProbe p e) = briefs e := by
  unfold tellProbe
  split <;> rfl

@[simp] theorem briefs_modLens (p : Port) (f : LensRec → LensRec) (e : Event) : briefs (modLens p f e) = briefs e :=
  briefs_modPort_same (by exact fun _ => rfl) e

@[simp] theorem briefs_modPower (p : Port) (f : PortPower → PortPower) (e : Event) :
    briefs (modPower p f e) = Function.update (briefs e) p { briefs e p with power := f (briefs e p).power } :=
  briefs_modPort (g := fun q => { q with power := f q.power }) (fun _ => rfl) e

@[simp] theorem briefs_setPower (p : Port) (st : PowerState) (e : Event) : briefs (setPower p st e) =
    Function.update (briefs e) p { briefs e p with power := { (briefs e p).power with state := st } } := by
  unfold setPower
  split
  · next h =>
    refine (Function.update_eq_self_iff.mpr ?_).symm
    subst h
    rfl
  · simp

theorem briefs_setLink (p : Port) (st : LinkState) (e : Event) :
    briefs (setLink p st e) = Function.update (briefs e) p { briefs e p with link := st } := by
  unfold setLink
  split
  · next h =>
    refine (Function.update_eq_self_iff.mpr ?_).symm
    subst h
    rfl
  · rw [briefs_tellProbe, briefs_touch]
    exact briefs_modPort (g := fun q => { q with link := st }) (fun _ => rfl) e

@[simp] theorem briefs_setLens (p : Port) (st : LensState) (e : Event) : briefs (setLens p st e) = briefs e := by
  unfold setLens
  split <;> simp

@[simp] theorem briefs_emptyHistories (p : Port) (e : Event) : briefs (emptyHistories p e) = briefs e :=
  briefs_modPort_same (by exact fun _ => rfl) e

@[simp] theorem briefs_sweepSpoiled (p : Port) (e : Event) : briefs (sweepSpoiled p e) = briefs e := by
  have recorded : ∀ x, briefs (recordStep p x e) = briefs e := fun x => by
    unfold recordStep modSweep
    rw [briefs_tell]
    exact briefs_modPort_same (by exact fun _ => rfl) e
  unfold sweepSpoiled
  (repeat' split) <;> simp [recorded]

@[simp] theorem briefs_tellIfDrained (p : Port) (e : Event) : briefs (tellIfDrained p e) = briefs e := by
  unfold tellIfDrained
  split <;> rfl

/-! ### Buffers -/

@[simp] theorem briefs_writeBuffer (b : Nat) (e : Event) : briefs (writeBuffer b e) = briefs e := by
  unfold writeBuffer
  split <;> rfl

@[simp] theorem briefs_raiseFlags (bits : BitVec 14) (e : Event) : briefs (raiseFlags bits e) = briefs e := by
  rw [raiseFlags_eq]
  rfl

@[simp] theorem briefs_countDelivery (x : Entry) (e : Event) : briefs (countDelivery x e) = briefs e := by
  unfold countDelivery
  split
  · exact briefs_modPort_same (by exact fun _ => rfl) e
  · rfl

@[simp] theorem briefs_modEntry (b : Nat) (f : Entry → Entry) (e : Event) : briefs (modEntry b f e) = briefs e := rfl

@[simp] theorem briefs_deliver (b : Nat) (o : FrameOutcome) (e : Event) : briefs (deliver b o e) = briefs e := by
  unfold deliver
  split <;> simp

@[simp] theorem briefs_returnGiven (b : Nat) (e : Event) : briefs (returnGiven b e) = briefs e := by
  unfold returnGiven
  (repeat' split) <;> simp

@[simp] theorem briefs_loseFrame (p : Port) (b : Nat) (e : Event) : briefs (loseFrame p b e) = briefs e := by
  unfold loseFrame
  (repeat' split) <;> simp

@[simp] theorem briefs_poolShare (b : Nat) (e : Event) : briefs (poolShare b e) = briefs e := by
  unfold poolShare
  (repeat' split) <;> simp

theorem briefs_forEntries (f : Nat → Event → Event) (e : Event) (h : ∀ b x, briefs (f b x) = briefs x) :
    briefs (forEntries f e) = briefs e := by
  unfold forEntries
  generalize List.range e.pool.entries.length = bs
  induction bs generalizing e with
  | nil => rfl
  | cons b bs ih => rw [List.foldl_cons, ih, h]

@[simp] theorem briefs_spoilFrames (p : Port) (e : Event) : briefs (spoilFrames p e) = briefs e := by
  have lost : briefs (forEntries (loseFrame p) (sweepSpoiled p e)) = briefs e :=
    (briefs_forEntries _ _ fun b x => briefs_loseFrame p b x).trans (briefs_sweepSpoiled p e)
  unfold spoilFrames loseFrames
  dsimp only
  split
  · exact lost
  · rw [briefs_tellIfDrained]; exact lost

/-! ### The removal of power -/

/-- A link goes DARK from every state (R94). -/
theorem briefs_linkDark (p : Port) (e : Event) :
    briefs (linkDark p e) = Function.update (briefs e) p { briefs e p with link := .dark } := by
  have darkened : briefs (modLink p PortLink.darken e) = briefs e := briefs_modPort_same (by exact fun _ => rfl) e
  unfold linkDark
  split
  · next h =>
    refine (Function.update_eq_self_iff.mpr ?_).symm
    change _ = (e.port p).brief
    unfold briefs PortState.brief
    rw [h]
  · rw [briefs_spoilFrames, briefs_setLink, briefs_emptyHistories, darkened]

/-- What the Power Manager's share of a release makes of a port (R32, R78, R82). -/
def Brief.down (q : Brief) : Brief :=
  if q.power.state.powered then
    { q with power := { PortPower.cut { q.power with owed := false } with state := .off }, link := .dark }
  else if q.power.state = .waiting ∨ q.power.state = .retryWait then
    { q with power := { q.power with owed := false, retryAt := none, retryEnded := false, state := .off } }
  else { q with power := { q.power with owed := false } }

end Sys2Proof.Machine

namespace Sys2Proof.Machine

/-- A port whose power has been removed and whose link is DARK (R78, R94). -/
def darkened (p : Port) (e : Event) : Event := linkDark p (setPower p .off (modPower p PortPower.cut e))

theorem Returning.darkened {s : State} {e : Event} (h : Returning s e) (p : Port) : Returning s (Machine.darkened p e) :=
  Returning.linkDark (h.of_ledger (by simp)) p

theorem briefs_darkened (p : Port) (e : Event) : briefs (darkened p e) = Function.update (briefs e) p
    { briefs e p with power := { (briefs e p).power.cut with state := .off }, link := .dark } := by
  unfold darkened
  rw [briefs_linkDark]
  simp

/-- A loss of power with no budget in force takes nothing from a walk. -/
theorem removePower_release_eq {s : State} {e : Event} (h : Returning s e) (p : Port) : removePower p .release .off e =
    setLens p (((darkened p e).port p).lens.state.lost true) (modLens p (LensRec.lose true) (darkened p e)) := by
  have cut : leaveInrush p (withdrawAll p (modPower p PortPower.cut e)) = modPower p PortPower.cut e := by
    rw [withdrawAll_reset (by exact h.budget), leaveInrush_reset (by exact h.budget)]
  have unfunded : ((darkened p e).port p).power.motion = 0 := by
    change (briefs (darkened p e) p).power.motion = 0
    rw [briefs_darkened]
    simp [PortPower.cut]
  unfold removePower
  dsimp only
  rw [cut]
  exact loseLens_unfunded (h.darkened p).budget unfunded true

theorem removePower_release {s : State} {e : Event} (h : Returning s e) (p : Port) :
    Returning s (removePower p .release .off e) ∧ briefs (removePower p .release .off e) = Function.update (briefs e) p
      { briefs e p with power := { (briefs e p).power.cut with state := .off }, link := .dark } := by
  rw [removePower_release_eq h]
  exact ⟨(h.darkened p).of_ledger (by simp), by simp [briefs_darkened]⟩

/-- The Power Manager's share of a release at one port (R32, R82). -/
theorem powerDown_release {s : State} {e : Event} (h : Returning s e) (p : Port) : Returning s (powerDown .release p e) ∧
    briefs (powerDown .release p e) = Function.update (briefs e) p (briefs e p).down := by
  have forgotten : Returning s (modPower p (fun w => { w with owed := false }) e) := h.of_ledger (by simp)
  have state : (e.port p).power.state = (briefs e p).power.state := rfl
  unfold powerDown
  dsimp only
  rw [state]
  by_cases hp : (briefs e p).power.state.powered = true
  · obtain ⟨returned, shown⟩ := removePower_release forgotten p
    rw [if_pos hp]
    refine ⟨returned, ?_⟩
    rw [shown, Brief.down, if_pos hp]
    simp
  · rw [if_neg hp, Brief.down, if_neg hp]
    cases hs : (briefs e p).power.state with
    | waiting => exact ⟨forgotten.of_ledger (by simp), by simp [leaveRetry]⟩
    | retryWait => exact ⟨forgotten.of_ledger (by simp), by simp [leaveRetry]⟩
    | off | held | lockedOut => exact ⟨forgotten, by simp⟩
    | queued | inrush | settling | on | limit | standby | waking => simp [hs, PowerState.powered] at hp

/-- The same at several ports, one after the other. -/
theorem forPorts_powerDown_release {ps : List Port} (hps : ps.Nodup) {s : State} {e : Event} (h : Returning s e) :
    Returning s (forPorts ps (powerDown .release) e) ∧
    ∀ q, briefs (forPorts ps (powerDown .release) e) q = if q ∈ ps then (briefs e q).down else briefs e q := by
  induction ps generalizing e with
  | nil => exact ⟨h, fun q => by simp [forPorts]⟩
  | cons p ps ih =>
    obtain ⟨hp, hps⟩ := List.nodup_cons.mp hps
    obtain ⟨first, shown⟩ := powerDown_release h p
    obtain ⟨rest, all⟩ := ih hps first
    refine ⟨rest, fun q => (all q).trans ?_⟩
    rw [shown]
    by_cases hq : q = p
    · subst hq; simp [hp]
    · simp [hq]

/-! ## The shares together -/

/-- A buffer that the Pool Manager has dealt with is no longer aboard, and none comes aboard (R134). -/
theorem poolShare_aboard {b c : Nat} {y : Entry} {e : Event} (hy : (poolShare c e).pool.entries[b]? = some y) (ha : y.aboard) :
    b ≠ c ∧ e.pool.entries[b]? = some y := by
  have settled : ∀ (f : Entry → Entry) (x : Entry), e.pool.entries[c]? = some x → ¬ (f x).aboard →
      ∀ z : Event, ledger z = ledger (writeBuffer c (modEntry c f e)) ∨
        ledger z = ledger (raiseFlags flagPool (writeBuffer c (modEntry c f e))) →
      z.pool.entries[b]? = some y → b ≠ c ∧ e.pool.entries[b]? = some y := by
    intro f x hx hoff z hz hzy
    have entries : z.pool.entries = (writeBuffer c (modEntry c f e)).pool.entries := by
      obtain hz | hz := hz
      · exact congrArg Ledger.entries hz
      · refine (congrArg Ledger.entries hz).trans ?_
        rw [raiseFlags_eq]
        rfl
    rw [entries] at hzy
    cases hl : e.pool.layout with
    | none =>
      rw [writeBuffer_bare (show (modEntry c f e).pool.layout = none from hl)] at hzy
      simp only [modEntry, getElem?_modNth] at hzy
      by_cases hb : b = c
      · subst hb
        simp [hx] at hzy
        exact absurd (hzy ▸ ha) hoff
      · exact ⟨hb, by simpa [hb] using hzy⟩
    | some l =>
      rw [writeBuffer_modEntry hl hx] at hzy
      simp only [getElem?_modNth] at hzy
      by_cases hb : b = c
      · subst hb
        simp [hx] at hzy
        rw [← hzy] at ha
        exact absurd ha hoff
      · exact ⟨hb, by simpa [hb] using hzy⟩
  unfold poolShare at hy
  cases hx : e.pool.entries[c]? with
  | none =>
    simp only [hx] at hy
    exact ⟨fun hb => by simp [hb, hx] at hy, hy⟩
  | some x =>
    simp only [hx] at hy
    cases hs : x.state with
    | filling =>
      simp only [hs, deliver, hx] at hy
      exact settled _ x hx (by simp [Entry.aboard, Entry.deliver]) _ (.inr (ledger_countDelivery _ _)) hy
    | reserved =>
      simp only [hs, returnGiven, hx, if_true] at hy
      exact settled _ x hx (by simp [Entry.aboard, Entry.giveBack]) _ (.inl rfl) hy
    | out | given =>
      simp only [hs] at hy
      refine ⟨fun hb => ?_, hy⟩
      subst hb
      obtain rfl : x = y := by simpa [hx] using hy
      simp [Entry.aboard, hs] at ha

/-- Once every buffer has been dealt with none is aboard. -/
theorem forEntries_poolShare_aboard {b : Nat} {y : Entry} {e : Event} (hy : (forEntries poolShare e).pool.entries[b]? = some y) :
    ¬ y.aboard := by
  have through : ∀ (bs : List Nat) (e : Event), (bs.foldl (fun acc c => poolShare c acc) e).pool.entries[b]? = some y → y.aboard →
      b ∉ bs ∧ e.pool.entries[b]? = some y := by
    intro bs
    induction bs with
    | nil => exact fun e h _ => ⟨by simp, h⟩
    | cons c bs ih =>
      intro e h ha
      obtain ⟨hbs, h1⟩ := ih (poolShare c e) h ha
      obtain ⟨hc, h0⟩ := poolShare_aboard h1 ha
      exact ⟨by simp [hc, hbs], h0⟩
  intro ha
  obtain ⟨hb, h0⟩ := through _ e hy ha
  obtain ⟨hlt, _⟩ := List.getElem?_eq_some_iff.mp h0
  exact hb (List.mem_range.mpr hlt)

@[simp] theorem ledger_dropClaims (e : Event) : ledger (dropClaims e) = ledger e := rfl

@[simp] theorem briefs_dropClaims (e : Event) : briefs (dropClaims e) = briefs e := rfl

/-- The programs DISARMED are all that the Trigger Scheduler's share moves. -/
theorem disarmAll_eq (e : Event) : ∃ programs, disarmAll e = { e with trigger := { e.trigger with programs := programs } } ∧
    ∀ i, (programs.get i).state = .disarmed := by
  have folded : ∀ (is : List ProgNo) (x : Event), ∃ programs,
      is.foldl (fun y i => modProgram i Program.disarm y) x = { x with trigger := { x.trigger with programs := programs } } ∧
      ∀ i, i ∈ is ∨ (x.trigger.programs.get i).state = .disarmed → (programs.get i).state = .disarmed := by
    intro is
    induction is with
    | nil => exact fun x => ⟨x.trigger.programs, rfl, by simp⟩
    | cons j is ih =>
      intro x
      obtain ⟨programs, hp, hd⟩ := ih (modProgram j Program.disarm x)
      refine ⟨programs, hp, fun i hi => hd i ?_⟩
      by_cases hj : i = j
      · right
        subst hj
        simp [modProgram, Program.disarm]
      · refine hi.imp (fun h => (List.mem_cons.mp h).resolve_left hj) fun h => ?_
        simpa [modProgram, get_modAt_ne _ _ _ _ hj] using h
  obtain ⟨programs, hp, hd⟩ := folded allProgs e
  exact ⟨programs, hp, fun i => hd i (.inl (by revert i; decide))⟩

@[simp] theorem ledger_disarmAll (e : Event) : ledger (disarmAll e) = ledger e := by
  obtain ⟨programs, hp, _⟩ := disarmAll_eq e
  rw [hp]
  rfl

@[simp] theorem briefs_disarmAll (e : Event) : briefs (disarmAll e) = briefs e := by
  obtain ⟨programs, hp, _⟩ := disarmAll_eq e
  rw [hp]
  rfl

theorem briefs_releaseBegun (e : Event) : briefs (releaseBegun e) = briefs e := rfl

/-- The shares return buffers alone, and end with none aboard (R134). -/
theorem releaseShares_returning (e : Event) : Returning (releaseBegun e).toState (releaseShares e) := by
  have begun : Returning (releaseBegun e).toState (releaseBegun e) := (Returning.refl rfl).of_ledger rfl
  have powered := (forPorts_powerDown_release (ps := allPorts) (by decide) begun).1
  exact Returning.foldl _ (fun b _ hx => hx.poolShare b) _ (powered.of_ledger (by simp))

/-- Every port's power has been removed (R82). -/
theorem briefs_releaseShares (e : Event) (p : Port) : briefs (releaseShares e) p = (briefs e p).down := by
  have begun : Returning (releaseBegun e).toState (releaseBegun e) := (Returning.refl rfl).of_ledger rfl
  have shown := (forPorts_powerDown_release (ps := allPorts) (by decide) begun).2 p
  have all : p ∈ allPorts := (by decide : ∀ q : Port, q ∈ allPorts) p
  rw [if_pos all, briefs_releaseBegun] at shown
  unfold releaseShares
  rw [briefs_forEntries _ _ briefs_poolShare, briefs_dropClaims, briefs_disarmAll, shown]

end Sys2Proof.Machine

namespace Sys2Proof.Machine

/-! ## The state in which a release ends (R5, R36) -/

/-- The control part through the shares of a release: the programs alone are moved. -/
theorem control_releaseShares (e : Event) : ∃ programs, (∀ i, (programs.get i).state = .disarmed) ∧
    control (releaseShares e).toState = { control (releaseBegun e).toState with programs := programs } := by
  have dropped : ∀ x : Event, control (dropClaims x).toState = control x.toState := fun _ => rfl
  obtain ⟨programs, hp, hd⟩ := disarmAll_eq (forPorts allPorts (powerDown .release) (releaseBegun e))
  refine ⟨programs, hd, ?_⟩
  unfold releaseShares
  rw [control_forEntries _ _ control_poolShare, dropped, hp]
  have moved : ∀ x : Event, control ({ x with trigger := { x.trigger with programs := programs } } : Event).toState =
      { control x.toState with programs := programs } := fun _ => rfl
  rw [moved, control_forPorts _ _ _ (control_powerDown .release)]

/-- The release is in progress (R2). -/
def lastingRelease (e : Event) : Event := { e with page := { e.page with releasing := true } }

theorem Still.lastingRelease {e : Event} (h : Still e) : Still (lastingRelease e) :=
  ⟨h.queue, h.sweep, h.probe, h.lens, h.owed⟩

/-- The event of a HELD page's release. -/
def releaseEvent (s : State) : Event := lastingRelease (releaseDone (releaseShares (Event.of s)))

/-- A zero pair written to PAGE_HI releases the HELD page, and the release lasts (R2, R5). -/
theorem actOnPair_release {s : State} (ht : s.page.taken = .held) (hz : pagePair s = 0) :
    actOnPair (Event.of s) = releaseEvent s := by
  have lasting : ∀ x : Event, ({ x with page := { x.page with releasing := (Event.of s).page.taken == .held } } : Event) =
      lastingRelease x := fun x => by
    rw [show ((Event.of s).page.taken == .held) = true by simp [Event.of, ht]]
    rfl
  rw [actOnPair_zero (by exact hz), releasePage_held (by exact ht), lasting]
  rfl

/-- The page is then ABSENT, and no block has anything left to do. -/
theorem releaseDone_taken {s : State} (ht : s.page.taken = .held) :
    (releaseDone (releaseShares (Event.of s))).page.taken = .absent := by
  rw [← releasePage_held (by exact ht), releasePage_taken]

/-- A command whose event leaves every port at rest and the page not HELD answers the state it makes. -/
theorem act_still {f : Event → Event} {s : State} {x : Event} (h : live s = true) (hf : f (Event.of s) = x) (hx : Still x)
    (ht : x.page.taken ≠ .held) : act f s = .next x.toState := by
  subst hf
  rw [act_live h, hx.after ht]

theorem exec_pageRelease_held {s : State} (h : live s = true) (ht : s.page.taken = .held) (hr : s.page.releasing = false)
    (hlo : s.page.lo = 0) : exec .pageRelease s = .next (releaseEvent { s with page := { s.page with hi := 0 } }).toState := by
  refine act_still h ((writePageHi_acts 0 hr).trans (actOnPair_release ht (by simp [pagePair, hlo])))
    (still_releaseDone _).lastingRelease ?_
  have absent : ∀ x : Event, x.page.taken = .absent → (lastingRelease x).page.taken ≠ .held := fun x hx => by
    change x.page.taken ≠ .held
    simp [hx]
  exact absent _ (releaseDone_taken (by exact ht))

/-- What the power record of a port is after a release (R36, R82, R94). -/
theorem release_power (q : Brief) : ∀ w, w = q.down.power.release →
    w.state = (if q.power.state = .lockedOut then .lockedOut else .off) ∧
    w.base = (if q.power.state.powered then 0 else q.power.base) ∧
    w.retry = (if q.power.state = .lockedOut then q.power.retry else 0) ∧
    w.trim = 0 ∧ w.trimClamped = false ∧ w.owed = false := by
  rintro w rfl
  unfold Brief.down PortPower.release
  cases hs : q.power.state <;> simp [PowerState.powered, PortPower.cut, hs]

end Sys2Proof.Machine

namespace Sys2Proof.Machine

/-- A port after a release, from what the shares left of it (R36, R82, R94). -/
theorem release_port {q r : PortState} (h : q.brief = r.brief.down) : (q.release.sheet = none ∧ q.release.queue = [] ∧
    q.release.snap = none ∧ q.release.cycle = none ∧ q.release.sweep = none ∧ q.release.probe = none ∧
    q.release.power.state = (if r.power.state = .lockedOut then .lockedOut else .off) ∧
    q.release.power.base = (if r.power.state.powered then 0 else r.power.base) ∧
    q.release.power.retry = (if r.power.state = .lockedOut then r.power.retry else 0) ∧
    q.release.power.trim = 0 ∧ q.release.power.trimClamped = false ∧ q.release.power.owed = false ∧
    q.release.lens = LensRec.reset ∧ q.release.cable = r.cable ∧ q.release.faults = r.faults) ∧
    (r.power.state.powered = true → q.release.link.state = .dark) := by
  have power : q.power = r.brief.down.power := congrArg Brief.power h
  have link : q.link.state = r.brief.down.link := congrArg Brief.link h
  have cable : q.cable = r.brief.down.cable := congrArg Brief.cable h
  have faults : q.faults = r.brief.down.faults := congrArg Brief.faults h
  have kept : r.brief.down.cable = r.cable ∧ r.brief.down.faults = r.faults := by
    unfold Brief.down
    (repeat' split) <;> exact ⟨rfl, rfl⟩
  obtain ⟨state, base, retry, trim, clamped, owed⟩ := release_power r.brief q.release.power (by rw [← power]; rfl)
  refine ⟨⟨rfl, rfl, rfl, rfl, rfl, rfl, state, base, retry, trim, clamped, owed, rfl, cable.trans kept.1, faults.trans kept.2⟩,
    fun hp => link.trans ?_⟩
  unfold Brief.down
  rw [if_pos (by exact hp)]

theorem releaseShares_aboard {e : Event} {b : Nat} {y : Entry} (hy : (releaseShares e).pool.entries[b]? = some y) :
    ¬ y.aboard := by
  unfold releaseShares at hy
  exact forEntries_poolShare_aboard hy

/-- What the shares of a release have issued: the report part of every buffer that was aboard, and nothing else but the message. -/
theorem releaseShares_issued (s : State) : ∃ w, (releaseShares (Event.of s)).traffic = s.traffic ++ w ∧
    (∀ l (b : Nat) x, s.pool.layout = some l → s.pool.entries[b]? = some x → x.aboard → ∀ m ∈ releaseWrites l b x, m ∈ w) ∧
    ∀ m ∈ w, m ∈ s.messages ∨ ∃ l b x, s.pool.layout = some l ∧ s.pool.entries[b]? = some x ∧ x.aboard ∧ m ∈ releaseWrites l b x := by
  have returning := releaseShares_returning (Event.of s)
  have gone : ∀ (b : Nat) y, (releaseShares (Event.of s)).pool.entries[b]? = some y → ¬ y.aboard :=
    fun _ _ hy => releaseShares_aboard hy
  generalize releaseShares (Event.of s) = x at returning gone
  obtain ⟨w, hw, hshown, honly⟩ := returning.issued
  exact ⟨w, hw, fun l b y hl hy ha => hshown l b y hl hy ha (gone b), honly⟩

/-- Settles O10: from the ledger and the briefs that the shares of a release leave. -/
theorem pageReleaseEndsUse : Obligations.PageReleaseEndsUse := by
  unfold Obligations.PageReleaseEndsUse
  intro s h ht hr hlo
  refine ⟨_, exec_pageRelease_held h ht hr hlo, ?_⟩
  obtain ⟨u, hu⟩ : ∃ u : State, u = { s with page := { s.page with hi := 0 } } := ⟨_, rfl⟩
  obtain ⟨x, hx⟩ : ∃ x, x = releaseShares (Event.of u) := ⟨_, rfl⟩
  have returning := releaseShares_returning (Event.of u)
  have brief := briefs_releaseShares (Event.of u)
  obtain ⟨w, hw, hshown, honly⟩ := releaseShares_issued u
  obtain ⟨programs, disarmed, control⟩ := control_releaseShares (Event.of u)
  have absent := releaseDone_taken (s := u) (by rw [hu]; exact ht)
  rw [← hu]
  unfold releaseEvent
  rw [← hx] at returning brief hw control absent ⊢
  have ports : ∀ p, _ := fun p => release_port (brief p)
  subst hu
  refine ⟨absent, rfl, (congrArg Control.lo control).trans hlo, congrArg Control.hi control, returning.mask, returning.flags, rfl,
    fun a => ?_, congrArg Control.cell control, returning.budget, fun n => ?_, fun p => ?_, fun p hp => ?_, fun i => ?_, ?_, ?_, ?_,
    fun shown hs w' hw' => ?_⟩
  · exact (congrArg (fun v => Vector.get v (Area.index a)) returning.areas).trans
      (by simp [releaseBegun, emptyBudget, Vector.get_eq_getElem])
  · exact (get_map _ _ n).trans (congrArg (fun v => Slot.release (Vector.get v n)) returning.slots)
  · have released : (lastingRelease (releaseDone x)).ports.get p = (x.port p).release := get_map _ _ p
    rw [released]
    exact (ports p).1
  · have released : (lastingRelease (releaseDone x)).ports.get p = (x.port p).release := get_map _ _ p
    rw [released]
    exact (ports p).2 hp
  · have kept : x.trigger.programs = programs := congrArg Control.programs control
    exact (congrArg (fun v => (Vector.get v i).state) kept).trans (disarmed i)
  · exact congrArg (fun n => { Pool.reset with handErrors := n }) returning.handErrors
  · exact congrArg FaultUnit.stopLatch returning.faults
  · exact congrArg FaultUnit.log returning.faults
  · have drop : w' = w := by
      rw [hw', show (lastingRelease (releaseDone x)).traffic = s.traffic ++ w from hw]
      simp
    subst hs drop
    refine ⟨hw, hshown, fun m hm => ?_⟩
    obtain hm | ⟨l, b, y, hl, hy, ha, hm⟩ := honly m hm
    · exact .inl hm
    · exact .inr ⟨l, hl, (y, b), List.mk_mem_zipIdx_iff_getElem?.mpr hy, ha, hm⟩

end Sys2Proof.Machine

namespace Sys2Proof.Machine

/-! ## Resets (R182 to R184) -/

@[simp] theorem reset_slot (n : SlotNo) : State.reset.slots.get n = Slot.reset := by simp [State.reset, Vector.get_eq_getElem]

/-- A part held in reset shows IDENT, and zero for every other register (R1, R182). -/
theorem registerValue_held {s : State} (h : s.resetHeld = true) {o : Nat} (ho : o ≠ 0) : registerValue o s = 0 := by
  unfold registerValue
  rw [h]
  split <;> simp_all

/-- A part that is unpowered or held in a line reset keeps its state through every command but the resets (log 29). -/
theorem exec_not_live {c : Instr} {s : State} (h : live s = false) (hon : ∀ a b d, c ≠ .powerOnReset a b d)
    (hoff : c ≠ .supplyLoss) (hp : s.powered = true →
      c ≠ .lineReset ∧ (∀ a b d, c ≠ .lineResetRelease a b d) ∧ ∀ a b, c ≠ .pcieConfigurationWrite a b) :
    exec c s = .next s := by
  cases c with
  | powerOnReset a b d => exact absurd rfl (hon a b d)
  | supplyLoss => exact absurd rfl hoff
  | lineReset => exact congrArg _ (if_neg fun hx => (hp hx).1 rfl)
  | lineResetRelease a b d => exact congrArg _ (if_neg fun hx => (hp (by simp_all)).2.1 a b d rfl)
  | pcieConfigurationWrite a b => exact congrArg _ (if_neg fun hx => (hp hx).2.2 a b rfl)
  | _ => exact act_held h

/-! ## The take (R3, R4) -/

/-- The state in which a take that succeeds writes the page (R4). -/
def State.begunPage (s : State) : State := { s with
  slots := s.slots.map fun x => { x with takenHand := 0, answerCount := 0 }
  ports := s.ports.map fun q => { q with take := TakeReport.reset, reportCount := 0 }
  pool := { s.pool with handErrors := 0 }
  faults := { s.faults with logFull := 0, dropped := 0 }
  page := { s.page with taken := .held, headerReadBy := none, readErrors := 0, headerCount := 0
                        mirrorCounts := Vector.replicate 16 0 }
  cell := { s.cell with take := TakeReport.reset, mode := .configure, cause := some .pageTake } }

/-- The mirror records of a log's records, in ascending number. -/
def mirrored (log : List BreakRec) : List (Fin 16) := allNumbers.filter fun n => log.any fun r => r.number == n.val

theorem nodup_mirrored (log : List BreakRec) : (mirrored log).Nodup := (List.nodup_finRange 16).filter _

/-- The state after it (R4, R18). -/
def State.takenPage (s : State) : State := { s.begunPage with
  page := { s.begunPage.page with
    headerCount := 2, attention := s.page.attention ||| flagCell
    mirrorCounts := Vector.ofFn fun n : Fin 16 => if s.faults.log.any (fun r => r.number == n.val) then 2 else 0 }
  traffic := s.traffic ++ areaWrites (s.page.addr + 0x40) 0 (headerBody s.begunPage) ++
    allNumbers.map (fun n => .write (s.page.addr + BitVec.ofNat 64 (0x3500 + n.val * 0x40)) (List.replicate 64 0)) ++
    (mirrored s.faults.log).flatMap (mirrorWrites s.page.addr 0 s.faults.log) ++
    s.risen (s.page.attention ||| flagCell) s.page.mask }

theorem forNumbers_zeroMirror (ns : List (Fin 16)) (e : Event) : forNumbers ns zeroMirror e = { e with
    traffic := e.traffic ++ ns.map fun n => .write (mirrorAddr n e.toState) (List.replicate 64 0) } := by
  unfold forNumbers
  induction ns generalizing e with
  | nil => simp
  | cons n ns ih =>
    rw [List.foldl_cons, ih]
    simp [zeroMirror, issue, mirrorAddr]

theorem writeMirror_held {e : Event} (h : e.page.taken = .held) (n : Fin 16) : writeMirror n e = { e with
    page := { e.page with mirrorCounts := putAt e.page.mirrorCounts n (e.page.mirrorCounts.get n + 2) }
    traffic := e.traffic ++ mirrorWrites e.page.addr (e.page.mirrorCounts.get n) e.faults.log n } := by
  unfold writeMirror
  rw [if_pos (by simp [held, h])]
  dsimp only
  rw [rewriteArea_eq]
  rfl

/-- Mirror records written for the first time since the take, one after the other. -/
theorem forNumbers_writeMirror {ns : List (Fin 16)} (hns : ns.Nodup) {e : Event} (h : e.page.taken = .held)
    (hc : ∀ n ∈ ns, e.page.mirrorCounts.get n = 0) : forNumbers ns writeMirror e = { e with
      page := { e.page with mirrorCounts := ns.foldl (fun v n => putAt v n 2) e.page.mirrorCounts }
      traffic := e.traffic ++ ns.flatMap (mirrorWrites e.page.addr 0 e.faults.log) } := by
  induction ns generalizing e with
  | nil => simp [forNumbers]
  | cons n ns ih =>
    obtain ⟨hn, hns⟩ := List.nodup_cons.mp hns
    have first : e.page.mirrorCounts.get n = 0 := hc n (by simp)
    have rest : ∀ m ∈ ns, (putAt e.page.mirrorCounts n 2).get m = 0 := fun m hm => by
      have hmn : m ≠ n := fun hmn => hn (hmn ▸ hm)
      rw [get_putAt_ne _ _ _ _ hmn]
      exact hc m (by simp [hm])
    change forNumbers ns writeMirror (writeMirror n e) = _
    rw [writeMirror_held h, first, ih hns (by exact h) (by exact rest)]
    simp

theorem foldl_putAt_get {α : Type} {n : Nat} (x : α) (is : List (Fin n)) (v : Vector α n) (i : Fin n) :
    (is.foldl (fun v j => putAt v j x) v).get i = if i ∈ is then x else v.get i := by
  induction is generalizing v with
  | nil => simp
  | cons j is ih =>
    rw [List.foldl_cons, ih]
    by_cases hj : i = j
    · subst hj; simp
    · simp [hj, get_putAt_ne _ _ _ _ hj]

theorem takePage_eq (s : State) : takePage (Event.of s) = Event.of s.takenPage := by
  have counts : (mirrored s.faults.log).foldl (fun v n => putAt v n 2) (Vector.replicate 16 (0 : Word)) =
      Vector.ofFn fun n : Fin 16 => if s.faults.log.any (fun r => r.number == n.val) then 2 else 0 := by
    refine vector_ext_get fun i => ?_
    rw [foldl_putAt_get]
    simp [mirrored, allNumbers, Vector.get_eq_getElem]
  have written : forNumbers allNumbers zeroMirror (writeHeader (Event.of s.begunPage)) = Event.of { s.begunPage with
      page := { s.begunPage.page with headerCount := 2 }
      traffic := s.traffic ++ areaWrites (s.page.addr + 0x40) 0 (headerBody s.begunPage) ++
        allNumbers.map fun n => .write (s.page.addr + BitVec.ofNat 64 (0x3500 + n.val * 0x40)) (List.replicate 64 0) } := by
    rw [writeHeader_held (by rfl), forNumbers_zeroMirror]
    rfl
  change attend flagCell (forNumbers (allNumbers.filter fun n =>
    (forNumbers allNumbers zeroMirror (writeHeader (Event.of s.begunPage))).faults.log.any fun r => r.number == n.val) writeMirror
    (forNumbers allNumbers zeroMirror (writeHeader (Event.of s.begunPage)))) = _
  rw [written]
  change attend flagCell (forNumbers (mirrored s.faults.log) writeMirror _) = _
  rw [forNumbers_writeMirror (nodup_mirrored _) (by rfl) fun n _ => by simp [Event.of, State.begunPage, Vector.get_eq_getElem],
    attend_held (by rfl), raiseFlags_eq]
  unfold State.takenPage
  rw [← counts]
  rfl

end Sys2Proof.Machine

namespace Sys2Proof.Machine

/-! ## The pair and a release

A release does not look at PAGE_LO and PAGE_HI: with another pair it does the same, and leaves that pair. -/

/-- The event with another pair in PAGE_HI and PAGE_LO. -/
def paired (lo hi : Word) (e : Event) : Event := { e with page := { e.page with lo := lo, hi := hi } }

section
variable (lo hi : Word)

theorem paired_touch (p : Port) (e : Event) : touch p (paired lo hi e) = paired lo hi (touch p e) := by
  unfold touch
  rw [apply_ite (paired lo hi)]
  rfl

theorem paired_tellProbe (p : Port) (e : Event) : tellProbe p (paired lo hi e) = paired lo hi (tellProbe p e) := by
  unfold tellProbe
  rw [apply_ite (paired lo hi)]
  rfl

theorem paired_setPower (p : Port) (st : PowerState) (e : Event) :
    setPower p st (paired lo hi e) = paired lo hi (setPower p st e) := by
  unfold setPower
  rw [apply_ite (paired lo hi), ← paired_tellProbe, ← paired_touch]
  rfl

theorem paired_setLink (p : Port) (st : LinkState) (e : Event) :
    setLink p st (paired lo hi e) = paired lo hi (setLink p st e) := by
  unfold setLink
  rw [apply_ite (paired lo hi), ← paired_tellProbe, ← paired_touch]
  rfl

theorem paired_setLens (p : Port) (st : LensState) (e : Event) :
    setLens p st (paired lo hi e) = paired lo hi (setLens p st e) := by
  unfold setLens
  rw [apply_ite (paired lo hi), ← paired_touch]
  rfl

theorem paired_writeBuffer (b : Nat) (e : Event) : writeBuffer b (paired lo hi e) = paired lo hi (writeBuffer b e) := by
  cases hl : e.pool.layout with
  | none => rw [writeBuffer_bare hl, writeBuffer_bare (by exact hl)]
  | some l =>
    unfold writeBuffer
    cases hx : e.pool.entries[b]? with
    | none => simp [paired, hl, hx]
    | some x => simp only [paired, hl, hx]; rfl

theorem paired_raiseFlags (bits : BitVec 14) (e : Event) : raiseFlags bits (paired lo hi e) = paired lo hi (raiseFlags bits e) := by
  rw [raiseFlags_eq, raiseFlags_eq]
  rfl

theorem paired_countDelivery (x : Entry) (e : Event) : countDelivery x (paired lo hi e) = paired lo hi (countDelivery x e) := by
  unfold countDelivery
  split <;> rfl

theorem paired_modEntry (b : Nat) (f : Entry → Entry) (e : Event) :
    modEntry b f (paired lo hi e) = paired lo hi (modEntry b f e) := rfl

theorem paired_deliver (b : Nat) (o : FrameOutcome) (e : Event) : deliver b o (paired lo hi e) = paired lo hi (deliver b o e) := by
  have entry : (paired lo hi e).pool.entries[b]? = e.pool.entries[b]? := rfl
  unfold deliver
  rw [entry]
  split
  · rfl
  · rw [paired_modEntry, paired_writeBuffer, paired_raiseFlags, paired_countDelivery]

theorem paired_returnGiven (b : Nat) (e : Event) : returnGiven b (paired lo hi e) = paired lo hi (returnGiven b e) := by
  have entry : (paired lo hi e).pool.entries[b]? = e.pool.entries[b]? := rfl
  unfold returnGiven
  rw [entry]
  split
  · rw [paired_modEntry, paired_writeBuffer, apply_ite (paired lo hi)]
  · rfl

theorem paired_loseFrame (p : Port) (b : Nat) (e : Event) : loseFrame p b (paired lo hi e) = paired lo hi (loseFrame p b e) := by
  have entry : (paired lo hi e).pool.entries[b]? = e.pool.entries[b]? := rfl
  unfold loseFrame
  rw [entry]
  (repeat' split) <;> simp only [paired_deliver, paired_returnGiven]

theorem paired_poolShare (b : Nat) (e : Event) : poolShare b (paired lo hi e) = paired lo hi (poolShare b e) := by
  have entry : (paired lo hi e).pool.entries[b]? = e.pool.entries[b]? := rfl
  unfold poolShare
  rw [entry]
  (repeat' split) <;> simp only [paired_deliver, paired_returnGiven]

theorem paired_foldl {α : Type} (xs : List α) (f : Event → α → Event) (e : Event)
    (h : ∀ x a, f (paired lo hi x) a = paired lo hi (f x a)) : xs.foldl f (paired lo hi e) = paired lo hi (xs.foldl f e) := by
  induction xs generalizing e with
  | nil => rfl
  | cons a xs ih => rw [List.foldl_cons, h, ih, List.foldl_cons]

theorem paired_forEntries (f : Nat → Event → Event) (e : Event) (h : ∀ b x, f b (paired lo hi x) = paired lo hi (f b x)) :
    forEntries f (paired lo hi e) = paired lo hi (forEntries f e) := paired_foldl lo hi _ _ e fun x b => h b x

theorem paired_tellIfDrained (p : Port) (e : Event) : tellIfDrained p (paired lo hi e) = paired lo hi (tellIfDrained p e) := by
  unfold tellIfDrained
  rw [apply_ite (paired lo hi)]
  rfl

theorem paired_sweepSpoiled (p : Port) (e : Event) : sweepSpoiled p (paired lo hi e) = paired lo hi (sweepSpoiled p e) := by
  have port : (paired lo hi e).port p = e.port p := rfl
  have entries : (paired lo hi e).pool.entries = e.pool.entries := rfl
  unfold sweepSpoiled
  rw [port, entries]
  (repeat' split) <;> rfl

theorem paired_spoilFrames (p : Port) (e : Event) : spoilFrames p (paired lo hi e) = paired lo hi (spoilFrames p e) := by
  have flying : ∀ x : Event, inFlight p (paired lo hi x).toState = inFlight p x.toState := fun _ => rfl
  unfold spoilFrames loseFrames
  rw [paired_sweepSpoiled, flying]
  dsimp only
  rw [paired_forEntries _ _ _ _ (paired_loseFrame lo hi p), paired_tellIfDrained, apply_ite (paired lo hi)]

theorem paired_linkDark (p : Port) (e : Event) : linkDark p (paired lo hi e) = paired lo hi (linkDark p e) := by
  unfold linkDark
  rw [apply_ite (paired lo hi), ← paired_spoilFrames, ← paired_setLink]
  rfl

theorem paired_darkened (p : Port) (e : Event) : darkened p (paired lo hi e) = paired lo hi (darkened p e) := by
  unfold darkened
  rw [← paired_linkDark, ← paired_setPower]
  rfl

theorem paired_leaveRetry (p : Port) (e : Event) : leaveRetry p (paired lo hi e) = paired lo hi (leaveRetry p e) := by
  unfold leaveRetry
  rw [← paired_setPower]
  rfl

end

section
variable (lo hi : Word) {s : State} {e : Event}

theorem Returning.paired (h : Returning s e) : Returning s (Machine.paired lo hi e) := h.of_ledger rfl

/-- A removal of power in a release, with no budget in force (R78). -/
theorem paired_removePower (h : Returning s e) (p : Port) :
    removePower p .release .off (paired lo hi e) = paired lo hi (removePower p .release .off e) := by
  rw [removePower_release_eq h, removePower_release_eq (h.paired lo hi), paired_darkened, ← paired_setLens]
  rfl

theorem paired_powerDown (h : Returning s e) (p : Port) :
    powerDown .release p (paired lo hi e) = paired lo hi (powerDown .release p e) := by
  have forgotten : Returning s (modPower p (fun w => { w with owed := false }) e) := h.of_ledger (by simp)
  have same : modPower p (fun w => { w with owed := false }) (paired lo hi e) =
      paired lo hi (modPower p (fun w => { w with owed := false }) e) := rfl
  have port : (paired lo hi e).port p = e.port p := rfl
  unfold powerDown
  dsimp only
  rw [same, port, paired_removePower lo hi forgotten, paired_leaveRetry]
  (repeat' split) <;> rfl

theorem paired_forPorts_powerDown (ps : List Port) (h : Returning s e) :
    forPorts ps (powerDown .release) (paired lo hi e) = paired lo hi (forPorts ps (powerDown .release) e) := by
  induction ps generalizing e with
  | nil => rfl
  | cons p ps ih =>
    change forPorts ps (powerDown .release) (powerDown .release p (paired lo hi e)) = _
    rw [paired_powerDown lo hi h, ih (powerDown_release h p).1]
    rfl

end

theorem paired_disarmAll (lo hi : Word) (e : Event) : disarmAll (paired lo hi e) = paired lo hi (disarmAll e) :=
  paired_foldl lo hi _ _ e fun _ _ => rfl

/-- A release with another pair (R2, R5). -/
theorem paired_releaseShares (lo hi : Word) (e : Event) :
    releaseShares (paired lo hi e) = paired lo hi (releaseShares e) := by
  have begun : Returning (releaseBegun e).toState (releaseBegun e) := (Returning.refl rfl).of_ledger rfl
  have same : releaseBegun (paired lo hi e) = paired lo hi (releaseBegun e) := rfl
  have dropped : ∀ x : Event, dropClaims (paired lo hi x) = paired lo hi (dropClaims x) := fun _ => rfl
  unfold releaseShares
  rw [same, paired_forPorts_powerDown lo hi _ begun, paired_disarmAll, dropped,
    paired_forEntries _ _ _ _ (paired_poolShare lo hi)]

theorem paired_releaseDone (lo hi : Word) (e : Event) : releaseDone (paired lo hi e) = paired lo hi (releaseDone e) := rfl

end Sys2Proof.Machine

namespace Sys2Proof.Machine

/-! ## PAGE_TAKE of a HELD page (R2; log 11) -/

/-- The release that a PAGE_TAKE of a HELD page makes first, but for the pair. -/
def releasedPage (s : State) : Event :=
  releaseDone (releaseShares (Event.of { s with page := { s.page with lo := 0, hi := 0 } }))

theorem control_releasedPage (s : State) : (releasedPage s).clock = s.clock ∧ (releasedPage s).page.releasing = s.page.releasing := by
  obtain ⟨programs, _, control⟩ := control_releaseShares (Event.of { s with page := { s.page with lo := 0, hi := 0 } })
  unfold releasedPage
  generalize releaseShares (Event.of { s with page := { s.page with lo := 0, hi := 0 } }) = x at control ⊢
  exact ⟨congrArg Control.clock control, congrArg Control.releasing control⟩

/-- The same release as PAGE_RELEASE's, and the take of the pair after it. -/
theorem writePageHi_held {hi : Word} {a : Addr} {s : State} (ht : s.page.taken = .held) (hr : s.page.releasing = false)
    (ha : a = hi ++ s.page.lo) (hne : a ≠ 0) :
    writePageHi hi (Event.of s) = startTake a (paired s.page.lo hi (releasedPage s)) := by
  subst ha
  have pairing : Event.of { s with page := { s.page with hi := hi } } =
      paired s.page.lo hi (Event.of { s with page := { s.page with lo := 0, hi := 0 } }) := rfl
  rw [writePageHi_acts hi hr, actOnPair_taken (by exact hne) (by simp [Event.of, ht]), releasePage_held (by exact ht), pairing,
    paired_releaseShares, paired_releaseDone]
  rfl

theorem Still.paired {e : Event} (h : Still e) (lo hi : Word) : Still (paired lo hi e) :=
  ⟨h.queue, h.sweep, h.probe, h.lens, h.owed⟩

/-- A take leaves the ports as they are. -/
theorem Still.startTake {e : Event} (h : Still e) (a : Addr) : Still (startTake a e) ∧ (Machine.startTake a e).page.taken ≠ .held := by
  by_cases ha : a &&& 0xFFF = 0
  · rw [startTake_aligned ha]
    exact ⟨⟨h.queue, h.sweep, h.probe, h.lens, h.owed⟩, by simp⟩
  · rw [startTake_unaligned ha, failTake_eq]
    exact ⟨⟨h.queue, h.sweep, h.probe, h.lens, h.owed⟩, by simp⟩

theorem exec_pageTake_held {hi : Word} {a : Addr} {s : State} (h : live s = true) (ht : s.page.taken = .held)
    (hr : s.page.releasing = false) (ha : a = hi ++ s.page.lo) (hne : a ≠ 0) :
    exec (.pageTake hi) s = .next (startTake a (paired s.page.lo hi (releasedPage s))).toState := by
  have released : Still (releasedPage s) := still_releaseDone _
  obtain ⟨still, absent⟩ := (released.paired s.page.lo hi).startTake a
  exact act_still h (writePageHi_held ht hr ha hne) still absent

/-- PAGE_RELEASE itself, with PAGE_LO zero. -/
theorem exec_pageRelease_zero {s : State} (h : live s = true) (ht : s.page.taken = .held) (hr : s.page.releasing = false) :
    exec .pageRelease { s with page := { s.page with lo := 0 } } = .next (lastingRelease (releasedPage s)).toState :=
  exec_pageRelease_held (s := { s with page := { s.page with lo := 0 } }) h ht hr rfl

/-! ## The header read (R2 to R4) -/

theorem exec_pageHeaderReadComplete_taken {s : State} (h : live s = true) (ht : s.page.taken = .taking) :
    exec (.pageHeaderReadComplete ⟨s.reads.header, some (0x4B573843, 1)⟩) s = .next s.takenPage := by
  refine act_plain h ((if_pos ⟨ht, answers_self .header s⟩).trans ?_)
  exact (if_pos rfl).trans (takePage_eq s)

/-- The state once a take has failed (R3). -/
def State.failedTake (s : State) : State := { s with
  page := { s.page with taken := .absent, headerReadBy := none, attention := s.page.attention ||| flagPage }
  traffic := s.traffic ++ s.risen (s.page.attention ||| flagPage) s.page.mask }

theorem failTake_of (s : State) : failTake (Event.of s) = Event.of s.failedTake := failTake_eq _

theorem exec_pageHeaderReadComplete_failed {r : Option (Word × Word)} {s : State} (h : live s = true) (ht : s.page.taken = .taking)
    (hr : r ≠ some (0x4B573843, 1)) : exec (.pageHeaderReadComplete ⟨s.reads.header, r⟩) s = .next s.failedTake := by
  refine act_plain h ((if_pos ⟨ht, answers_self .header s⟩).trans ?_)
  exact (if_neg hr).trans (failTake_of s)

theorem exec_pageHeaderReadTimeout_failed {s : State} (h : live s = true) (ht : s.page.taken = .taking)
    (hd : due s.page.headerReadBy s = true) : exec .pageHeaderReadTimeout s = .next s.failedTake :=
  act_plain h ((if_pos ⟨ht, hd⟩).trans (failTake_of s))

/-- Any other completion is discarded (R2; log 42). -/
theorem exec_pageHeaderReadComplete_discarded {k : Nat} {r : Option (Word × Word)} {s : State}
    (h : s.page.taken ≠ .taking ∨ k ≠ s.reads.header) : exec (.pageHeaderReadComplete ⟨k, r⟩) s = .next s := by
  refine act_idle (if_neg fun hx => ?_)
  obtain ⟨ht, ha⟩ := hx
  obtain hn | hk := h
  · exact hn ht
  · rw [answers_ne (by exact hk)] at ha
    simp at ha

theorem exec_pageHeaderReadTimeout_discarded {s : State}
    (h : s.page.taken ≠ .taking ∨ due s.page.headerReadBy s = false) : exec .pageHeaderReadTimeout s = .next s := by
  refine act_idle (if_neg fun hx => ?_)
  obtain ⟨ht, hd⟩ := hx
  obtain hn | hf := h
  · exact hn ht
  · rw [show due (Event.of s).page.headerReadBy (Event.of s).toState = false from hf] at hd
    simp at hd

/-! ## PAGE_RELEASE_END (R2) -/

/-- A zero pair that waited releases again: nothing is HELD (R2, R5). -/
theorem exec_pageReleaseEnd_zero {s : State} (h : live s = true) (hr : s.page.releasing = true) (hw : s.page.hiOwed = true)
    (ht : s.page.taken = .absent) (hz : pagePair s = 0) : exec .pageReleaseEnd s = .next { s with page := { s.page with
      releasing := false, hiOwed := false, headerReadBy := none, attention := s.page.attention &&& flagPage
      service := .closed } } := by
  refine exec_pageReleaseEnd_waiting h hr hw ?_
  have absent : s.releaseEnded.page.taken ≠ .held := by simp [State.releaseEnded, ht]
  have ended : ((Event.of s.releaseEnded).page.taken == .held) = false := by simpa [Event.of] using absent
  rw [actOnPair_zero (by exact hz), releasePage_absent (by exact absent), ended, ← ht]
  rfl

/-- An unaligned one fails at once (R2, R3). -/
theorem exec_pageReleaseEnd_unaligned {s : State} (h : live s = true) (hr : s.page.releasing = true) (hw : s.page.hiOwed = true)
    (ht : s.page.taken = .absent) (ha : pagePair s &&& 0xFFF ≠ 0) : exec .pageReleaseEnd s = .next { s with
      page := { s.page with
        releasing := false, hiOwed := false, headerReadBy := none, attention := s.page.attention ||| flagPage }
      traffic := s.traffic ++ s.risen (s.page.attention ||| flagPage) s.page.mask } := by
  refine exec_pageReleaseEnd_waiting h hr hw ?_
  have hne : pagePair s ≠ 0 := fun hz => ha (by rw [hz]; decide)
  rw [actOnPair_absent (by exact hne) (by exact ht), of_state, pagePair_releaseEnded, startTake_unaligned ha, failTake_of]
  unfold State.failedTake
  rw [← ht]
  rfl

/-- Settles O4: a take of a HELD page is the release with another pair and the take after it. -/
theorem resetsAndTakes : Obligations.ResetsAndTakes := by
  unfold Obligations.ResetsAndTakes
  refine ⟨⟨fun enc trig motion s => ?_, fun s hp => ?_, fun enc trig motion s hp hr => ?_, fun s => ?_,
      fun on v s hp => congrArg _ (if_pos hp), fun c s h hon hoff hp => exec_not_live h hon hoff hp⟩,
    ⟨fun s h ht => ?_, fun c s h ht hc => ?_, fun k r s h hk => exec_pageHeaderReadComplete_discarded hk,
      fun s h hd => exec_pageHeaderReadTimeout_discarded hd⟩,
    fun hi s h ht hr a ha hne => ?_,
    fun s h hr hw ht => ⟨exec_pageReleaseEnd_zero h hr hw ht, exec_pageReleaseEnd_unaligned h hr hw ht⟩⟩
  · exact ⟨_, rfl, rfl, rfl, rfl, rfl, rfl, rfl, reset_slot, rfl, rfl, reset_port, rfl, rfl, rfl, rfl, rfl, rfl, rfl, rfl⟩
  · exact ⟨lineResetState s, congrArg _ (if_pos hp), rfl, rfl, rfl, rfl, rfl, rfl, reset_slot, rfl, rfl, get_map _ _, rfl, rfl,
      rfl, rfl, rfl, rfl, rfl, rfl, rfl, fun _ ho => registerValue_held rfl ho⟩
  · exact congrArg _ (if_pos (by simp [hp, hr]))
  · exact ⟨_, rfl, rfl, rfl, rfl, rfl, rfl⟩
  · exact ⟨_, exec_pageHeaderReadComplete_taken h ht, rfl, rfl, get_map _ _, get_map _ _, rfl, rfl, rfl, rfl⟩
  · obtain ⟨r, rfl, hr⟩ | ⟨rfl, hd⟩ := hc
    · exact exec_pageHeaderReadComplete_failed h ht hr
    · exact exec_pageHeaderReadTimeout_failed h ht hd
  · obtain ⟨clock, releasing⟩ := control_releasedPage s
    refine ⟨_, exec_pageRelease_zero h ht hr, fun hal => ?_, fun hal => ?_⟩
    all_goals
      rw [exec_pageTake_held h ht hr ha hne]
      generalize releasedPage s = x at clock releasing
    · rw [startTake_aligned hal, ← clock, ← hr, ← releasing]
      rfl
    · rw [startTake_unaligned hal, failTake_eq, ← hr, ← releasing]
      rfl

end Sys2Proof.Machine

namespace Sys2Proof.Machine

/-! ## The copies

What a port holds of the host and of its cable: the Port Sheet copy with its take report, and the cable record. No block's work moves
them. -/

/-- What a port holds of the host and of its cable. -/
structure Copy where
  sheet : Option PortSheet
  take : TakeReport
  cable : CableRec

def PortState.copy (q : PortState) : Copy := { sheet := q.sheet, take := q.take, cable := q.cable }

/-- The copies of all ports. -/
def copies (v : Vector PortState 8) : Vector Copy 8 := v.map PortState.copy

@[simp] theorem copies_modAt {p : Port} {f : PortState → PortState} (hs : ∀ q, (f q).sheet = q.sheet)
    (ht : ∀ q, (f q).take = q.take) (hc : ∀ q, (f q).cable = q.cable) (v : Vector PortState 8) :
    copies (modAt v p f) = copies v := by
  refine vector_ext_get fun q => ?_
  simp only [copies, get_map, get_modAt]
  split
  · next hq => subst hq; simp [PortState.copy, hs, ht, hc]
  · rfl

theorem copies_forPorts (ps : List Port) (f : Port → Event → Event) (e : Event)
    (h : ∀ p x, copies (f p x).ports = copies x.ports) : copies (forPorts ps f e).ports = copies e.ports := by
  unfold forPorts
  induction ps generalizing e with
  | nil => rfl
  | cons p ps ih => rw [List.foldl_cons, ih, h]

theorem copies_forEntries (f : Nat → Event → Event) (e : Event) (h : ∀ b x, copies (f b x).ports = copies x.ports) :
    copies (forEntries f e).ports = copies e.ports := by
  unfold forEntries
  generalize List.range e.pool.entries.length = bs
  induction bs generalizing e with
  | nil => rfl
  | cons b bs ih => rw [List.foldl_cons, ih, h]

@[simp] theorem copies_tell (t : Task) (e : Event) : copies (tell t e).ports = copies e.ports := rfl

@[simp] theorem copies_touch (p : Port) (e : Event) : copies (touch p e).ports = copies e.ports := by
  unfold touch
  split <;> rfl

@[simp] theorem copies_issue (t : Traffic) (e : Event) : copies (issue t e).ports = copies e.ports := rfl

@[simp] theorem copies_setArea (a : Area) (st : AreaState) (e : Event) : copies (setArea a st e).ports = copies e.ports := rfl

@[simp] theorem copies_rewriteArea (a : Addr) (count : Word) (body : List Byte) (e : Event) :
    copies (rewriteArea a count body e).ports = copies e.ports := rfl

@[simp] theorem copies_message (e : Event) : copies (message e).ports = copies e.ports := by
  unfold message
  split <;> simp

@[simp] theorem copies_setAttention (flags mask : BitVec 14) (e : Event) :
    copies (setAttention flags mask e).ports = copies e.ports := by
  unfold setAttention
  split <;> simp

@[simp] theorem copies_raiseFlags (bits : BitVec 14) (e : Event) : copies (raiseFlags bits e).ports = copies e.ports := by
  simp [raiseFlags]

@[simp] theorem copies_attend (bits : BitVec 14) (e : Event) : copies (attend bits e).ports = copies e.ports := by
  unfold attend
  split <;> simp

@[simp] theorem copies_notice (a : Area) (e : Event) : copies (notice a e).ports = copies e.ports := by
  unfold notice
  split <;> simp

@[simp] theorem copies_tellProbe (p : Port) (e : Event) : copies (tellProbe p e).ports = copies e.ports := by
  unfold tellProbe
  split <;> simp

@[simp] theorem copies_setPower (p : Port) (st : PowerState) (e : Event) : copies (setPower p st e).ports = copies e.ports := by
  unfold setPower
  split <;> simp

@[simp] theorem copies_setLink (p : Port) (st : LinkState) (e : Event) : copies (setLink p st e).ports = copies e.ports := by
  unfold setLink
  split <;> simp

@[simp] theorem copies_setLens (p : Port) (st : LensState) (e : Event) : copies (setLens p st e).ports = copies e.ports := by
  unfold setLens
  split <;> simp

@[simp] theorem copies_give (p : Port) (k : Packet) (e : Event) : copies (give p k e).ports = copies e.ports := by
  unfold give
  split <;> simp

@[simp] theorem copies_writeHeader (e : Event) : copies (writeHeader e).ports = copies e.ports := by
  unfold writeHeader
  split <;> simp

@[simp] theorem copies_writePortReport (p : Port) (e : Event) : copies (writePortReport p e).ports = copies e.ports := by
  unfold writePortReport
  split <;> simp

@[simp] theorem copies_reportPort (p : Port) (e : Event) : copies (reportPort p e).ports = copies e.ports := by
  simp [reportPort]

@[simp] theorem copies_writeAnswer (n : SlotNo) (e : Event) : copies (writeAnswer n e).ports = copies e.ports := by
  unfold writeAnswer
  split <;> simp

@[simp] theorem copies_writeBuffer (b : Nat) (e : Event) : copies (writeBuffer b e).ports = copies e.ports := by
  unfold writeBuffer
  split <;> simp

@[simp] theorem copies_stage (p : Port) (w : Axes) (by' : Server) (e : Event) : copies (stage p w by' e).ports = copies e.ports := by
  simp [stage]

@[simp] theorem copies_settleLens (p : Port) (e : Event) : copies (settleLens p e).ports = copies e.ports := by
  unfold settleLens
  dsimp only
  (repeat' split) <;> simp

@[simp] theorem copies_lensGranted (p : Port) (e : Event) : copies (lensGranted p e).ports = copies e.ports := by
  unfold lensGranted
  dsimp only
  (repeat' split) <;> simp

@[simp] theorem copies_takeStage (e : Event) : copies (takeStage e).ports = copies e.ports := by
  unfold takeStage
  split <;> simp

@[simp] theorem copies_leaveInrush (p : Port) (e : Event) : copies (leaveInrush p e).ports = copies e.ports := rfl

@[simp] theorem copies_withdraw (p : Port) (k : ClaimKind) (e : Event) : copies (withdraw p k e).ports = copies e.ports := rfl

@[simp] theorem copies_withdrawAll (p : Port) (e : Event) : copies (withdrawAll p e).ports = copies e.ports := rfl

@[simp] theorem copies_grant (c : PowerClaim) (e : Event) : copies (grant c e).ports = copies e.ports := by
  unfold grant
  split <;> simp

@[simp] theorem copies_walk (e : Event) : copies (walk e).ports = copies e.ports := by
  have walked : ∀ (n : Nat) (x : Event), copies (walkUpTo n x).ports = copies x.ports := by
    intro n
    induction n with
    | zero => exact fun _ => rfl
    | succ n ih =>
      intro x
      unfold walkUpTo
      split
      · rfl
      · rw [ih, copies_grant]
  exact walked _ e

@[simp] theorem copies_arrive (c : PowerClaim) (e : Event) : copies (arrive c e).ports = copies e.ports := by
  unfold arrive
  split <;> simp

@[simp] theorem copies_releaseMotion (p : Port) (e : Event) : copies (releaseMotion p e).ports = copies e.ports := by
  unfold releaseMotion
  split <;> simp

@[simp] theorem copies_finishSlot (n : SlotNo) (st : SlotState) (r : Reason) (field : Nat) (results : List Byte) (e : Event) :
    copies (finishSlot n st r field results e).ports = copies e.ports := by
  unfold finishSlot
  split <;> simp

@[simp] theorem copies_doneSlot (n : SlotNo) (results : List Byte) (e : Event) :
    copies (doneSlot n results e).ports = copies e.ports := by
  simp [doneSlot]

@[simp] theorem copies_refuseSlot (n : SlotNo) (r : Reason) (e : Event) : copies (refuseSlot n r e).ports = copies e.ports := by
  simp [refuseSlot]

@[simp] theorem copies_runSlot (n : SlotNo) (e : Event) : copies (runSlot n e).ports = copies e.ports := by
  simp [runSlot]

@[simp] theorem copies_removeHead (p : Port) (e : Event) : copies (removeHead p e).ports = copies e.ports := by
  simp [removeHead]

@[simp] theorem copies_endOrder (p : Port) (n : SlotNo) (st : SlotState) (r : Reason) (results : List Byte) (e : Event) :
    copies (endOrder p n st r results e).ports = copies e.ports := by
  simp [endOrder]

@[simp] theorem copies_appendProbe (p : Port) (e : Event) : copies (appendProbe p e).ports = copies e.ports := by
  unfold appendProbe
  split <;> simp

@[simp] theorem copies_reserve (b : Nat) (p : Port) (k : BufKind) (e : Event) : copies (reserve b p k e).ports = copies e.ports := by
  simp [reserve]

@[simp] theorem copies_countDelivery (x : Entry) (e : Event) : copies (countDelivery x e).ports = copies e.ports := by
  unfold countDelivery
  split <;> simp

@[simp] theorem copies_tellIfDrained (p : Port) (e : Event) : copies (tellIfDrained p e).ports = copies e.ports := by
  unfold tellIfDrained
  split <;> simp

@[simp] theorem copies_deliver (b : Nat) (o : FrameOutcome) (e : Event) : copies (deliver b o e).ports = copies e.ports := by
  unfold deliver
  split <;> simp

@[simp] theorem copies_returnGiven (b : Nat) (e : Event) : copies (returnGiven b e).ports = copies e.ports := by
  unfold returnGiven
  (repeat' split) <;> simp

@[simp] theorem copies_loseFrame (p : Port) (b : Nat) (e : Event) : copies (loseFrame p b e).ports = copies e.ports := by
  unfold loseFrame
  (repeat' split) <;> simp

@[simp] theorem copies_loseFrames (p : Port) (e : Event) : copies (loseFrames p e).ports = copies e.ports := by
  have lost := copies_forEntries (loseFrame p) e (copies_loseFrame p)
  unfold loseFrames
  dsimp only
  split <;> simp [lost]

@[simp] theorem copies_startCooldown (p : Port) (e : Event) : copies (startCooldown p e).ports = copies e.ports := by
  simp [startCooldown]

@[simp] theorem copies_markClaims (mine : Requester → Bool) (st : ClaimStatus) (e : Event) :
    copies (markClaims mine st e).ports = copies e.ports := rfl

@[simp] theorem copies_endSnap (p : Port) (st : SlotState) (why : Reason) (results : List Byte) (e : Event) :
    copies (endSnap p st why results e).ports = copies e.ports := by
  unfold endSnap
  split <;> simp

@[simp] theorem copies_loseSnap (p : Port) (why : Reason) (e : Event) : copies (loseSnap p why e).ports = copies e.ports := by
  unfold loseSnap
  split <;> simp

@[simp] theorem copies_modSweep (p : Port) (f : SweepRun → SweepRun) (e : Event) :
    copies (modSweep p f e).ports = copies e.ports := by
  simp [modSweep]

@[simp] theorem copies_recordStep (p : Port) (x : SweepStep) (e : Event) : copies (recordStep p x e).ports = copies e.ports := by
  simp [recordStep]

@[simp] theorem copies_releaseWants (p : Port) (e : Event) : copies (releaseWants p e).ports = copies e.ports := by
  unfold releaseWants
  dsimp only
  (repeat' split) <;> simp

@[simp] theorem copies_endSweep (p : Port) (st : SlotState) (why : Reason) (e : Event) :
    copies (endSweep p st why e).ports = copies e.ports := by
  unfold endSweep
  split <;> simp

@[simp] theorem copies_modProbe (p : Port) (f : ProbeRun → ProbeRun) (e : Event) :
    copies (modProbe p f e).ports = copies e.ports := by
  simp [modProbe]

@[simp] theorem copies_pathField (path : Option ProbePath) (e : Event) : copies (pathField path e).2.ports = copies e.ports := by
  unfold pathField
  split <;> simp

@[simp] theorem copies_resume (p : Port) (e : Event) : copies (resume p e).ports = copies e.ports := by
  unfold resume
  dsimp only
  (repeat' split) <;> simp

@[simp] theorem copies_deliverTrace (t : TraceClaim) (completed : Bool) (e : Event) :
    copies (deliverTrace t completed e).ports = copies e.ports := by
  unfold deliverTrace
  (repeat' split) <;> simp

@[simp] theorem copies_reportEnd (p : Port) (job : ProbeJob) (st : SlotState) (why : Reason) (results : List Byte) (e : Event) :
    copies (reportEnd p job st why results e).ports = copies e.ports := by
  unfold reportEnd
  split <;> simp

@[simp] theorem copies_abortProbe (p : Port) (st : SlotState) (why : Reason) (e : Event) :
    copies (abortProbe p st why e).ports = copies e.ports := by
  unfold abortProbe
  split
  · rfl
  · simp

@[simp] theorem copies_reclass (p : Port) (e : Event) : copies (reclass p e).ports = copies e.ports := by
  simp [reclass]

@[simp] theorem copies_loseLens (p : Port) (dark : Bool) (e : Event) : copies (loseLens p dark e).ports = copies e.ports := by
  simp [loseLens]

@[simp] theorem copies_emptyHistories (p : Port) (e : Event) : copies (emptyHistories p e).ports = copies e.ports := by
  simp [emptyHistories]

@[simp] theorem copies_sweepSpoiled (p : Port) (e : Event) : copies (sweepSpoiled p e).ports = copies e.ports := by
  unfold sweepSpoiled
  (repeat' split) <;> simp

@[simp] theorem copies_spoilFrames (p : Port) (e : Event) : copies (spoilFrames p e).ports = copies e.ports := by
  simp [spoilFrames]

@[simp] theorem copies_linkDark (p : Port) (e : Event) : copies (linkDark p e).ports = copies e.ports := by
  unfold linkDark
  split <;> simp

@[simp] theorem copies_cutProbe (p : Port) (e : Event) : copies (cutProbe p e).ports = copies e.ports := by
  unfold cutProbe
  (repeat' split) <;> simp

@[simp] theorem copies_cutOrders (p : Port) (e : Event) : copies (cutOrders p e).ports = copies e.ports := by
  simp [cutOrders]

@[simp] theorem copies_removePower (p : Port) (why : Removal) (target : PowerState) (e : Event) :
    copies (removePower p why target e).ports = copies e.ports := by
  unfold removePower
  dsimp only
  (repeat' split) <;> simp

@[simp] theorem copies_owe (p : Port) (e : Event) : copies (owe p e).ports = copies e.ports := by
  simp [owe]

@[simp] theorem copies_powerUp (p : Port) (e : Event) : copies (powerUp p e).ports = copies e.ports := by
  simp [powerUp]

@[simp] theorem copies_offerPowerUp (p : Port) (e : Event) : copies (offerPowerUp p e).ports = copies e.ports := by
  unfold offerPowerUp
  dsimp only
  (repeat' split) <;> simp

@[simp] theorem copies_enterStandby (p : Port) (e : Event) : copies (enterStandby p e).ports = copies e.ports := by
  simp [enterStandby]

@[simp] theorem copies_tryStandby (p : Port) (e : Event) : copies (tryStandby p e).ports = copies e.ports := by
  unfold tryStandby
  dsimp only
  (repeat' split) <;> simp

@[simp] theorem copies_tryWake (p : Port) (e : Event) : copies (tryWake p e).ports = copies e.ports := by
  unfold tryWake
  split <;> simp

@[simp] theorem copies_wantPowerOff (p : Port) (e : Event) : copies (wantPowerOff p e).ports = copies e.ports := by
  unfold wantPowerOff
  split <;> simp

@[simp] theorem copies_leaveRetry (p : Port) (e : Event) : copies (leaveRetry p e).ports = copies e.ports := by
  simp [leaveRetry]

@[simp] theorem copies_retryUp (p : Port) (e : Event) : copies (retryUp p e).ports = copies e.ports := by
  unfold retryUp
  split <;> simp

@[simp] theorem copies_releaseHeld (p : Port) (e : Event) : copies (releaseHeld p e).ports = copies e.ports := by
  unfold releaseHeld
  split <;> simp

@[simp] theorem copies_actOnWant (p : Port) (e : Event) : copies (actOnWant p e).ports = copies e.ports := by
  unfold actOnWant
  dsimp only
  (repeat' split) <;> simp

@[simp] theorem copies_skipReason (k : Skip) (e : Event) : copies (skipReason k e).2.ports = copies e.ports := by
  unfold skipReason
  split <;> simp

@[simp] theorem copies_snapSkipped (p : Port) (n : SlotNo) (k : Skip) (e : Event) :
    copies (snapSkipped p n k e).ports = copies e.ports := by
  unfold snapSkipped
  dsimp only
  (repeat' split) <;> simp

@[simp] theorem copies_sweepSkipped (p : Port) (n : SlotNo) (e : Event) : copies (sweepSkipped p n e).ports = copies e.ports := by
  unfold sweepSkipped
  (repeat' split) <;> simp

@[simp] theorem copies_skip (p : Port) (r : Requester) (k : Skip) (e : Event) : copies (skip p r k e).ports = copies e.ports := by
  unfold skip
  split <;> simp

@[simp] theorem copies_fired (p : Port) (r : Requester) (tag : Half) (b : Nat) (e : Event) :
    copies (fired p r tag b e).ports = copies e.ports := by
  unfold fired
  split <;> simp

@[simp] theorem copies_fire (p : Port) (r : Requester) (exposure b : Nat) (e : Event) :
    copies (fire p r exposure b e).ports = copies e.ports := by
  unfold fire
  dsimp only
  (repeat' split) <;> simp

@[simp] theorem copies_decideFire (p : Port) (r : Requester) (exposure : Nat) (e : Event) :
    copies (decideFire p r exposure e).ports = copies e.ports := by
  unfold decideFire
  (repeat' split) <;> simp

@[simp] theorem copies_takeTrace (b : Nat) (p : Port) (e : Event) : copies (takeTrace b p e).ports = copies e.ports := by
  simp [takeTrace]

@[simp] theorem copies_traceAnswer (p : Port) (t : TraceClaim) (e : Event) : copies (traceAnswer p t e).ports = copies e.ports := by
  simp [traceAnswer]

@[simp] theorem copies_claimTrace (p : Port) (e : Event) : copies (claimTrace p e).ports = copies e.ports := by
  unfold claimTrace
  split <;> simp

@[simp] theorem copies_claimMotion (p : Port) (e : Event) : copies (claimMotion p e).ports = copies e.ports := by
  simp [claimMotion]

@[simp] theorem copies_claimOnce (p : Port) (e : Event) : copies (claimOnce p e).ports = copies e.ports := by
  unfold claimOnce
  dsimp only
  (repeat' split) <;> simp

@[simp] theorem copies_lensTest (p : Port) (e : Event) : copies (lensTest p e).ports = copies e.ports := by
  unfold lensTest
  dsimp only
  (repeat' split) <;> simp

@[simp] theorem copies_unclaim (p : Port) (e : Event) : copies (unclaim p e).ports = copies e.ports := by
  simp [unclaim]

@[simp] theorem copies_rejudgeLens (p : Port) (e : Event) : copies (rejudgeLens p e).ports = copies e.ports := by
  unfold rejudgeLens
  dsimp only
  (repeat' split) <;> simp

@[simp] theorem copies_lensProbeBegins (p : Port) (e : Event) : copies (lensProbeBegins p e).ports = copies e.ports := by
  unfold lensProbeBegins
  split <;> simp

@[simp] theorem copies_takeWant (p : Port) (w : Axes) (e : Event) : copies (takeWant p w e).ports = copies e.ports := by
  unfold takeWant
  (repeat' split) <;> simp

@[simp] theorem copies_beginSweep (p : Port) (n : SlotNo) (params : SweepParams) (e : Event) :
    copies (beginSweep p n params e).ports = copies e.ports := by
  unfold beginSweep
  dsimp only
  (repeat' split) <;> simp

@[simp] theorem copies_fireStep (p : Port) (w : SweepRun) (e : Event) : copies (fireStep p w e).ports = copies e.ports := by
  simp [fireStep]

@[simp] theorem copies_stageFocus (p : Port) (target : Nat) (ph : SweepPhase) (e : Event) :
    copies (stageFocus p target ph e).ports = copies e.ports := by
  simp [stageFocus]

@[simp] theorem copies_concludeSweep (p : Port) (w : SweepRun) (e : Event) : copies (concludeSweep p w e).ports = copies e.ports := by
  unfold concludeSweep
  (repeat' split) <;> simp

@[simp] theorem copies_advanceSweep (p : Port) (e : Event) : copies (advanceSweep p e).ports = copies e.ports := by
  unfold advanceSweep
  dsimp only
  (repeat' split) <;> simp

@[simp] theorem copies_beginSnap (p : Port) (n : SlotNo) (exposure : Nat) (e : Event) :
    copies (beginSnap p n exposure e).ports = copies e.ports := by
  simp [beginSnap]

@[simp] theorem copies_beginCycle (p : Port) (n : SlotNo) (e : Event) : copies (beginCycle p n e).ports = copies e.ports := by
  unfold beginCycle
  dsimp only
  (repeat' split) <;> simp

@[simp] theorem copies_beginProbe (p : Port) (job : ProbeJob) (requireRef force : Bool) (e : Event) :
    copies (beginProbe p job requireRef force e).ports = copies e.ports := by
  unfold beginProbe
  dsimp only
  (repeat' split) <;> simp

@[simp] theorem copies_requestHush (p : Port) (e : Event) : copies (requestHush p e).ports = copies e.ports := by
  unfold requestHush
  split <;> simp

@[simp] theorem copies_drainTest (p : Port) (e : Event) : copies (drainTest p e).ports = copies e.ports := by
  unfold drainTest
  split <;> simp

@[simp] theorem copies_drainIfDraining (p : Port) (e : Event) : copies (drainIfDraining p e).ports = copies e.ports := by
  unfold drainIfDraining
  (repeat' split) <;> simp

@[simp] theorem copies_toClaiming (p : Port) (path : ProbePath) (e : Event) :
    copies (toClaiming p path e).ports = copies e.ports := by
  simp [toClaiming]

@[simp] theorem copies_classPort (p : Port) (e : Event) : copies (classPort p e).ports = copies e.ports := by
  unfold classPort
  dsimp only
  (repeat' split) <;> simp

@[simp] theorem copies_claimPhase (p : Port) (r : ProbeRun) (e : Event) : copies (claimPhase p r e).ports = copies e.ports := by
  unfold claimPhase
  (repeat' split) <;> simp

@[simp] theorem copies_advanceProbe (p : Port) (e : Event) : copies (advanceProbe p e).ports = copies e.ports := by
  unfold advanceProbe
  (repeat' split) <;> simp

@[simp] theorem copies_beginOrder (p : Port) (n : SlotNo) (o : Order) (e : Event) :
    copies (beginOrder p n o e).ports = copies e.ports := by
  unfold beginOrder
  (repeat' split) <;> simp

@[simp] theorem copies_beginHead (p : Port) (e : Event) : copies (beginHead p e).ports = copies e.ports := by
  unfold beginHead
  dsimp only
  (repeat' split) <;> simp

@[simp] theorem copies_actOnOwed (p : Port) (e : Event) : copies (actOnOwed p e).ports = copies e.ports := by
  unfold actOnOwed
  split <;> simp

@[simp] theorem copies_perform (t : Task) (e : Event) : copies (perform t e).ports = copies e.ports := by
  unfold perform
  split <;> simp

@[simp] theorem copies_drain (n : Nat) (e : Event) : copies (drain n e).ports = copies e.ports := by
  induction n generalizing e with
  | zero => rfl
  | succ n ih =>
    unfold drain
    split
    · rfl
    · rw [ih, copies_perform]

@[simp] theorem copies_finish (e : Event) : copies (finish e).ports = copies e.ports :=
  (copies_forPorts _ reportPort _ copies_reportPort).trans (copies_drain _ e)

end Sys2Proof.Machine

namespace Sys2Proof.Machine

/-! ## The Port Sheet (R26, R27) -/

@[simp] theorem copies_setupAtTake (p : Port) (e : Event) : copies (setupAtTake p e).ports = copies e.ports := by
  unfold setupAtTake
  split <;> simp

theorem get_copies (v : Vector PortState 8) (p : Port) : (copies v).get p = (v.get p).copy := get_map v _ p

/-- The end of a command's event leaves the copies as the event made them. -/
theorem copies_after (f : Event → Event) (s : State) : copies (after f s).ports = copies (f (Event.of s)).ports := copies_finish _

/-- A Port Sheet's take stores it; what it then has the blocks do leaves the copies alone. -/
theorem copies_takePortSheet (p : Port) (sheet : PortSheet) (e : Event) : copies (takePortSheet p sheet e).ports =
    copies (modAt e.ports p fun q => { q with sheet := some sheet, link := { q.link with cameraChanged := false } }) := by
  unfold takePortSheet
  dsimp only
  rw [copies_takeWant, copies_actOnWant, copies_releaseHeld, copies_setupAtTake]
  rfl

/-- A Port Sheet's sweep going on moves neither a port nor the cell, and marks no port. -/
theorem nextRecord_portSheet (p : Port) (e : Event) (ps : List Port) :
    nextRecord (.portSheet p) { e with touched := ps } = { nextRecord (.portSheet p) e with touched := ps } ∧
    (nextRecord (.portSheet p) e).ports = e.ports ∧ (nextRecord (.portSheet p) e).cell = e.cell := by
  unfold nextRecord
  dsimp only
  cases areaState (.portSheet p) e.toState with
  | sweeping again n d => dsimp only; split <;> exact ⟨rfl, rfl, rfl⟩
  | idle | pending => exact ⟨rfl, rfl, rfl⟩

/-- A new record that fails its check, spares or values is REFUSED, the copy kept, and port p reported (R26). -/
theorem exec_sweepRecordRead_portSheet_refused {p : Port} {bytes : List Byte} {n f : Nat} {r : Reason} {s : State}
    (h : live s = true) (ho : outstanding (.portSheet p) s = some n) (hnew : handOf 0x180 bytes ≠ (s.ports.get p).take.hand)
    (hj : judgePortSheet bytes = .error (r, f)) :
    exec (.sweepRecordRead (.portSheet p) ⟨readNumber (.area (.portSheet p)) s, bytes⟩) s =
      .next ((State.nextRead (.portSheet p) { s with ports := modAt s.ports p fun q => { q with
        take := { hand := handOf 0x180 bytes, verdict := .refused, reason := r, field := f } } }).reported [p]) := by
  refine act_port h ?_
  have dealt : dealPortSheet p bytes (Event.of s) = { Event.of { s with ports := modAt s.ports p fun q => { q with
      take := { hand := handOf 0x180 bytes, verdict := .refused, reason := r, field := f } } } with touched := [p] } := by
    refine (if_neg hnew).trans ?_
    rw [hj]
    rfl
  rw [completes_recordRead ho, afterRecord_other (by simp), of_nextRead (by simp)]
  exact (congrArg (nextRecord (.portSheet p)) dealt).trans (nextRecord_portSheet p _ [p]).1

/-- What port p holds once a new record is TAKEN. -/
def Copy.taken (sheet : PortSheet) (hand : Byte) (x : Copy) : Copy :=
  { x with sheet := some sheet, take := { hand := hand, verdict := .taken, reason := .none, field := 0 } }

/-- Any other is TAKEN and replaces the copy whole; no other port's copy moves, and the cell does not (R26). -/
theorem dealPortSheet_taken {p : Port} {bytes : List Byte} {sheet : PortSheet} {s : State}
    (hnew : handOf 0x180 bytes ≠ (s.ports.get p).take.hand) (hj : judgePortSheet bytes = .ok sheet) :
    copies (dealPortSheet p bytes (Event.of s)).ports =
      modAt (copies s.ports) p (Copy.taken sheet (handOf 0x180 bytes)) := by
  have dealt : dealPortSheet p bytes (Event.of s) = touch p (takePortSheet p sheet (modPort p (fun q => { q with
      take := { hand := handOf 0x180 bytes, verdict := .taken, reason := .none, field := 0 } }) (Event.of s))) := by
    refine (if_neg hnew).trans ?_
    rw [hj]
  rw [dealt, copies_touch, copies_takePortSheet]
  refine vector_ext_get fun q => ?_
  rw [get_copies, get_modAt, get_modAt, get_copies, get_copies, modPort_ports]
  by_cases hq : q = p
  · subst hq; simp [PortState.copy, Copy.taken, Event.of]
  · simp [hq, get_modAt_ne _ _ _ _ hq, Event.of]

/-- Settles O16: a take stores the sheet, and no block's work moves a copy. -/
theorem portSheetJudged : Obligations.PortSheetJudged := by
  unfold Obligations.PortSheetJudged
  intro p bytes n s h _ ho hnew k hk
  subst hk
  refine ⟨fun r f hj => exec_sweepRecordRead_portSheet_refused h ho hnew hj, fun sheet hj => ⟨_, act_live h, ?_⟩⟩
  have event : completes (.portSheet p) (readNumber (.area (.portSheet p)) s) (recordRead (.portSheet p) bytes) (Event.of s) =
      nextRecord (.portSheet p) (dealPortSheet p bytes (Event.of s)) := by
    rw [completes_recordRead ho, afterRecord_other (by simp)]
    rfl
  obtain ⟨_, ports, cell⟩ := nextRecord_portSheet p (dealPortSheet p bytes (Event.of s)) []
  have copied : ∀ t : State, t = after (completes (.portSheet p) (readNumber (.area (.portSheet p)) s)
      (recordRead (.portSheet p) bytes)) s → ∀ q, (t.ports.get q).copy =
        if q = p then (s.ports.get p).copy.taken sheet (handOf 0x180 bytes) else (s.ports.get q).copy := by
    rintro t rfl q
    rw [← get_copies, copies_after, event, ports, dealPortSheet_taken hnew hj, get_modAt, get_copies, get_copies]
  have kept := copied _ rfl
  refine ⟨?_, ?_, fun q hq => ?_, ?_⟩
  · exact (congrArg Copy.sheet (kept p)).trans (by simp [Copy.taken])
  · exact (congrArg Copy.take (kept p)).trans (by simp [Copy.taken])
  · have other := kept q
    rw [if_neg hq] at other
    exact ⟨congrArg Copy.sheet other, congrArg Copy.take other⟩
  · refine (congrArg Control.cell (control_after _ s)).trans ?_
    rw [event]
    exact cell.trans (congrArg Control.cell (control_dealPortSheet p bytes (Event.of s)))

end Sys2Proof.Machine


namespace Sys2Proof.Machine

/-! ## Reading a packed record back (R8, R9)

A reader walks over the bytes that the writer of the same record lays out. `Recovers` says so of one reader: started where a front part has
been laid out, it ends where a longer one has, unless a spare was not zero or a value was in error. -/

/-- No spare so far was other than zero, and no value in error. -/
def Rd.Ok (r : Rd) : Prop := r.sparesOk = true ∧ r.bad = none

/-- The reader stands in `body` behind the front part `pre`, which are the bytes of `body` as far as it has any. -/
structure Rd.At (body : List Byte) (live : Bool) (pre : List Byte) (r : Rd) : Prop where
  pos : r.pos = pre.length
  rest : r.rest = body.drop pre.length
  laid : ∀ i < pre.length, pre.getD i 0 = body.getD i 0
  live : r.live = live

/-- The reader `m` never forgives an error; begun behind `pre`, one that meets none ends behind a front part of which `Q` holds. -/
structure Recovers {α : Type} (m : Read α) (live : Bool) (pre : List Byte) (Q : α → Bool → List Byte → Prop) : Prop where
  strict : ∀ r, (m.run r).2.Ok → r.Ok
  lays : ∀ body r, r.At body live pre → (m.run r).2.Ok →
    ∃ live' pre', Q (m.run r).1 live' pre' ∧ (m.run r).2.At body live' pre'

section
variable {α β : Type} {live : Bool} {pre : List Byte}

theorem Recovers.pure {x : α} {Q : α → Bool → List Byte → Prop} (h : Q x live pre) : Recovers (Pure.pure x : Read α) live pre Q :=
  ⟨fun _ h => h, fun _ _ hr _ => ⟨live, pre, h, hr⟩⟩

theorem Recovers.bind {m : Read α} {k : α → Read β} {Q : α → Bool → List Byte → Prop} {Q' : β → Bool → List Byte → Prop}
    (hm : Recovers m live pre Q) (hk : ∀ x l p, Recovers (k x) l p fun y l' p' => Q x l p → Q' y l' p') :
    Recovers (m >>= k) live pre Q' := by
  refine ⟨fun r h => hm.strict r ((hk _ true []).strict _ h), fun body r hr h => ?_⟩
  obtain ⟨l, p, hq, hmid⟩ := hm.lays body r hr ((hk _ true []).strict _ h)
  obtain ⟨l', p', hq', hend⟩ := (hk _ l p).lays body _ hmid h
  exact ⟨l', p', hq' hq, hend⟩

theorem Recovers.mono {m : Read α} {Q Q' : α → Bool → List Byte → Prop} (hm : Recovers m live pre Q)
    (h : ∀ x l p, Q x l p → Q' x l p) : Recovers m live pre Q' := by
  refine ⟨hm.strict, fun body r hr hok => ?_⟩
  obtain ⟨l, p, hq, hend⟩ := hm.lays body r hr hok
  exact ⟨l, p, h _ _ _ hq, hend⟩

/-- Whether the field is present is known to the reader. -/
theorem Recovers.get : Recovers (MonadState.get : Read Rd) live pre fun r l p => r.live = live ∧ l = live ∧ p = pre :=
  ⟨fun _ h => h, fun _ _ hr _ => ⟨live, pre, ⟨hr.live, rfl, rfl⟩, hr⟩⟩

/-- What follows belongs to a field that is present or absent. -/
theorem Recovers.setLive (b : Bool) :
    Recovers (modify fun r => { r with live := b } : Read PUnit) live pre fun _ l p => l = b ∧ p = pre :=
  ⟨fun _ h => h, fun _ _ hr _ => ⟨b, pre, ⟨rfl, rfl⟩, ⟨hr.pos, hr.rest, hr.laid, rfl⟩⟩⟩

/-- A value in error is not forgiven where its field is present. -/
theorem demand_recovers (f : Nat) (ok : Bool) :
    Recovers (demand f ok) live pre fun _ l p => (l = live ∧ p = pre) ∧ (live = true → ok = true) := by
  cases ok with
  | true => exact .pure ⟨⟨rfl, rfl⟩, fun _ => rfl⟩
  | false =>
    have run : ∀ r : Rd, ((demand f false).run r).2 =
        if r.live then { r with bad := some (match r.bad with | some g => min g f | none => f) } else r := fun _ => rfl
    refine ⟨fun r h => ?_, fun body r hr h => ?_⟩
    · rw [run] at h
      split at h
      · exact absurd h.2 (by simp)
      · exact h
    · rw [run] at h ⊢
      cases hl : r.live with
      | true =>
        rw [if_pos hl] at h
        exact absurd h.2 (by simp)
      | false => exact ⟨live, pre, ⟨⟨rfl, rfl⟩, fun hlive => by simp [← hr.live, hl] at hlive⟩, by simpa using hr⟩

/-! ### Bytes laid out behind a front part -/

/-- A front part with the next bytes of the body behind it is a longer one. -/
theorem Rd.At.append {body more : List Byte} {r r' : Rd} (h : r.At body live pre)
    (hm : ∀ i < more.length, more.getD i 0 = r.rest.getD i 0) (hpos : r'.pos = r.pos + more.length)
    (hrest : r'.rest = r.rest.drop more.length) (hlive : r'.live = r.live) : r'.At body live (pre ++ more) where
  pos := by rw [hpos, h.pos, List.length_append]
  rest := by rw [hrest, h.rest, List.drop_drop, List.length_append]
  live := hlive.trans h.live
  laid i hi := by
    by_cases hlt : i < pre.length
    · rw [List.getD_append _ _ _ _ hlt]
      exact h.laid i hlt
    · have hle : pre.length ≤ i := Nat.le_of_not_lt hlt
      rw [List.length_append] at hi
      rw [List.getD_append_right _ _ _ _ hle, hm _ (by omega), h.rest, List.getD_eq_getElem?_getD, List.getElem?_drop,
        Nat.add_sub_cancel' hle, ← List.getD_eq_getElem?_getD]

theorem getD_of_all_zero {xs : List Byte} {n i : Nat} (h : (xs.take n).all (fun b => b == 0) = true) (hi : i < n) :
    xs.getD i 0 = 0 := by
  rw [List.getD_eq_getElem?_getD]
  cases hx : xs[i]? with
  | none => rfl
  | some b =>
    have hmem : b ∈ xs.take n := List.mem_of_getElem? (i := i) (by rw [List.getElem?_take_of_lt hi, hx])
    simpa using List.all_eq_true.mp h b hmem

/-- Spares are read as the zero bytes of the alignment gap. -/
theorem skipSpares_recovers (n : Nat) :
    Recovers (skipSpares n) live pre fun _ l p => l = live ∧ p = pre ++ List.replicate n 0 := by
  have run : ∀ r : Rd, ((skipSpares n).run r).2 = { r with
    pos := r.pos + n, rest := r.rest.drop n, sparesOk := r.sparesOk && (r.rest.take n).all (fun b => b == 0) } := fun _ => rfl
  refine ⟨fun r h => ?_, fun body r hr h => ⟨live, _, ⟨rfl, rfl⟩, ?_⟩⟩
  · rw [run] at h
    obtain ⟨hs, hb⟩ := h
    exact ⟨(Bool.and_eq_true_iff.mp hs).1, hb⟩
  · rw [run] at h ⊢
    have zeros := (Bool.and_eq_true_iff.mp h.1).2
    refine hr.append (fun i hi => ?_) (by simp) (by simp) rfl
    have hin : i < n := by simpa using hi
    rw [getD_of_all_zero zeros hin, List.getD_eq_getElem?_getD, List.getElem?_replicate, if_pos hin]
    rfl

theorem align_recovers (n : Nat) : Recovers (align n) live pre fun _ l p => l = live ∧ p = padTo n pre := by
  have run : ∀ r : Rd, (align n).run r = (skipSpares ((n - r.pos % n) % n)).run r := fun _ => rfl
  have skipped := fun k => skipSpares_recovers (live := live) (pre := pre) k
  refine ⟨fun r h => (skipped _).strict r (by rwa [run] at h), fun body r hr h => ?_⟩
  rw [run, hr.pos] at h ⊢
  exact (skipped _).lays body r hr h

/-- The bytes of the number that bytes spell are those bytes, and zero where there were none. -/
theorem getD_leBytes_leNat (n : Nat) (xs : List Byte) (i : Nat) (hi : i < n) :
    (leBytes n (leNat (xs.take n))).getD i 0 = xs.getD i 0 := by
  induction n generalizing xs i with
  | zero => omega
  | succ n ih =>
    cases xs with
    | nil =>
      have zero : leNat (([] : List Byte).take n) = 0 := by simp [leNat]
      cases i with
      | zero => rfl
      | succ i =>
        have tail := ih [] i (by omega)
        rw [zero] at tail
        simpa [leBytes, leNat] using tail
    | cons b bs =>
      have low : (BitVec.ofNat 8 (b.toNat + 256 * leNat (bs.take n)) : Byte) = b :=
        BitVec.eq_of_toNat_eq (by rw [BitVec.toNat_ofNat]; omega)
      have high : (b.toNat + 256 * leNat (bs.take n)) / 256 = leNat (bs.take n) := by
        have := b.isLt
        omega
      cases i with
      | zero => simp [leBytes, leNat, low]
      | succ i => simpa [leBytes, leNat, high] using ih bs i (by omega)

theorem leNat_lt (xs : List Byte) : leNat xs < 256 ^ xs.length := by
  induction xs with
  | nil => simp [leNat]
  | cons b bs ih =>
    have := b.isLt
    rw [leNat, List.length_cons, pow_succ]
    omega

/-- A quantity is read as the bytes that lay it out; in an absent field it is zero. -/
theorem rawNum_recovers (n : Nat) : Recovers (rawNum n) live pre fun v l p =>
    (l = live ∧ p = putNum n v pre) ∧ v < 256 ^ n ∧ (live = false → v = 0) := by
  have taken : ∀ (l : Bool) (q : List Byte), Recovers (do
      let r ← get
      let v := leNat (r.rest.take n)
      set { r with pos := r.pos + n, rest := r.rest.drop n, sparesOk := r.sparesOk && (r.live || v == 0) }
      pure v : Read Nat) l q fun v l' p =>
      (l' = l ∧ p = q ++ leBytes n v) ∧ v < 256 ^ n ∧ (l = false → v = 0) := by
    intro l q
    refine ⟨fun r h => ⟨(Bool.and_eq_true_iff.mp h.1).1, h.2⟩, fun body r hr h => ⟨l, _, ⟨⟨rfl, rfl⟩, ?_, ?_⟩, ?_⟩⟩
    · exact (leNat_lt _).trans_le (Nat.pow_le_pow_right (by decide) (List.length_take_le _ _))
    · intro hl
      have dead := (Bool.and_eq_true_iff.mp h.1).2
      have zero : leNat (r.rest.take n) = 0 := by simpa [hr.live, hl] using dead
      exact zero
    · exact hr.append (fun i hi => getD_leBytes_leNat n r.rest i (by simpa using hi)) (by simp; rfl) (by simp; rfl) rfl
  refine Recovers.bind (align_recovers n) fun _ l p => (taken l p).mono ?_
  rintro v l' p' ⟨⟨rfl, rfl⟩, hv, h0⟩ ⟨rfl, rfl⟩
  exact ⟨⟨rfl, rfl⟩, hv, h0⟩

theorem num_recovers (f n : Nat) (ok : Nat → Bool) : Recovers (num f n ok) live pre fun v l p =>
    (l = live ∧ p = putNum n v pre) ∧ v < 256 ^ n ∧ (live = false → v = 0) ∧ (live = true → ok v = true) := by
  refine (rawNum_recovers n).bind fun v l p => (demand_recovers f (ok v)).bind fun _ l' p' => .pure ?_
  rintro ⟨⟨rfl, rfl⟩, hok⟩ ⟨⟨rfl, rfl⟩, hv, h0⟩
  exact ⟨⟨rfl, rfl⟩, hv, h0, hok⟩

/-- A ranged quantity of a field that is present lies in its range. -/
theorem ranged_recovers (f n lo hi : Nat) : Recovers (ranged f n lo hi) live pre fun v l p =>
    (l = live ∧ p = putNum n v pre) ∧ (live = false → v = 0) ∧ (live = true → lo ≤ v ∧ v ≤ hi) := by
  refine (num_recovers f n (within lo hi)).mono ?_
  rintro v l p ⟨hp, _, h0, hok⟩
  exact ⟨hp, h0, fun hl => by simpa [within] using hok hl⟩

theorem flagField_recovers (f : Nat) : Recovers (flagField f) live pre fun b l p =>
    l = live ∧ (live = true → p = putNum 1 (flagCode b) pre) := by
  refine (ranged_recovers f 1 0 1).bind fun v l p => .pure ?_
  rintro ⟨⟨rfl, rfl⟩, _, hr⟩
  refine ⟨rfl, fun hl => ?_⟩
  have hv : v = 0 ∨ v = 1 := by have := hr hl; omega
  obtain rfl | rfl := hv <;> rfl

end

end Sys2Proof.Machine

namespace Sys2Proof.Machine

section
variable {α β : Type} {live : Bool} {pre : List Byte}

/-! ### Lists (R9) -/

/-- A list's entries are read as far as its count, and the room behind them as zero entries. -/
theorem mapM_recovers {n : Nat} {entry : Read α} {zero : α} {put : α → List Byte → List Byte}
    (he : ∀ l p, Recovers entry l p fun x l' p' => l' = l ∧ p' = put (if l then x else zero) p)
    (outer : Bool) (is : List Nat) : ∀ (l : Bool) (pre : List Byte), Recovers (is.mapM fun i => do
      modify fun r' => { r' with live := outer && decide (i < n) }
      entry : Read (List α)) l pre fun xs _ p => xs.length = is.length ∧
        p = putAll put ((is.zip xs).map fun x => if outer && decide (x.1 < n) then x.2 else zero) pre := by
  induction is with
  | nil => exact fun l pre => by simpa using Recovers.pure (by simp [putAll])
  | cons i is ih =>
    intro l pre
    have first : Recovers (do
        modify fun r' => { r' with live := outer && decide (i < n) }
        entry : Read α) l pre fun x _ p => p = put (if outer && decide (i < n) then x else zero) pre := by
      refine .bind (.setLive _) fun _ l p => (he l p).mono ?_
      rintro x l' p' ⟨rfl, rfl⟩ ⟨rfl, rfl⟩
      rfl
    rw [List.mapM_cons]
    refine first.bind fun x l p => (ih l p).bind fun xs l' p' => .pure ?_
    rintro ⟨hlen, rfl⟩ rfl
    exact ⟨by simp [hlen], by simp [putAll]⟩

/-- The entries of a range behind a list's count are the zero entries. -/
theorem zip_range_eq {n room : Nat} (hn : n ≤ room) (zero : α) (xs : List α) (hx : xs.length = room) :
    ((List.range room).zip xs).map (fun x => if decide (x.1 < n) = true then x.2 else zero) =
      xs.take n ++ List.replicate (room - (xs.take n).length) zero := by
  refine List.ext_getElem (by simp [hx, hn]) fun i h₁ h₂ => ?_
  have hi : i < room := by simpa [hx] using h₁
  by_cases hin : i < n
  · rw [List.getElem_append_left (by simp [hx]; omega)]
    simp [hin]
  · rw [List.getElem_append_right (by simp [hx]; omega)]
    simp [hin]

theorem listOf_recovers (f room : Nat) {entry : Read α} {zero : α} {put : α → List Byte → List Byte}
    (he : ∀ l p, Recovers entry l p fun x l' p' => l' = l ∧ p' = put (if l then x else zero) p) :
    Recovers (listOf f room entry) live pre fun xs l p => l = live ∧ (live = true → p = putList room zero put xs pre) := by
  refine (ranged_recovers f 1 0 room).bind fun n l p => .bind .get fun r l' p' =>
    .bind (mapM_recovers he r.live (List.range room) l' p') fun xs l'' p'' => .bind (.setLive r.live) fun _ _ _ => .pure ?_
  rintro ⟨rfl, rfl⟩ ⟨hlen, rfl⟩ ⟨hr, rfl, rfl⟩ ⟨⟨rfl, rfl⟩, _, hn⟩
  refine ⟨hr, fun hl => ?_⟩
  have hroom : n ≤ room := (hn hl).2
  rw [List.length_range] at hlen
  simp only [hr, hl, Bool.true_and]
  rw [zip_range_eq hroom zero xs hlen, putList, List.length_take, hlen, Nat.min_eq_left hroom]

/-! ### The Cell Sheet (R22, R104) -/

/-- What is aligned already gets no byte more. -/
theorem padTo_padTo (n : Nat) (pre : List Byte) : padTo n (padTo n pre) = padTo n pre := by
  obtain rfl | hn := Nat.eq_zero_or_pos n
  · simp [padTo]
  have aligned : (padTo n pre).length % n = 0 := by
    have whole : pre.length + (n - pre.length % n) = n * (pre.length / n + 1) := by
      have := Nat.div_add_mod pre.length n
      have := Nat.mod_lt pre.length hn
      rw [Nat.mul_add]
      omega
    rw [padTo, List.length_append, List.length_replicate, Nat.add_mod_mod, whole, Nat.mul_mod_right]
  have gap : (n - (padTo n pre).length % n) % n = 0 := by rw [aligned]; simp
  rw [padTo, gap, List.replicate_zero, List.append_nil]

theorem readReaction_recovers (k : Nat) : Recovers (readReaction k) live pre fun x l p =>
    l = live ∧ (live = true → p = putNum 1 x.route.code (putNum 1 x.action.code pre)) := by
  refine (ranged_recovers 7 1 0 3).bind fun a _ _ => (demand_recovers 7 _).bind fun _ _ _ =>
    (ranged_recovers 7 1 0 2).bind fun r _ _ => .pure ?_
  rintro ⟨⟨rfl, rfl⟩, _, hr⟩ ⟨⟨rfl, rfl⟩, _⟩ ⟨⟨rfl, rfl⟩, _, ha⟩
  refine ⟨rfl, fun hl => ?_⟩
  have ha' : a = 0 ∨ a = 1 ∨ a = 2 ∨ a = 3 := by have := ha hl; omega
  have hr' : r = 0 ∨ r = 1 ∨ r = 2 := by have := hr hl; omega
  obtain rfl | rfl | rfl | rfl := ha' <;> obtain rfl | rfl | rfl := hr' <;> rfl

theorem readStep_recovers : Recovers readStep live pre fun x l p =>
    l = live ∧ p = putStep (if live then x else ProgStep.zero) pre := by
  refine (align_recovers 4).bind fun _ _ _ => (ranged_recovers 16 4 0 1000000).bind fun offset _ _ =>
    (rawNum_recovers 1).bind fun ports _ _ => (num_recovers 16 4 exposureOk).bind fun exposure _ _ =>
    (ranged_recovers 16 1 0 15).bind fun strobes _ _ => (rawNum_recovers 2).bind fun width _ _ =>
    (demand_recovers 16 _).bind fun _ l _ => .pure ?_
  rintro ⟨⟨rfl, rfl⟩, _⟩ ⟨⟨rfl, rfl⟩, _, w0⟩ ⟨⟨rfl, rfl⟩, s0, hs⟩ ⟨⟨rfl, rfl⟩, _, e0, _⟩ ⟨⟨rfl, rfl⟩, hp, p0⟩ ⟨⟨rfl, rfl⟩, o0, _⟩
    ⟨rfl, rfl⟩
  refine ⟨rfl, ?_⟩
  have aligned : ∀ v, putNum 4 v (padTo 4 pre) = putNum 4 v pre := fun v => by rw [putNum, padTo_padTo]; rfl
  rw [aligned]
  cases l with
  | true =>
    have hports : ports % 256 = ports := Nat.mod_eq_of_lt (by simpa using hp)
    have hstrobes : strobes % 256 = strobes := Nat.mod_eq_of_lt (by have := hs rfl; omega)
    simp [putStep, hports, hstrobes]
  | false => simp [putStep, ProgStep.zero, w0 rfl, s0 rfl, e0 rfl, p0 rfl, o0 rfl]

theorem readProgram_recovers : Recovers readProgram live pre fun x l p => l = live ∧ (live = true → p = putProgram x pre) := by
  refine (align_recovers 4).bind fun _ _ _ => (ranged_recovers 16 1 0 3).bind fun s _ _ =>
    (rawNum_recovers 4).bind fun period _ _ => (demand_recovers 16 _).bind fun _ _ _ =>
    (rawNum_recovers 2).bind fun spacing _ _ => (demand_recovers 16 _).bind fun _ _ _ =>
    (listOf_recovers 16 8 fun _ _ => readStep_recovers).bind fun steps _ _ => (demand_recovers 16 _).bind fun _ _ _ => .pure ?_
  rintro ⟨⟨rfl, rfl⟩, _⟩ ⟨rfl, hsteps⟩ ⟨⟨rfl, rfl⟩, _⟩ ⟨⟨rfl, rfl⟩, _⟩ ⟨⟨rfl, rfl⟩, _⟩ ⟨⟨rfl, rfl⟩, _⟩ ⟨⟨rfl, rfl⟩, _, hs⟩ ⟨rfl, rfl⟩
  refine ⟨rfl, fun hl => (hsteps hl).trans ?_⟩
  have hs' : s = 0 ∨ s = 1 ∨ s = 2 ∨ s = 3 := by have := hs hl; omega
  obtain rfl | rfl | rfl | rfl := hs' <;> rfl

/-- A Cell Sheet read without an error is laid out as the bytes it was read from (R9, R33). -/
theorem readCellSheet_recovers : Recovers readCellSheet true [] fun c _ p => fit 0x3FD p = c.bytes := by
  refine (ranged_recovers 1 2 10 1200).bind fun budget _ _ => (ranged_recovers 2 2 0 10000).bind fun loopDefault _ _ =>
    (ranged_recovers 3 2 500 990).bind fun velocityDefault _ _ => (num_recovers 4 8 _).bind fun poolAddr _ _ =>
    (ranged_recovers 5 1 0 128).bind fun bufCount _ _ => (demand_recovers 4 _).bind fun _ _ _ =>
    (ranged_recovers 6 1 0 128).bind fun c0 _ _ => (ranged_recovers 6 1 0 128).bind fun c1 _ _ =>
    (ranged_recovers 6 1 0 128).bind fun c2 _ _ => (ranged_recovers 6 1 0 128).bind fun c3 _ _ =>
    (ranged_recovers 6 1 0 128).bind fun c4 _ _ => (ranged_recovers 6 1 0 128).bind fun c5 _ _ =>
    (ranged_recovers 6 1 0 128).bind fun c6 _ _ => (ranged_recovers 6 1 0 128).bind fun c7 _ _ =>
    (readReaction_recovers 0).bind fun r0 _ _ => (readReaction_recovers 1).bind fun r1 _ _ =>
    (readReaction_recovers 2).bind fun r2 _ _ => (readReaction_recovers 3).bind fun r3 _ _ =>
    (readReaction_recovers 4).bind fun r4 _ _ => (readReaction_recovers 5).bind fun r5 _ _ =>
    (readReaction_recovers 6).bind fun r6 _ _ => (readReaction_recovers 7).bind fun r7 _ _ =>
    (readReaction_recovers 8).bind fun r8 _ _ => (flagField_recovers 8).bind fun autoProbe _ _ =>
    (ranged_recovers 9 1 1 255).bind fun flickerThreshold _ _ => (ranged_recovers 10 2 256 8191).bind fun window _ _ =>
    (ranged_recovers 11 1 1 255).bind fun echoThreshold _ _ => (ranged_recovers 12 1 1 255).bind fun openLevel _ _ =>
    (ranged_recovers 13 1 1 255).bind fun shortLevel _ _ => (demand_recovers 11 _).bind fun _ _ _ =>
    (ranged_recovers 14 1 0 2).bind fun edge _ _ => (ranged_recovers 15 2 1 256).bind fun divider _ _ =>
    readProgram_recovers.bind fun p0 _ _ => readProgram_recovers.bind fun p1 _ _ => readProgram_recovers.bind fun p2 _ _ =>
    readProgram_recovers.bind fun p3 _ _ => .pure ?_
  rintro ⟨rfl, h3⟩ ⟨rfl, h2⟩ ⟨rfl, h1⟩ ⟨rfl, h0⟩ ⟨⟨rfl, rfl⟩, _⟩ ⟨⟨rfl, rfl⟩, _, hedge⟩ ⟨⟨rfl, rfl⟩, _⟩ ⟨⟨rfl, rfl⟩, _⟩ ⟨⟨rfl, rfl⟩, _⟩
    ⟨⟨rfl, rfl⟩, _⟩ ⟨⟨rfl, rfl⟩, _⟩ ⟨⟨rfl, rfl⟩, _⟩ ⟨rfl, hauto⟩ ⟨rfl, f8⟩ ⟨rfl, f7⟩ ⟨rfl, f6⟩ ⟨rfl, f5⟩ ⟨rfl, f4⟩ ⟨rfl, f3⟩
    ⟨rfl, f2⟩ ⟨rfl, f1⟩ ⟨rfl, f0⟩ ⟨⟨rfl, rfl⟩, _⟩ ⟨⟨rfl, rfl⟩, _⟩ ⟨⟨rfl, rfl⟩, _⟩ ⟨⟨rfl, rfl⟩, _⟩ ⟨⟨rfl, rfl⟩, _⟩ ⟨⟨rfl, rfl⟩, _⟩
    ⟨⟨rfl, rfl⟩, _⟩ ⟨⟨rfl, rfl⟩, _⟩ ⟨⟨rfl, rfl⟩, _⟩ ⟨⟨rfl, rfl⟩, _⟩ ⟨⟨rfl, rfl⟩, hpool, _⟩ ⟨⟨rfl, rfl⟩, _⟩ ⟨⟨rfl, rfl⟩, _⟩ ⟨⟨rfl, rfl⟩, _⟩
  have pool : (BitVec.ofNat 64 poolAddr).toNat = poolAddr := by
    rw [BitVec.toNat_ofNat]
    exact Nat.mod_eq_of_lt (by simpa using hpool)
  have edges : edge = 0 ∨ edge = 1 ∨ edge = 2 := by have := hedge rfl; omega
  rw [CellSheet.bytes, h3 rfl, h2 rfl, h1 rfl, h0 rfl, hauto rfl, f8 rfl, f7 rfl, f6 rfl, f5 rfl, f4 rfl, f3 rfl, f2 rfl, f1 rfl, f0 rfl]
  simp only [pool, putAll, Vector.toList_mk, List.foldl_cons, List.foldl_nil]
  obtain rfl | rfl | rfl := edges <;> rfl

end

/-! ### The check of the copy (R8, R33) -/

theorem getD_fit (n : Nat) (bs : List Byte) {i : Nat} (hi : i < n) : (fit n bs).getD i 0 = bs.getD i 0 := by
  simp only [fit, List.getD_eq_getElem?_getD]
  by_cases h : i < bs.length
  · rw [List.getElem?_append_left (by simp; omega), List.getElem?_take_of_lt hi]
  · rw [List.getElem?_append_right (by simp; omega), List.getElem?_replicate, List.getElem?_eq_none (by omega)]
    split <;> rfl

/-- What a whole body has been read as, with nothing but zero bytes left behind it, is that body. -/
theorem Rd.At.fit_eq {body pre : List Byte} {live : Bool} {r : Rd} (h : r.At body live pre)
    (hz : r.rest.all (fun b => b == 0) = true) : fit body.length pre = body := by
  have len : (fit body.length pre).length = body.length := by simp [fit]; omega
  have behind : ∀ i, pre.length ≤ i → body.getD i 0 = 0 := fun i hi => by
    have shifted : body.getD i 0 = r.rest.getD (i - pre.length) 0 := by
      rw [h.rest, List.getD_eq_getElem?_getD, List.getD_eq_getElem?_getD, List.getElem?_drop, Nat.add_sub_cancel' hi]
    rw [shifted]
    by_cases hin : i - pre.length < r.rest.length
    · exact getD_of_all_zero (by rwa [List.take_length]) hin
    · exact List.getD_eq_default _ _ (Nat.le_of_not_lt hin)
  refine List.ext_getElem len fun i h₁ h₂ => ?_
  rw [← List.getD_eq_getElem _ (0 : Byte) h₁, ← List.getD_eq_getElem _ (0 : Byte) h₂, getD_fit _ _ h₂]
  by_cases hi : i < pre.length
  · exact h.laid i hi
  · rw [behind i (Nat.le_of_not_lt hi), List.getD_eq_default _ _ (Nat.le_of_not_lt hi)]

/-- A judged record passes its check, and its reader meets no error and leaves only zero bytes. -/
theorem judge_ok {α : Type} {checkAt : Nat} {bytes : List Byte} {reader : Read α} {x : α} (h : judge checkAt bytes reader = .ok x) :
    (crc16 (bytes.take checkAt)).toNat = leNat ((bytes.drop checkAt).take 2) ∧
    ∃ r, reader.run { pos := 0, rest := bytes.take checkAt, sparesOk := true, bad := none, live := true } = (x, r) ∧
      r.Ok ∧ r.rest.all (fun b => b == 0) = true := by
  rw [judge] at h
  split at h
  · cases h
  next check =>
    split at h
    next y r run =>
      split at h
      · cases h
      next spares =>
        obtain ⟨hs, hz⟩ := Bool.and_eq_true_iff.mp (Bool.eq_true_of_not_eq_false spares)
        split at h
        · cases h
        next hb =>
          injection h with h
          exact ⟨not_not.mp check, r, by rw [run, h], ⟨hs, hb⟩, hz⟩

/-- Settles O54: the bytes a Cell Sheet is judged over are those its copy is laid out in. -/
theorem copyKeepsItsCheck : Obligations.CopyKeepsItsCheck := by
  intro bytes c hlen hj
  rw [judgeCellSheet, fit_length hlen] at hj
  obtain ⟨check, r, run, ok, zeros⟩ := judge_ok hj
  obtain ⟨l, pre, laid, at_⟩ := readCellSheet_recovers.lays (bytes.take 0x3FD)
    { pos := 0, rest := bytes.take 0x3FD, sparesOk := true, bad := none, live := true }
    ⟨rfl, rfl, fun _ h => absurd h (Nat.not_lt_zero _), rfl⟩ (by rw [run]; exact ok)
  rw [run] at laid at_
  have whole := at_.fit_eq zeros
  rw [List.length_take, hlen] at whole
  rw [← check, ← whole, CellSheet.check]
  exact congrArg (fun b => (crc16 b).toNat) laid.symm

end Sys2Proof.Machine

namespace Sys2Proof.Machine

/-! ## What the writings for the host move

Reports, answers and the reads of a sweep move the page, the numbers of the reads, what has been issued and the report counts; an event is
followed through them by the rest of the state. -/

/-- The state without what the writings for the host move. -/
def State.bare (s : State) : State := { s with
  page := PageIf.reset, reads := Reads.reset, traffic := []
  ports := s.ports.map fun q => { q with reportCount := 0 } }

theorem bare_port (s : State) (p : Port) : s.bare.ports.get p = { s.ports.get p with reportCount := 0 } := get_map _ _ p

@[simp] theorem bare_raiseFlags (bits : BitVec 14) (e : Event) : (raiseFlags bits e).bare = e.bare := by
  rw [raiseFlags_eq]
  rfl

@[simp] theorem bare_attend (bits : BitVec 14) (e : Event) : (attend bits e).bare = e.bare := by
  unfold attend
  split <;> simp

@[simp] theorem bare_notice (a : Area) (e : Event) : (notice a e).bare = e.bare := by
  unfold notice
  split <;> rfl

@[simp] theorem bare_writeHeader (e : Event) : (writeHeader e).bare = e.bare := by
  unfold writeHeader
  split <;> rfl

@[simp] theorem bare_showMode (e : Event) : (showMode e).bare = e.bare := by simp [showMode]

@[simp] theorem bare_writePortReport (p : Port) (e : Event) : (writePortReport p e).bare = e.bare := by
  unfold writePortReport
  split
  · have ports : (modAt e.ports p fun q => { q with reportCount := (e.port p).reportCount + 2 }).map
        (fun q => { q with reportCount := 0 }) = e.ports.map fun q => { q with reportCount := 0 } := by
      refine vector_ext_get fun i => ?_
      simp only [get_map, get_modAt]
      split
      · next h => subst h; rfl
      · rfl
    exact congrArg (fun v => { e.bare with ports := v }) ports
  · rfl

@[simp] theorem bare_reportPort (p : Port) (e : Event) : (reportPort p e).bare = e.bare := by simp [reportPort]

theorem bare_forPorts (ps : List Port) (f : Port → Event → Event) (e : Event) (h : ∀ p x, (f p x).bare = x.bare) :
    (forPorts ps f e).bare = e.bare := by
  unfold forPorts
  induction ps generalizing e with
  | nil => rfl
  | cons p ps ih => rw [List.foldl_cons, ih, h]

/-- The rewriting of the marked ports' report parts. -/
@[simp] theorem bare_flush (e : Event) : (flush e).bare = e.bare := bare_forPorts _ _ e bare_reportPort

/-- The going on of the ORDERS sweep. -/
@[simp] theorem bare_nextRecord_orders (e : Event) : (nextRecord .orders e).bare = e.bare := by
  unfold nextRecord
  split
  · split <;> rfl
  · rfl
  · rfl

theorem bare_carriedOn (e : Event) : (carriedOn e).bare = { e.bare with handed := none } := bare_nextRecord_orders _

/-- An event whose agenda is empty ends with reports alone. -/
theorem bare_finish {e : Event} (ha : e.agenda = []) : (finish e).bare = e.bare := by
  unfold finish
  rw [drain_empty ha, bare_flush]

/-! ### Fields of states that differ by such writings -/

theorem slots_of_bare {s t : State} (h : s.bare = t.bare) : s.slots = t.slots := (congrArg State.slots h :)
theorem budget_of_bare {s t : State} (h : s.bare = t.bare) : s.budget = t.budget := (congrArg State.budget h :)

theorem finish_slots {e : Event} (ha : e.agenda = []) : (finish e).slots = e.slots := slots_of_bare (bare_finish ha)
theorem finish_budget {e : Event} (ha : e.agenda = []) : (finish e).budget = e.budget := budget_of_bare (bare_finish ha)

/-- A port, but for its report count. -/
theorem port_of_bare {s t : State} (h : s.bare = t.bare) (p : Port) : ∃ c, s.ports.get p = { t.ports.get p with reportCount := c } := by
  have same : ({ s.ports.get p with reportCount := 0 } : PortState) = { t.ports.get p with reportCount := 0 } := by
    rw [← bare_port, ← bare_port, h]
  exact ⟨(s.ports.get p).reportCount, congrArg (fun q => { q with reportCount := (s.ports.get p).reportCount }) same⟩

/-! ### Final states of slots -/

/-- A final state is stored and answered; no other slot changes (R38 to R40). -/
theorem finishSlot_slots (n : SlotNo) (st : SlotState) (r : Reason) (field : Nat) (results : List Byte) (e : Event) :
    ∃ c, (finishSlot n st r field results e).slots = putAt e.slots n { e.slots.get n with
      state := st, stopMark := false, reason := r, field := field, results := results, loadBy := none, answerCount := c } := by
  by_cases h : e.page.taken = .held
  · rw [finishSlot_held h n st r field results rfl]
    exact ⟨_, rfl⟩
  · rw [finishSlot_absent h]
    exact ⟨_, rfl⟩

theorem get_finishSlot_ne {n k : SlotNo} (h : k ≠ n) (st : SlotState) (r : Reason) (field : Nat) (results : List Byte) (e : Event) :
    (finishSlot n st r field results e).slots.get k = e.slots.get k := by
  obtain ⟨c, hc⟩ := finishSlot_slots n st r field results e
  rw [hc, get_putAt_ne _ _ _ _ h]

theorem get_finishSlot_self (n : SlotNo) (st : SlotState) (r : Reason) (field : Nat) (results : List Byte) (e : Event) :
    ∃ c, (finishSlot n st r field results e).slots.get n = { e.slots.get n with
      state := st, stopMark := false, reason := r, field := field, results := results, loadBy := none, answerCount := c } := by
  obtain ⟨c, hc⟩ := finishSlot_slots n st r field results e
  exact ⟨c, by rw [hc, get_putAt_self]⟩

/-- Nothing but the slots shows it. -/
theorem bare_finishSlot (n : SlotNo) (st : SlotState) (r : Reason) (field : Nat) (results : List Byte) (e : Event) :
    (finishSlot n st r field results e).bare = { e.bare with slots := (finishSlot n st r field results e).slots } := by
  by_cases h : e.page.taken = .held
  · rw [finishSlot_held h n st r field results rfl]
    rfl
  · rw [finishSlot_absent h]
    rfl

end Sys2Proof.Machine

namespace Sys2Proof.Machine

/-! ## START (R29, R30) -/

/-- An order that is carried out and tells no block anything: the sweep goes on behind it. -/
theorem of_carried (s : State) : Event.of s.carried = carriedOn (Event.of s) := by
  rw [State.carried, of_nextRead (by simp)]
  rfl

theorem exec_start {n : SlotNo} {s : State} (h : live s = true) (ho : handedOrder n s = some .start) (hm : s.cell.mode = .configure) :
    exec (.start n) s = .next (finish (carriedOn (carryStart n (Event.of s)))).toState := by
  refine (act_live h).trans ?_
  have carried : carryOut n .start (carryStart n) (Event.of s) = carriedOn (carryStart n (Event.of s)) :=
    congrArg carriedOn (if_pos (by simp [Event.of, hm, Order.acceptedIn]))
  unfold after
  dsimp only
  rw [of_state, ho]
  exact congrArg (fun e => Host.Outcome.next (finish e).toState) carried

theorem finish_of (s : State) : (finish (Event.of s)).toState = s := by
  unfold finish
  rw [drain_empty rfl]
  rfl

theorem exec_start_refused {n : SlotNo} {r : Reason} {s : State} (h : live s = true) (ho : handedOrder n s = some .start)
    (hm : s.cell.mode = .configure) (hr : startRefusal s = some r) :
    exec (.start n) s = .next (s.finished n .refused r 0 []).carried := by
  have refused : carryStart n (Event.of s) = finishSlot n .refused r 0 [] (Event.of s) := by
    unfold carryStart
    rw [of_state, hr]
    rfl
  rw [exec_start h ho hm, refused, ← of_finished, ← of_carried, finish_of]

theorem startRefusal_wrongMode {s : State} (h : s.cell.standing = false) : startRefusal s = some .wrongMode := by simp [startRefusal, h]

theorem startRefusal_overShare {s : State} (h : s.cell.standing = true) (ho : ∃ p, shareCap p s < openHoldings p s) :
    startRefusal s = some .overShare := by
  obtain ⟨p, hp⟩ := ho
  have all : p ∈ allPorts := (by decide : ∀ q : Port, q ∈ allPorts) p
  have exceeds : (allPorts.any fun p => decide (shareCap p s < openHoldings p s)) = true :=
    List.any_eq_true.mpr ⟨p, all, by simpa using hp⟩
  simp [startRefusal, h, exceeds]

theorem startRefusal_none {s : State} (h : s.cell.standing = true) (ho : ∀ p, openHoldings p s ≤ shareCap p s) : startRefusal s = none := by
  simp [startRefusal, h, ho]

/-! ### What an accepted START does before it offers power -/

/-- All programs are DISARMED, and claims of their steps dropped (R105, R111). -/
theorem forProgs_disarmProgram (e : Event) : ∃ programs claims, (∀ i, programs.get i = (e.trigger.programs.get i).disarm) ∧
    forProgs disarmProgram e =
      { e with trigger := { e.trigger with programs := programs }, pool := { e.pool with claims := claims } } := by
  have folded : ∀ (is : List ProgNo) (x : Event), ∃ programs claims,
      (∀ i, programs.get i = if i ∈ is then (x.trigger.programs.get i).disarm else x.trigger.programs.get i) ∧
      is.foldl (fun y i => disarmProgram i y) x =
        { x with trigger := { x.trigger with programs := programs }, pool := { x.pool with claims := claims } } := by
    intro is
    induction is with
    | nil => exact fun x => ⟨x.trigger.programs, x.pool.claims, by simp, rfl⟩
    | cons j is ih =>
      intro x
      obtain ⟨programs, claims, hp, hx⟩ := ih (disarmProgram j x)
      refine ⟨programs, claims, fun i => (hp i).trans ?_, hx⟩
      by_cases hj : i = j
      · subst hj
        simp [disarmProgram, markClaims, modProgram, Program.disarm]
      · simp [disarmProgram, markClaims, modProgram, get_modAt_ne _ _ _ _ hj, hj]
  obtain ⟨programs, claims, hp, hx⟩ := folded allProgs e
  refine ⟨programs, claims, fun i => (hp i).trans (if_pos ?_), hx⟩
  revert i
  decide

theorem showMode_eq (e : Event) : ∃ flags count traffic, showMode e =
    { e with page := { e.page with attention := flags, headerCount := count }, traffic := traffic } := by
  unfold showMode
  by_cases h : e.page.taken = .held
  · rw [writeHeader_held h, attend_held (by exact h), raiseFlags_eq]
    exact ⟨_, _, _, rfl⟩
  · rw [writeHeader_absent h, attend_absent h]
    exact ⟨_, _, _, rfl⟩

/-- RUN is entered (R30). -/
def enterRun (e : Event) : Event := { e with
  trigger := { e.trigger with encCount := 0, remainder := 0 }
  cell := { e.cell with mode := .run, cause := some .start, recheckAt := timer Config.recheckPeriod e } }

/-- The sheet's budget is in force (R30, R61). -/
def fund (e : Event) : Event := { e with budget := { e.budget with inForce := sheetBudget e.toState } }

/-- The computed check is stored (R30, R33). -/
def storeCheck (e : Event) : Event := { e with cell := { e.cell with storedCheck := sheetCheck e.toState } }

/-- An accepted START as it offers the ports their power. -/
def startBegun (e : Event) : Event := fund (showMode (enterRun (forProgs disarmProgram (storeCheck e))))

theorem startCell_eq (e : Event) : startCell e = forPorts allPorts offerPowerUp (startBegun e) := rfl

/-- What the ports are offered their power in. -/
theorem startBegun_eq (e : Event) : ∃ flags count traffic programs claims,
    (∀ i, programs.get i = (e.trigger.programs.get i).disarm) ∧ startBegun e = { e with
      page := { e.page with attention := flags, headerCount := count }, traffic := traffic
      cell := { e.cell with mode := .run, cause := some .start, storedCheck := sheetCheck e.toState
                            recheckAt := some (e.clock + 100000) }
      budget := { e.budget with inForce := sheetBudget e.toState }
      trigger := { e.trigger with encCount := 0, remainder := 0, programs := programs }
      pool := { e.pool with claims := claims } } := by
  obtain ⟨programs, claims, hp, hx⟩ := forProgs_disarmProgram (storeCheck e)
  obtain ⟨flags, count, traffic, hs⟩ := showMode_eq (enterRun (forProgs disarmProgram (storeCheck e)))
  refine ⟨flags, count, traffic, programs, claims, hp, ?_⟩
  unfold startBegun
  rw [hs, hx]
  rfl

end Sys2Proof.Machine

namespace Sys2Proof.Machine

/-! ## A port after an update of its event -/

theorem port_modPort (p q : Port) (f : PortState → PortState) (e : Event) :
    (modPort p f e).port q = if q = p then f (e.port p) else e.port q := get_modAt _ _ _ _

theorem port_modPower (p q : Port) (f : PortPower → PortPower) (e : Event) :
    (modPower p f e).port q = if q = p then { e.port p with power := f (e.port p).power } else e.port q := port_modPort p q _ e

@[simp] theorem port_touch (p q : Port) (e : Event) : (touch p e).port q = e.port q := by simp [Event.port]

@[simp] theorem port_tell (t : Task) (q : Port) (e : Event) : (tell t e).port q = e.port q := rfl

@[simp] theorem port_tellProbe (p q : Port) (e : Event) : (tellProbe p e).port q = e.port q := by
  unfold tellProbe
  split <;> rfl

theorem port_setPower (p q : Port) (st : PowerState) (e : Event) :
    (setPower p st e).port q = if q = p then { e.port p with power := { (e.port p).power with state := st } } else e.port q := by
  unfold setPower
  split
  · next h =>
    split
    · next hq => subst hq; subst h; rfl
    · rfl
  · rw [port_tellProbe, port_touch, port_modPower]

@[simp] theorem tellProbe_slots (p : Port) (e : Event) : (tellProbe p e).slots = e.slots := by
  unfold tellProbe
  split <;> rfl

@[simp] theorem tellProbe_budget (p : Port) (e : Event) : (tellProbe p e).budget = e.budget := by
  unfold tellProbe
  split <;> rfl

@[simp] theorem setPower_slots (p : Port) (st : PowerState) (e : Event) : (setPower p st e).slots = e.slots := by
  unfold setPower
  split <;> simp

@[simp] theorem setPower_budget (p : Port) (st : PowerState) (e : Event) : (setPower p st e).budget = e.budget := by
  unfold setPower
  split <;> simp

/-- Only a probe is told of a change of power (R154). -/
theorem setPower_agenda {p : Port} {e : Event} (h : (e.port p).probe = none) (st : PowerState) :
    (setPower p st e).agenda = e.agenda := by
  unfold setPower
  split
  · rfl
  · unfold tellProbe
    rw [if_neg (by simp [port_modPower, h])]
    simp

/-! ## Power-up (R62, R63, R65 to R67) -/

theorem takeStage_eq (e : Event) : takeStage e = { e with budget := { e.budget with stage := stageOf e.budget.stage e.budget.inrush } } := by
  unfold takeStage stageOf
  split <;> simp_all

/-- A POWER_UP claim that is granted (R63, R66, R67). -/
theorem grant_powerUp {c : PowerClaim} (h : c.kind = .powerUp) (e : Event) : ∃ x : Event,
    x = setPower c.port .queued (modPower c.port (fun w => { w with base := c.amount, rating := some c.rating }) e) ∧
    grant c e = { x with budget := { e.budget with
      inrush := e.budget.inrush ++ [c.port], stage := stageOf e.budget.stage (e.budget.inrush ++ [c.port]) } } := by
  refine ⟨_, rfl, ?_⟩
  unfold grant
  rw [h]
  dsimp only
  rw [takeStage_eq]
  have moved : ∀ (y : Event) (b : Budget), setPower c.port .queued { y with budget := b } =
      { setPower c.port .queued y with budget := b } := by
    intro y b
    unfold setPower tellProbe touch
    (repeat' split) <;> first | rfl | contradiction
  rw [moved]
  simp

theorem port_grant_powerUp {c : PowerClaim} (h : c.kind = .powerUp) (e : Event) (q : Port) : (grant c e).port q =
    if q = c.port then { e.port q with power := (e.port q).power.granted c } else e.port q := by
  obtain ⟨x, hx, hg⟩ := grant_powerUp h e
  have same : (grant c e).port q = x.port q := by rw [hg]; rfl
  rw [same, hx, port_setPower]
  split
  · next hq => subst hq; simp [port_modPower, PortPower.granted]
  · next hq => simp [port_modPower, hq]

theorem grant_powerUp_slots {c : PowerClaim} (h : c.kind = .powerUp) (e : Event) : (grant c e).slots = e.slots := by
  obtain ⟨x, hx, hg⟩ := grant_powerUp h e
  have same : (grant c e).slots = x.slots := by rw [hg]
  rw [same, hx]
  simp

theorem grant_powerUp_agenda {c : PowerClaim} (h : c.kind = .powerUp) {e : Event} (hp : (e.port c.port).probe = none) :
    (grant c e).agenda = e.agenda := by
  obtain ⟨x, hx, hg⟩ := grant_powerUp h e
  have same : (grant c e).agenda = x.agenda := by rw [hg]
  rw [same, hx, setPower_agenda (by simp [port_modPower, hp])]
  rfl

theorem grant_powerUp_budget {c : PowerClaim} (h : c.kind = .powerUp) (e : Event) : (grant c e).budget = { e.budget with
    inrush := e.budget.inrush ++ [c.port], stage := stageOf e.budget.stage (e.budget.inrush ++ [c.port]) } := by
  obtain ⟨x, hx, hg⟩ := grant_powerUp h e
  rw [hg]

/-! ### An event that only powers ports up -/

/-- No block has been told anything and no slot moved, and only POWER_UP claims wait. -/
structure Offering (s : State) (e : Event) : Prop where
  agenda : e.agenda = []
  slots : e.slots = s.slots
  kind : ∀ c ∈ e.budget.waitList, c.kind = .powerUp
  probe : ∀ p, (e.port p).probe = none

theorem firstFit_mem {room : Nat} {xs : List PowerClaim} {c : PowerClaim} {rest : List PowerClaim}
    (h : firstFit room xs = some (c, rest)) : c ∈ xs ∧ ∀ d ∈ rest, d ∈ xs := by
  induction xs generalizing rest with
  | nil => simp [firstFit] at h
  | cons x xs ih =>
    unfold firstFit at h
    split at h
    · obtain ⟨rfl, rfl⟩ : x = c ∧ xs = rest := by simpa using h
      exact ⟨by simp, fun d hd => by simp [hd]⟩
    · split at h
      · next d ds hd =>
        obtain ⟨rfl, rfl⟩ : d = c ∧ x :: ds = rest := by simpa using h
        obtain ⟨hc, hr⟩ := ih hd
        refine ⟨by simp [hc], fun y hy => ?_⟩
        obtain rfl | hy := List.mem_cons.mp hy
        · simp
        · simp [hr y hy]
      · simp at h

theorem Offering.grant {s : State} {e : Event} (h : Offering s e) {c : PowerClaim} (hc : c.kind = .powerUp) :
    Offering s (Machine.grant c e) where
  agenda := (grant_powerUp_agenda hc (h.probe c.port)).trans h.agenda
  slots := (grant_powerUp_slots hc e).trans h.slots
  kind := by rw [grant_powerUp_budget hc]; exact h.kind
  probe := fun p => by
    rw [port_grant_powerUp hc]
    split <;> exact h.probe p

theorem Offering.walkUpTo {s : State} (n : Nat) : ∀ {e : Event}, Offering s e → Offering s (Machine.walkUpTo n e) := by
  induction n with
  | zero => exact fun h => h
  | succ n ih =>
    intro e h
    unfold Machine.walkUpTo
    split
    · exact h
    · next c rest hf =>
      obtain ⟨hc, hr⟩ := firstFit_mem hf
      have shorter : Offering s { e with budget := { e.budget with waitList := rest } } :=
        ⟨h.agenda, h.slots, fun d hd => h.kind d (hr d hd), h.probe⟩
      exact ih (shorter.grant (h.kind c hc))

theorem Offering.arrive {s : State} {e : Event} (h : Offering s e) {c : PowerClaim} (hc : c.kind = .powerUp) :
    Offering s (Machine.arrive c e) := by
  unfold Machine.arrive
  split
  · exact h
  · refine Offering.walkUpTo _ ⟨h.agenda, h.slots, fun d hd => ?_, h.probe⟩
    obtain hd | hd := List.mem_append.mp hd
    · exact h.kind d hd
    · rw [List.mem_singleton.mp hd, hc]

theorem Offering.setPower {s : State} {e : Event} (h : Offering s e) (p : Port) (st : PowerState) :
    Offering s (Machine.setPower p st e) where
  agenda := (setPower_agenda (h.probe p) st).trans h.agenda
  slots := by simpa using h.slots
  kind := by simpa using h.kind
  probe := fun q => by
    rw [port_setPower]
    split
    · exact h.probe p
    · exact h.probe q

theorem Offering.offerPowerUp {s : State} {e : Event} (h : Offering s e) (p : Port) : Offering s (Machine.offerPowerUp p e) := by
  unfold Machine.offerPowerUp
  dsimp only
  split
  · rw [probeRuns, h.probe p]
    exact (h.setPower p .waiting).arrive rfl
  · exact h

theorem Offering.forPorts {s : State} (ps : List Port) : ∀ {e : Event}, Offering s e →
    Offering s (Machine.forPorts ps Machine.offerPowerUp e) := by
  induction ps with
  | nil => exact fun h => h
  | cons p ps ih => exact fun h => ih (h.offerPowerUp p)

/-- START, with no claim waiting and no probe running, tells no block anything and moves no slot before its answer. -/
theorem offering_startCell {s : State} (hw : s.budget.waitList = []) (hp : ∀ p, (s.ports.get p).probe = none) :
    Offering s (startCell (Event.of s)) := by
  obtain ⟨flags, count, traffic, programs, claims, -, hb⟩ := startBegun_eq (Event.of s)
  rw [startCell_eq]
  refine Offering.forPorts _ ?_
  rw [hb]
  exact ⟨rfl, rfl, fun c hc => by simp [Event.of, hw] at hc, hp⟩

/-! ### The answer of an accepted START -/

theorem control_startCell (e : Event) : ∃ programs : Vector Program 4, (∀ i, programs.get i = (e.trigger.programs.get i).disarm) ∧
    control (startCell e).toState = { control e.toState with
      cell := { e.cell with mode := .run, cause := some .start, storedCheck := sheetCheck e.toState
                            recheckAt := some (e.clock + 100000) }
      inForce := sheetBudget e.toState, encCount := 0, remainder := 0, programs := programs } := by
  obtain ⟨flags, count, traffic, programs, claims, hp, hb⟩ := startBegun_eq e
  refine ⟨programs, hp, ?_⟩
  rw [startCell_eq, control_forPorts _ _ _ control_offerPowerUp, hb]
  rfl

theorem control_carriedOn (e : Event) : ∃ reads, control (carriedOn e).toState =
    { control e.toState with handed := none, reads := reads } := by
  unfold carriedOn nextRecord
  split
  · split <;> exact ⟨_, rfl⟩
  · exact ⟨_, rfl⟩
  · exact ⟨_, rfl⟩

@[simp] theorem carriedOn_slots (e : Event) : (carriedOn e).slots = e.slots := (congrArg State.slots (bare_carriedOn e) :)

@[simp] theorem carriedOn_agenda (e : Event) : (carriedOn e).agenda = e.agenda := (nextRecord_quiet (by simp)).1

theorem exec_start_accepted {n : SlotNo} {s : State} (h : live s = true) (ho : handedOrder n s = some .start)
    (hm : s.cell.mode = .configure) (hs : s.cell.standing = true) (hc : ∀ p, openHoldings p s ≤ shareCap p s) :
    exec (.start n) s = .next (finish (carriedOn (doneSlot n [] (startCell (Event.of s))))).toState := by
  have accepted : carryStart n (Event.of s) = doneSlot n [] (startCell (Event.of s)) := by
    unfold carryStart
    rw [of_state, startRefusal_none hs hc]
  rw [exec_start h ho hm, accepted]

/-- The control part of the state that an accepted START answers (R30). -/
theorem control_start (n : SlotNo) (s : State) : ∃ programs reads, (∀ i, programs.get i = (s.trigger.programs.get i).disarm) ∧
    control (finish (carriedOn (doneSlot n [] (startCell (Event.of s))))).toState = { control s with
      cell := { s.cell with mode := .run, cause := some .start, storedCheck := sheetCheck s
                            recheckAt := some (s.clock + 100000) }
      inForce := sheetBudget s, encCount := 0, remainder := 0, programs := programs, handed := none, reads := reads } := by
  obtain ⟨programs, hp, begun⟩ := control_startCell (Event.of s)
  obtain ⟨reads, carried⟩ := control_carriedOn (doneSlot n [] (startCell (Event.of s)))
  exact ⟨programs, reads, hp, by rw [control_finish, carried, control_doneSlot, begun]; rfl⟩

/-- With no claim waiting and no probe running START is DONE, and no other slot moves. -/
theorem slots_start (n : SlotNo) (s : State) (hw : s.budget.waitList = []) (hp : ∀ p, (s.ports.get p).probe = none) :
    ((finish (carriedOn (doneSlot n [] (startCell (Event.of s))))).slots.get n).state = .done ∧
    ∀ k, k ≠ n → (finish (carriedOn (doneSlot n [] (startCell (Event.of s))))).slots.get k = s.slots.get k := by
  have offering := offering_startCell hw hp
  generalize startCell (Event.of s) = e at offering ⊢
  have slots : (finish (carriedOn (doneSlot n [] e))).slots = (doneSlot n [] e).slots :=
    (finish_slots (by simp [offering.agenda])).trans (carriedOn_slots _)
  obtain ⟨c, done⟩ := get_finishSlot_self n .done .none 0 [] e
  rw [slots]
  exact ⟨congrArg Slot.state done, fun k hk => (get_finishSlot_ne hk _ _ _ _ e).trans
    (congrArg (fun v => Vector.get v k) offering.slots)⟩

/-- Settles O19: the refusals by what START finds, and what it does from the control part. -/
theorem startMovesToRun : Obligations.StartMovesToRun := by
  intro n s h ho hm
  refine ⟨fun hs => ?_, fun hs hp => ?_, fun hs hc => ⟨_, exec_start_accepted h ho hm hs hc, ?_⟩⟩
  · exact exec_start_refused h ho hm (startRefusal_wrongMode hs)
  · exact exec_start_refused h ho hm (startRefusal_overShare hs hp)
  · obtain ⟨programs, reads, disarmed, moved⟩ := control_start n s
    have answered := slots_start n s
    generalize (finish (carriedOn (doneSlot n [] (startCell (Event.of s))))).toState = t at moved answered ⊢
    refine ⟨congrArg Control.cell moved, congrArg Control.inForce moved, congrArg Control.encCount moved,
      congrArg Control.remainder moved, fun i => ?_, congrArg Control.handed moved, answered⟩
    exact (congrArg (fun c => Vector.get (Control.programs c) i) moved).trans (disarmed i)

end Sys2Proof.Machine

namespace Sys2Proof.Machine

/-! ## START's power-up (R30, R62 to R67) -/

/-! ### What is allotted -/

theorem allotted_eq_sum (s : State) : allotted s = ∑ p, (s.ports.get p).power.held := by
  have entries : s.ports.toList = List.ofFn fun p => s.ports.get p := by
    refine List.ext_getElem (by simp) fun i h₁ h₂ => ?_
    rw [Vector.getElem_toList, List.getElem_ofFn, Vector.get_eq_getElem]
  unfold allotted
  rw [entries, List.map_ofFn, List.sum_ofFn]
  rfl

/-- A change of one port moves what is allotted by that port's share. -/
theorem allotted_of_port {s t : State} (p : Port) (h : ∀ q, q ≠ p → (t.ports.get q).power.held = (s.ports.get q).power.held) :
    allotted t + (s.ports.get p).power.held = allotted s + (t.ports.get p).power.held := by
  have split : ∀ u : State, allotted u = (u.ports.get p).power.held + ∑ q ∈ Finset.univ.erase p, (u.ports.get q).power.held :=
    fun u => (allotted_eq_sum u).trans (Finset.add_sum_erase _ (fun q => (u.ports.get q).power.held) (Finset.mem_univ p)).symm
  have rest : ∑ q ∈ Finset.univ.erase p, (t.ports.get q).power.held = ∑ q ∈ Finset.univ.erase p, (s.ports.get q).power.held :=
    Finset.sum_congr rfl fun q hq => h q (Finset.ne_of_mem_erase hq)
  rw [split t, split s, rest]
  omega

/-! ### A walk at an arrival (R62, R63) -/

theorem firstFit_none {room : Nat} {xs : List PowerClaim} (h : ∀ c ∈ xs, room < c.amount) : firstFit room xs = none := by
  induction xs with
  | nil => rfl
  | cons x xs ih =>
    unfold firstFit
    rw [if_neg (Nat.not_le.mpr (h x (by simp))), ih fun c hc => h c (by simp [hc])]

theorem firstFit_last {room : Nat} {xs : List PowerClaim} (h : ∀ c ∈ xs, room < c.amount) {c : PowerClaim} (hc : c.amount ≤ room) :
    firstFit room (xs ++ [c]) = some (c, xs) := by
  induction xs with
  | nil => simp [firstFit, hc]
  | cons x xs ih =>
    rw [List.cons_append, firstFit, if_neg (Nat.not_le.mpr (h x (by simp))), ih fun d hd => h d (by simp [hd])]

/-- No waiting claim fits: a walk grants none. -/
theorem walkUpTo_none {e : Event} (h : ∀ c ∈ e.budget.waitList, room e.toState < c.amount) (n : Nat) : walkUpTo n e = e := by
  cases n with
  | zero => rfl
  | succ n =>
    unfold walkUpTo
    rw [firstFit_none h]

/-- A claim that arrives behind claims that do not fit, and fits, is the one granted; the others fit still less. -/
theorem arrive_fits {c : PowerClaim} {e : Event} (hw : claimWaits c.port c.kind e.toState = false)
    (ht : ∀ d ∈ e.budget.waitList, room e.toState < d.amount) (hc : c.amount ≤ room e.toState)
    (hg : (grant c e).budget.waitList = e.budget.waitList) (hr : room (grant c e).toState ≤ room e.toState) :
    arrive c e = grant c e := by
  have back : ({ e with budget := { e.budget with waitList := e.budget.waitList } } : Event) = e := rfl
  unfold arrive walk
  rw [if_neg (by simp [hw])]
  dsimp only
  rw [List.length_append, List.length_singleton, walkUpTo]
  change (match firstFit (room e.toState) (e.budget.waitList ++ [c]) with
    | none => _
    | some (d, rest) => walkUpTo e.budget.waitList.length (grant d { e with budget := { e.budget with waitList := rest } })) = _
  rw [firstFit_last ht hc]
  dsimp only
  rw [back, walkUpTo_none]
  intro d hd
  rw [hg] at hd
  exact hr.trans_lt (ht d hd)

/-- One that does not fit waits behind them. -/
theorem arrive_waits {c : PowerClaim} {e : Event} (hw : claimWaits c.port c.kind e.toState = false)
    (ht : ∀ d ∈ e.budget.waitList, room e.toState < d.amount) (hc : room e.toState < c.amount) :
    arrive c e = { e with budget := { e.budget with waitList := e.budget.waitList ++ [c] } } := by
  unfold arrive
  rw [if_neg (by simp [hw])]
  refine walkUpTo_none (fun d hd => ?_) _
  obtain hd | hd := List.mem_append.mp hd
  · exact ht d hd
  · rw [List.mem_singleton.mp hd]
    exact hc

/-- The walk over a list with one claim more. -/
theorem walked_append (r : Nat) (xs : List PowerClaim) (c : PowerClaim) : walked r (xs ++ [c]) =
    if c.amount ≤ r - ((walked r xs).1.map (·.amount)).sum then ((walked r xs).1 ++ [c], (walked r xs).2)
    else ((walked r xs).1, (walked r xs).2 ++ [c]) := by
  induction xs generalizing r with
  | nil => simp [walked]
  | cons x xs ih =>
    simp only [List.cons_append, walked]
    by_cases hx : x.amount ≤ r
    · simp only [if_pos hx, ih, List.map_cons, List.sum_cons, Nat.sub_sub]
      split <;> simp
    · simp only [if_neg hx, ih]
      split <;> simp

/-- Every claim of a walk is granted or left waiting. -/
theorem mem_walked {r : Nat} {xs : List PowerClaim} {c : PowerClaim} (h : c ∈ (walked r xs).1 ∨ c ∈ (walked r xs).2) : c ∈ xs := by
  induction xs generalizing r with
  | nil => simp [walked] at h
  | cons x xs ih =>
    unfold walked at h
    split at h
    · obtain h | h := h
      · obtain rfl | h := List.mem_cons.mp h
        · simp
        · simp [ih (.inl h)]
      · simp [ih (.inr h)]
    · obtain h | h := h
      · simp [ih (.inl h)]
      · obtain rfl | h := List.mem_cons.mp h
        · simp
        · simp [ih (.inr h)]

/-- A stage that a queue has been given serves the same port when the queue grows. -/
theorem stageOf_append (st : InrushStage) (xs ys : List Port) : stageOf (stageOf st xs) (xs ++ ys) = stageOf st (xs ++ ys) := by
  cases st <;> cases xs <;> rfl

/-! ### The offers in ascending port number -/

/-- The walk over the offers xs of a START in state s. -/
def startWalk (s : State) (xs : List PowerClaim) : List PowerClaim × List PowerClaim := walked (sheetBudget s - allotted s) xs

/-- A port of which one change after another has moved the power record alone. -/
theorem power_alone {q x y : PortState} {w : PortPower} (hy : y = { x with power := w }) (hx : x = { q with power := x.power }) :
    y = { q with power := y.power } := by
  subst hy
  exact congrArg (fun z => { z with power := w }) hx

/-- The offers xs of a START in state s have been made. -/
structure Offered (s : State) (xs : List PowerClaim) (e : Event) : Prop where
  quiet : Offering s e
  mode : e.cell.mode = .run
  sheet : e.cell.sheet = s.cell.sheet
  port : ∀ p, e.port p = { s.ports.get p with power := (e.port p).power }
  budget : e.budget = { s.budget with
    inForce := sheetBudget s, waitList := (startWalk s xs).2
    inrush := s.budget.inrush ++ (startWalk s xs).1.map (·.port)
    stage := if (startWalk s xs).1 = [] then s.budget.stage
      else stageOf s.budget.stage (s.budget.inrush ++ (startWalk s xs).1.map (·.port)) }
  granted : ∀ c ∈ (startWalk s xs).1, (e.port c.port).power = (s.ports.get c.port).power.granted c
  waiting : ∀ c ∈ (startWalk s xs).2, (e.port c.port).power = { (s.ports.get c.port).power with state := .waiting }
  others : ∀ p, p ∉ xs.map (·.port) → (e.port p).power = (s.ports.get p).power
  allotted : allotted e.toState = Machine.allotted s + ((startWalk s xs).1.map (·.amount)).sum
  tight : ∀ c ∈ (startWalk s xs).2, room e.toState < c.amount

theorem Offered.room {s : State} {xs : List PowerClaim} {e : Event} (h : Offered s xs e) :
    Machine.room e.toState = sheetBudget s - Machine.allotted s - ((startWalk s xs).1.map (·.amount)).sum := by
  rw [Machine.room, h.allotted, h.budget, Nat.sub_sub]


@[simp] theorem allotted_setPower (p : Port) (st : PowerState) (e : Event) : allotted (setPower p st e).toState = allotted e.toState := by
  have held : ∀ q, ((setPower p st e).port q).power.held = (e.port q).power.held := fun q => by
    rw [port_setPower]
    split
    · next hq => subst hq; rfl
    · rfl
  have moved := allotted_of_port (s := e.toState) (t := (setPower p st e).toState) p fun q _ => held q
  exact Nat.add_right_cancel (moved.trans (congrArg _ (held p)))

@[simp] theorem room_setPower (p : Port) (st : PowerState) (e : Event) : room (setPower p st e).toState = room e.toState := by
  simp [room]

theorem cell_grant (c : PowerClaim) (e : Event) : (grant c e).cell = e.cell := congrArg Control.cell (control_grant c e)

theorem cell_setPower (p : Port) (st : PowerState) (e : Event) : (setPower p st e).cell = e.cell :=
  congrArg Control.cell (control_setPower p st e)

/-- The claim that a port offers is the same all along: no offer moves a sheet, a cable or the cell's copy. -/
theorem Offered.offer {s : State} {xs : List PowerClaim} {e : Event} (h : Offered s xs e) {p : Port}
    (hc : (s.ports.get p).cycle = none) : offerPowerUp p e =
    if (e.port p).power.state = .off ∧ wantOf (s.ports.get p) ≠ .off then arrive (powerUpClaim s p) (setPower p .waiting e) else e := by
  have want : wantOf (e.port p) = wantOf (s.ports.get p) := by rw [h.port p]; rfl
  have cycle : cycleRuns p e = false := by
    rw [cycleRuns, h.port p]
    exact congrArg Option.isSome hc
  have declared : declaredPower (e.port p) = declaredPower (s.ports.get p) := by rw [h.port p]; rfl
  have loop : loopOf p e.toState = loopOf p s := by
    unfold loopOf
    rw [h.sheet, show e.ports.get p = _ from h.port p]
  have claim : powerUp p e = arrive (powerUpClaim s p) (setPower p .waiting e) := by
    unfold powerUp powerUpClaim allotment
    rw [declared, loop]
  unfold offerPowerUp
  dsimp only
  rw [want, cycle, h.mode, claim, probeRuns, h.quiet.probe p]
  simp

/-- A claim that arrives with room for it. -/
theorem Offered.grant {s : State} {xs : List PowerClaim} {e : Event} (h : Offered s xs e) {p : Port}
    {c : PowerClaim} (kind : c.kind = .powerUp) (hcp : c.port = p) (hp : p ∉ xs.map (·.port)) (hb : (s.ports.get p).power.base = 0)
    (hc : c.amount ≤ Machine.room e.toState) {e' : Event}
    (he : e' = Machine.grant c (setPower p .waiting e)) : Offered s (xs ++ [c]) e' := by
  have walk : startWalk s (xs ++ [c]) = ((startWalk s xs).1 ++ [c], (startWalk s xs).2) :=
    (walked_append _ _ _).trans (if_pos (by rw [← startWalk, ← h.room]; exact hc))
  have quiet : Offering s e' := he ▸ (h.quiet.setPower p .waiting).grant kind
  have cell : e'.cell = e.cell := by rw [he, cell_grant, cell_setPower]
  have budget : e'.budget = { e.budget with
      inrush := e.budget.inrush ++ [p], stage := stageOf e.budget.stage (e.budget.inrush ++ [p]) } := by
    rw [he, grant_powerUp_budget kind, setPower_budget, hcp]
  have power : ∀ q, (e'.port q).power =
      if q = p then (s.ports.get p).power.granted c else (e.port q).power := fun q => by
    rw [he, port_grant_powerUp kind, port_setPower]
    by_cases hq : q = p
    · subst hq
      simp [PortPower.granted, hcp, ← h.others q hp]
    · simp [hq, hcp]
  have apart : ∀ d, d ∈ (startWalk s xs).1 ∨ d ∈ (startWalk s xs).2 → d.port ≠ p := fun d hd hdp =>
    hp (List.mem_map.mpr ⟨d, mem_walked hd, hdp⟩)
  have port : ∀ q, e'.port q = { e.port q with power := (e'.port q).power } := fun q => by
    rw [he, port_grant_powerUp kind, port_setPower]
    by_cases hq : q = p
    · subst hq; simp [hcp]
    · simp [hq, hcp]
  clear he
  have allotted : Machine.allotted e'.toState = Machine.allotted e.toState + c.amount := by
    have moved := allotted_of_port (s := e.toState) (t := e'.toState) p
      fun q hq => congrArg PortPower.held ((power q).trans (if_neg hq))
    have before : (e.ports.get p).power.held = (s.ports.get p).power.motion := by
      rw [show (e.ports.get p).power = _ from h.others p hp, PortPower.held, hb, Nat.zero_add]
    have behind : (e'.ports.get p).power.held =
        c.amount + (s.ports.get p).power.motion :=
      congrArg PortPower.held ((power p).trans (if_pos rfl))
    rw [before, behind] at moved
    omega
  have before : ∀ d, d ∈ (startWalk s xs).1 ∨ d ∈ (startWalk s xs).2 → (e'.port d.port).power = (e.port d.port).power :=
    fun d hd => (power d.port).trans (if_neg (apart d hd))
  refine ⟨quiet, ?_, ?_, fun q => power_alone (port q) (h.port q), ?_, fun d hd => ?_, fun d hd => ?_, fun q hq => ?_, ?_,
    fun d hd => ?_⟩
  · rw [cell, h.mode]
  · rw [cell, h.sheet]
  · rw [budget, h.budget, walk]
    simp only [List.map_append, List.map_cons, List.map_nil, List.append_assoc, List.append_eq_nil_iff, List.cons_ne_nil,
      and_false, if_false]
    split
    · next hg => simp [hg, hcp]
    · rw [← List.append_assoc, stageOf_append, hcp, List.append_assoc]
  · rw [walk] at hd
    obtain hd | hd := List.mem_append.mp hd
    · rw [before d (.inl hd), h.granted d hd]
    · rw [List.mem_singleton.mp hd, hcp]
      exact (power p).trans (if_pos rfl)
  · rw [walk] at hd
    rw [before d (.inr hd), h.waiting d hd]
  · have hqp : q ≠ p := fun hqp => hq (by simp [hqp, hcp])
    rw [power q, if_neg hqp, h.others q fun hx => hq (by simp [hx])]
  · rw [allotted, h.allotted, walk]
    simp [Nat.add_assoc]
  · rw [walk] at hd
    have less : Machine.room e'.toState ≤ Machine.room e.toState := by
      rw [Machine.room, Machine.room, allotted, budget]
      exact Nat.sub_le_sub_left (Nat.le_add_right _ _) _
    exact less.trans_lt (h.tight d hd)

/-- One that finds too little. -/
theorem Offered.wait {s : State} {xs : List PowerClaim} {e : Event} (h : Offered s xs e) {p : Port}
    {c : PowerClaim} (kind : c.kind = .powerUp) (hcp : c.port = p) (hp : p ∉ xs.map (·.port))
    (hc : Machine.room e.toState < c.amount) {e' : Event}
    (he : e' = { setPower p .waiting e with
      budget := { e.budget with waitList := e.budget.waitList ++ [c] } }) :
    Offered s (xs ++ [c]) e' := by
  have walk : startWalk s (xs ++ [c]) = ((startWalk s xs).1, (startWalk s xs).2 ++ [c]) :=
    (walked_append _ _ _).trans (if_neg (by rw [← startWalk, ← h.room]; exact Nat.not_le.mpr hc))
  have port : ∀ q, e'.port q = (setPower p .waiting e).port q := fun q => by rw [he]; rfl
  have power : ∀ q, (e'.port q).power = if q = p then { (s.ports.get p).power with state := .waiting } else (e.port q).power :=
    fun q => by
      rw [port, port_setPower, ← h.others p hp]
      split <;> rfl
  have apart : ∀ d, d ∈ (startWalk s xs).1 ∨ d ∈ (startWalk s xs).2 → d.port ≠ p := fun d hd hdp =>
    hp (List.mem_map.mpr ⟨d, mem_walked hd, hdp⟩)
  have before : ∀ d, d ∈ (startWalk s xs).1 ∨ d ∈ (startWalk s xs).2 → (e'.port d.port).power = (e.port d.port).power :=
    fun d hd => (power d.port).trans (if_neg (apart d hd))
  have allotted : Machine.allotted e'.toState = Machine.allotted e.toState := by
    rw [he]
    exact allotted_setPower p .waiting e
  have room : Machine.room e'.toState = Machine.room e.toState := by
    rw [Machine.room, Machine.room, allotted, he]
  have quiet := h.quiet.setPower p .waiting
  refine ⟨⟨?_, ?_, fun d hd => ?_, fun q => ?_⟩, ?_, ?_, fun q => ?_, ?_, fun d hd => ?_, fun d hd => ?_, fun q hq => ?_, ?_,
    fun d hd => ?_⟩
  · rw [he]; exact quiet.agenda
  · rw [he]; exact quiet.slots
  · rw [he] at hd
    obtain hd | hd := List.mem_append.mp hd
    · exact h.quiet.kind d hd
    · rw [List.mem_singleton.mp hd]; exact kind
  · rw [port]; exact quiet.probe q
  · rw [he]; exact (congrArg CellCtl.mode (cell_setPower p _ e)).trans h.mode
  · rw [he]; exact (congrArg CellCtl.sheet (cell_setPower p _ e)).trans h.sheet
  · refine power_alone (w := (e'.port q).power) ?_ (h.port q)
    rw [port, port_setPower]
    by_cases hq : q = p
    · subst hq; simp
    · simp [hq]
  · rw [he, walk]
    dsimp only
    rw [h.budget]
  · rw [walk] at hd
    rw [before d (.inl hd), h.granted d hd]
  · rw [walk] at hd
    obtain hd | hd := List.mem_append.mp hd
    · rw [before d (.inr hd), h.waiting d hd]
    · rw [List.mem_singleton.mp hd, hcp]
      exact (power p).trans (if_pos rfl)
  · have hqp : q ≠ p := fun hqp => hq (by simp [hqp, hcp])
    rw [power q, if_neg hqp, h.others q fun hx => hq (by simp [hx])]
  · rw [allotted, h.allotted, walk]
  · rw [walk] at hd
    rw [room]
    obtain hd | hd := List.mem_append.mp hd
    · exact h.tight d hd
    · rw [List.mem_singleton.mp hd]
      exact hc

/-- The ports that offer their claim at a START: OFF, with a want of ON or STANDBY (R30, R65). -/
def offersAt (s : State) (p : Port) : Bool := (s.ports.get p).power.state == .off && wantOf (s.ports.get p) != .off

/-- The next port offers its claim, or nothing. -/
theorem Offered.next {s : State} {xs : List PowerClaim} {e : Event} (h : Offered s xs e) {p : Port} (hp : p ∉ xs.map (·.port))
    (hc : (s.ports.get p).cycle = none) (hb : (s.ports.get p).power.state = .off → (s.ports.get p).power.base = 0) :
    Offered s (xs ++ ([p].filter (offersAt s)).map (powerUpClaim s)) (offerPowerUp p e) := by
  rw [h.offer hc, h.others p hp]
  by_cases ho : (s.ports.get p).power.state = .off ∧ wantOf (s.ports.get p) ≠ .off
  · have offers : ([p].filter (offersAt s)).map (powerUpClaim s) = [powerUpClaim s p] := by simp [offersAt, ho]
    have apart : claimWaits p .powerUp (setPower p .waiting e).toState = false := by
      rw [claimWaits, setPower_budget, h.budget]
      refine List.any_eq_false.mpr fun c hc => ?_
      have : c.port ≠ p := fun hcp => hp (List.mem_map.mpr ⟨c, mem_walked (.inr hc), hcp⟩)
      simp [this]
    have tight : ∀ d ∈ (setPower p .waiting e).budget.waitList, Machine.room (setPower p .waiting e).toState < d.amount := by
      rw [setPower_budget, room_setPower, h.budget]
      exact h.tight
    rw [if_pos ho, offers]
    generalize hq : powerUpClaim s p = c
    have kind : c.kind = .powerUp := by rw [← hq]; rfl
    have port : c.port = p := by rw [← hq]; rfl
    have apart : claimWaits c.port c.kind (setPower p .waiting e).toState = false := by rw [port, kind]; exact apart
    obtain fits | waits := Nat.lt_or_ge (Machine.room e.toState) c.amount
    · rw [arrive_waits apart tight (by rwa [room_setPower])]
      exact h.wait kind port hp fits (by rw [setPower_budget])
    · have granted := h.grant kind port hp (hb ho.1) waits rfl
      rw [arrive_fits apart tight (by rwa [room_setPower]) (by rw [grant_powerUp_budget kind])]
      · exact granted
      · rw [granted.room, room_setPower, h.room]
        have walk : (startWalk s (xs ++ [c])).1 = (startWalk s xs).1 ++ [c] :=
          congrArg Prod.fst ((walked_append _ _ _).trans (if_pos (by rw [← startWalk, ← h.room]; exact waits)))
        rw [walk, List.map_append, List.sum_append]
        exact Nat.sub_le_sub_left (Nat.le_add_right _ _) _
  · have offers : ([p].filter (offersAt s)).map (powerUpClaim s) = [] := by
      simpa [offersAt] using ho
    rw [if_neg ho, offers, List.append_nil]
    exact h

theorem Offered.forPorts {s : State} (hc : ∀ p, (s.ports.get p).cycle = none)
    (hb : ∀ p, (s.ports.get p).power.state = .off → (s.ports.get p).power.base = 0) (ps : List Port) (hps : ps.Nodup) :
    ∀ {xs : List PowerClaim} {e : Event}, Offered s xs e → (∀ p ∈ ps, p ∉ xs.map (·.port)) →
    Offered s (xs ++ (ps.filter (offersAt s)).map (powerUpClaim s)) (Machine.forPorts ps offerPowerUp e) := by
  induction ps with
  | nil => exact fun h _ => by simpa [Machine.forPorts] using h
  | cons p ps ih =>
    intro xs e h hx
    obtain ⟨hp, hps⟩ := List.nodup_cons.mp hps
    have first := h.next (hx p (by simp)) (hc p) (hb p)
    have rest := ih hps first fun q hq hm => by
      rw [List.map_append, List.mem_append] at hm
      obtain hm | hm := hm
      · exact hx q (by simp [hq]) hm
      · have same : offersAt s p = true ∧ q = p := by simpa [List.filter_cons, apply_ite, powerUpClaim] using hm
        exact hp (same.2 ▸ hq)
    rw [List.append_assoc, ← List.map_append, ← List.filter_append] at rest
    exact rest

theorem offered_startBegun {s : State} (hw : s.budget.waitList = []) (hp : ∀ p, (s.ports.get p).probe = none) :
    Offered s [] (startBegun (Event.of s)) := by
  obtain ⟨flags, count, traffic, programs, claims, -, hb⟩ := startBegun_eq (Event.of s)
  generalize startBegun (Event.of s) = e at hb ⊢
  subst hb
  refine ⟨⟨rfl, rfl, fun c hc => by simp [Event.of, hw] at hc, hp⟩, rfl, rfl, fun p => rfl, ?_, ?_, ?_, fun p _ => rfl, rfl, ?_⟩
  · simp [startWalk, walked, Event.of, hw]
  all_goals simp [startWalk, walked]

/-- What START's power-up leaves (R30, R63, R65 to R67). -/
theorem start_powersUp {n : SlotNo} {s : State} (hw : s.budget.waitList = [])
    (hp : ∀ p, (s.ports.get p).probe = none ∧ (s.ports.get p).cycle = none)
    (hb : ∀ p, (s.ports.get p).power.state = .off → (s.ports.get p).power.base = 0) {xs : List PowerClaim}
    (hx : xs = (allPorts.filter (offersAt s)).map (powerUpClaim s)) {t : State}
    (ht : t = (finish (carriedOn (doneSlot n [] (startCell (Event.of s))))).toState) :
    ∃ e, Offered s xs e ∧ t.budget = e.budget ∧ ∀ p, (t.ports.get p).power = (e.port p).power := by
  have offered : Offered s xs (startCell (Event.of s)) := by
    rw [startCell_eq, hx]
    exact Offered.forPorts (fun p => (hp p).2) hb allPorts (by decide) (offered_startBegun hw fun p => (hp p).1) (by simp)
  generalize startCell (Event.of s) = e at offered ht
  refine ⟨e, offered, ?_⟩
  have bare : t.bare = { (doneSlot n [] e).bare with handed := none } := by
    rw [ht, bare_finish (by simp [offered.quiet.agenda]), bare_carriedOn]
  rw [doneSlot, bare_finishSlot] at bare
  refine ⟨(congrArg State.budget bare :), fun p => ?_⟩
  have port : t.bare.ports.get p = e.bare.ports.get p := (congrArg (fun u => Vector.get (State.ports u) p) bare :)
  rw [bare_port, bare_port] at port
  exact (congrArg PortState.power port :)

end Sys2Proof.Machine

namespace Sys2Proof.Machine

/-! ## What a teardown leaves of the ports (R32, R78, R94)

The face of a port is what a teardown settles of it; what runs on it, its counts and its report are not part of it. -/

/-- The parts of a port's record that a removal of power moves or keeps. -/
structure Face where
  sheet : Option PortSheet
  power : PortPower
  link : PortLink
  lens : LensRec
  cable : CableRec
  faults : PortFaults
  queue : List QEntry

def PortState.face (q : PortState) : Face where
  sheet := q.sheet
  power := q.power
  link := q.link
  lens := q.lens
  cable := q.cable
  faults := q.faults
  queue := q.queue

def faces (e : Event) (p : Port) : Face := (e.port p).face

theorem faces_modPort {p : Port} {f : PortState → PortState} {g : Face → Face} (h : ∀ q, (f q).face = g q.face) (e : Event) :
    faces (modPort p f e) = Function.update (faces e) p (g (faces e p)) := by
  funext q
  by_cases hq : q = p
  · subst hq; simp [faces, port_modPort, h]
  · simp [faces, port_modPort, hq]

/-- A change of a port that its face does not show. -/
theorem faces_modPort_same {p : Port} {f : PortState → PortState} (h : ∀ q, (f q).face = q.face) (e : Event) :
    faces (modPort p f e) = faces e := (faces_modPort (g := id) h e).trans (Function.update_eq_self _ _)

@[simp] theorem faces_tell (t : Task) (e : Event) : faces (tell t e) = faces e := rfl

@[simp] theorem faces_touch (p : Port) (e : Event) : faces (touch p e) = faces e := by
  unfold touch
  split <;> rfl

@[simp] theorem faces_tellProbe (p : Port) (e : Event) : faces (tellProbe p e) = faces e := by
  unfold tellProbe
  split <;> rfl

@[simp] theorem faces_modSweep (p : Port) (f : SweepRun → SweepRun) (e : Event) : faces (modSweep p f e) = faces e :=
  faces_modPort_same (by exact fun _ => rfl) e

@[simp] theorem faces_modProbe (p : Port) (f : ProbeRun → ProbeRun) (e : Event) : faces (modProbe p f e) = faces e :=
  faces_modPort_same (by exact fun _ => rfl) e

theorem faces_modPower (p : Port) (f : PortPower → PortPower) (e : Event) :
    faces (modPower p f e) = Function.update (faces e) p { faces e p with power := f (faces e p).power } :=
  faces_modPort (g := fun q => { q with power := f q.power }) (fun _ => rfl) e

theorem faces_modLink (p : Port) (f : PortLink → PortLink) (e : Event) :
    faces (modLink p f e) = Function.update (faces e) p { faces e p with link := f (faces e p).link } :=
  faces_modPort (g := fun q => { q with link := f q.link }) (fun _ => rfl) e

theorem faces_modLens (p : Port) (f : LensRec → LensRec) (e : Event) :
    faces (modLens p f e) = Function.update (faces e) p { faces e p with lens := f (faces e p).lens } :=
  faces_modPort (g := fun q => { q with lens := f q.lens }) (fun _ => rfl) e

theorem faces_setPower (p : Port) (st : PowerState) (e : Event) : faces (setPower p st e) =
    Function.update (faces e) p { faces e p with power := { (faces e p).power with state := st } } := by
  unfold setPower
  split
  · next h =>
    refine (Function.update_eq_self_iff.mpr ?_).symm
    subst h
    rfl
  · rw [faces_tellProbe, faces_touch, faces_modPower]

theorem faces_setLink (p : Port) (st : LinkState) (e : Event) : faces (setLink p st e) =
    Function.update (faces e) p { faces e p with link := { (faces e p).link with state := st } } := by
  unfold setLink
  split
  · next h =>
    refine (Function.update_eq_self_iff.mpr ?_).symm
    subst h
    rfl
  · rw [faces_tellProbe, faces_touch, faces_modLink]

theorem faces_setLens (p : Port) (st : LensState) (e : Event) : faces (setLens p st e) =
    Function.update (faces e) p { faces e p with lens := { (faces e p).lens with state := st } } := by
  unfold setLens
  split
  · next h =>
    refine (Function.update_eq_self_iff.mpr ?_).symm
    subst h
    rfl
  · rw [faces_touch, faces_modLens]

/-- The links' windows and histories (R93). -/
def PortLink.forget (l : PortLink) : PortLink := { l with motionHistory := [], restHistory := [], motionWindow := 0, restWindow := 0 }

theorem faces_emptyHistories (p : Port) (e : Event) :
    faces (emptyHistories p e) = Function.update (faces e) p { faces e p with link := (faces e p).link.forget } :=
  faces_modPort (g := fun q => { q with link := q.link.forget }) (fun _ => rfl) e

@[simp] theorem faces_sweepSpoiled (p : Port) (e : Event) : faces (sweepSpoiled p e) = faces e := by
  unfold sweepSpoiled
  (repeat' split) <;> simp [recordStep]

@[simp] theorem faces_tellIfDrained (p : Port) (e : Event) : faces (tellIfDrained p e) = faces e := by
  unfold tellIfDrained
  split <;> rfl

/-! ### Buffers -/

@[simp] theorem faces_writeBuffer (b : Nat) (e : Event) : faces (writeBuffer b e) = faces e := by
  unfold writeBuffer
  split <;> rfl

@[simp] theorem faces_raiseFlags (bits : BitVec 14) (e : Event) : faces (raiseFlags bits e) = faces e := by
  rw [raiseFlags_eq]
  rfl

@[simp] theorem faces_countDelivery (x : Entry) (e : Event) : faces (countDelivery x e) = faces e := by
  unfold countDelivery
  split
  · exact faces_modPort_same (by exact fun _ => rfl) e
  · rfl

@[simp] theorem faces_modEntry (b : Nat) (f : Entry → Entry) (e : Event) : faces (modEntry b f e) = faces e := rfl

@[simp] theorem faces_deliver (b : Nat) (o : FrameOutcome) (e : Event) : faces (deliver b o e) = faces e := by
  unfold deliver
  split <;> simp

@[simp] theorem faces_returnGiven (b : Nat) (e : Event) : faces (returnGiven b e) = faces e := by
  unfold returnGiven
  (repeat' split) <;> simp

@[simp] theorem faces_loseFrame (p : Port) (b : Nat) (e : Event) : faces (loseFrame p b e) = faces e := by
  unfold loseFrame
  (repeat' split) <;> simp

@[simp] theorem faces_poolShare (b : Nat) (e : Event) : faces (poolShare b e) = faces e := by
  unfold poolShare
  (repeat' split) <;> simp

theorem faces_forEntries (f : Nat → Event → Event) (e : Event) (h : ∀ b x, faces (f b x) = faces x) :
    faces (forEntries f e) = faces e := by
  unfold forEntries
  generalize List.range e.pool.entries.length = bs
  induction bs generalizing e with
  | nil => rfl
  | cons b bs ih => rw [List.foldl_cons, ih, h]

@[simp] theorem faces_spoilFrames (p : Port) (e : Event) : faces (spoilFrames p e) = faces e := by
  have lost : faces (forEntries (loseFrame p) (sweepSpoiled p e)) = faces e :=
    (faces_forEntries _ _ fun b x => faces_loseFrame p b x).trans (faces_sweepSpoiled p e)
  unfold spoilFrames loseFrames
  dsimp only
  split
  · exact lost
  · rw [faces_tellIfDrained]; exact lost

/-! ### The Power Manager's share (R32) -/

/-- A link made DARK (R94). -/
def PortLink.dark (l : PortLink) : PortLink := if l.state = .dark then l else { l.darken.forget with state := .dark }

theorem faces_linkDark (p : Port) (e : Event) :
    faces (linkDark p e) = Function.update (faces e) p { faces e p with link := (faces e p).link.dark } := by
  unfold linkDark
  split
  · next h =>
    have same : (faces e p).link.dark = (faces e p).link := if_pos h
    rw [same]
    exact (Function.update_eq_self _ _).symm
  · next h =>
    have moved : (faces e p).link.dark = { (faces e p).link.darken.forget with state := .dark } := if_neg h
    rw [faces_spoilFrames, faces_setLink, faces_emptyHistories, faces_modLink, moved]
    simp

/-- What the Power Manager's share of a teardown makes of a port (R32, R78, R94, R143). -/
def Face.down (q : Face) : Face :=
  if q.power.state.powered then
    { q with
      power := { PortPower.cut { q.power with owed := false } with state := .off }
      link := q.link.dark
      lens := { q.lens.lose true with state := q.lens.state.lost true } }
  else if q.power.state = .waiting ∨ q.power.state = .retryWait then
    { q with power := { q.power with owed := false, retryAt := none, retryEnded := false, state := .off } }
  else { q with power := { q.power with owed := false } }

theorem faces_removePower {s : State} {e : Event} (h : Returning s e) (p : Port) : faces (removePower p .release .off e) =
    Function.update (faces e) p { faces e p with
      power := { (faces e p).power.cut with state := .off }
      link := (faces e p).link.dark
      lens := { (faces e p).lens.lose true with state := (faces e p).lens.state.lost true } } := by
  have dark : faces (darkened p e) = Function.update (faces e) p
      { faces e p with power := { (faces e p).power.cut with state := .off }, link := (faces e p).link.dark } := by
    rw [darkened, faces_linkDark, faces_setPower, faces_modPower]
    simp
  have lens : ((darkened p e).port p).lens = (faces e p).lens := by
    change (faces (darkened p e) p).lens = _
    rw [dark]
    simp
  rw [removePower_release_eq h, faces_setLens, faces_modLens, dark, lens]
  simp

theorem faces_powerDown {s : State} {e : Event} (h : Returning s e) (p : Port) :
    faces (powerDown .release p e) = Function.update (faces e) p (faces e p).down := by
  have forgotten : Returning s (modPower p (fun w => { w with owed := false }) e) := h.of_ledger (by simp)
  have state : (e.port p).power.state = (faces e p).power.state := rfl
  unfold powerDown
  dsimp only
  rw [state]
  by_cases hp : (faces e p).power.state.powered = true
  · rw [if_pos hp, faces_removePower forgotten, faces_modPower, Face.down, if_pos hp]
    simp
  · rw [if_neg hp, Face.down, if_neg hp]
    cases hs : (faces e p).power.state with
    | waiting => simp [leaveRetry, faces_setPower, faces_modPower]
    | retryWait => simp [leaveRetry, faces_setPower, faces_modPower]
    | off | held | lockedOut => simp [faces_modPower, hs]
    | queued | inrush | settling | on | limit | standby | waking => simp [hs, PowerState.powered] at hp

theorem faces_forPorts_powerDown {ps : List Port} (hps : ps.Nodup) {s : State} {e : Event} (h : Returning s e) (q : Port) :
    faces (forPorts ps (powerDown .release) e) q = if q ∈ ps then (faces e q).down else faces e q := by
  induction ps generalizing e with
  | nil => simp [forPorts]
  | cons p ps ih =>
    obtain ⟨hp, hps⟩ := List.nodup_cons.mp hps
    have rest := ih hps (powerDown_release h p).1
    refine rest.trans ?_
    rw [faces_powerDown h]
    by_cases hq : q = p
    · subst hq; simp [hp]
    · simp [hq]

end Sys2Proof.Machine

namespace Sys2Proof.Machine

/-! ## The buffers through a teardown (R32, R128, R134) -/

/-- A buffer as a teardown leaves it, or has not reached it yet: FILLING is delivered SPOILED to its owner, RESERVED is returned to GIVEN,
and any other is kept. -/
structure Entry.Passed (x y : Entry) : Prop where
  filling : x.state = .filling → y = x ∨
    (y.state = .out ∧ y.owner = x.owner ∧ y.kind = x.kind ∧ y.summary = some (summaryOf x .spoiled))
  reserved : x.state = .reserved → y = x ∨ (y.state = .given ∧ y.owner = none ∧ y.stamp = none)
  rest : x.state = .out ∨ x.state = .given → y = x

theorem Entry.Passed.refl (x : Entry) : x.Passed x := ⟨fun _ => .inl rfl, fun _ => .inl rfl, fun _ => rfl⟩

theorem Entry.Passed.trans {x y z : Entry} (h : x.Passed y) (h' : y.Passed z) : x.Passed z where
  filling := fun hx => by
    obtain rfl | out := h.filling hx
    · exact h'.filling hx
    · obtain rfl := h'.rest (.inl out.1)
      exact .inr out
  reserved := fun hx => by
    obtain rfl | given := h.reserved hx
    · exact h'.reserved hx
    · obtain rfl := h'.rest (.inr given.1)
      exact .inr given
  rest := fun hx => by
    obtain rfl := h.rest hx
    exact h'.rest hx

/-- Every buffer has passed, and the claims wait as they did. -/
structure Passing (s : State) (e : Event) : Prop where
  claims : e.pool.claims = s.pool.claims
  layout : e.pool.layout = s.pool.layout
  entries : ∀ (b : Nat) x, s.pool.entries[b]? = some x → ∃ y, e.pool.entries[b]? = some y ∧ x.Passed y
  length : e.pool.entries.length = s.pool.entries.length

theorem Passing.refl (e : Event) : Passing e.toState e := ⟨rfl, rfl, fun _ x hx => ⟨x, hx, .refl x⟩, rfl⟩

theorem Passing.of_pool {s : State} {e e' : Event} (h : Passing s e) (hp : e'.pool = e.pool) : Passing s e' :=
  ⟨hp ▸ h.claims, hp ▸ h.layout, hp ▸ h.entries, hp ▸ h.length⟩

theorem Passing.foldl {α : Type} {s : State} {f : Event → α → Event} (xs : List α)
    (hf : ∀ a e, Passing s e → Passing s (f e a)) : ∀ e, Passing s e → Passing s (xs.foldl f e) := by
  induction xs with
  | nil => exact fun _ h => h
  | cons x xs ih => exact fun e h => ih _ (hf x e h)

/-- The tracker after a buffer's change and the rewriting of its report part: one entry has changed. -/
theorem pool_writeBuffer_modEntry {b : Nat} {f : Entry → Entry} {x : Entry} {e : Event} (hx : e.pool.entries[b]? = some x) :
    ∃ entries c, (writeBuffer b (modEntry b f e)).pool = { e.pool with entries := entries } ∧
      entries.length = e.pool.entries.length ∧
      ∀ k : Nat, entries[k]? = if k = b then some { f x with count := c } else e.pool.entries[k]? := by
  cases hl : e.pool.layout with
  | none =>
    rw [writeBuffer_bare (show (modEntry b f e).pool.layout = none from hl)]
    refine ⟨modNth e.pool.entries b f, (f x).count, rfl, by simp, fun k => ?_⟩
    rw [getElem?_modNth]
    split
    · next hk => subst hk; simp [hx]
    · rfl
  | some l =>
    rw [writeBuffer_modEntry hl hx]
    refine ⟨modNth (modNth e.pool.entries b f) b fun y => { y with count := (f x).count + 2 }, (f x).count + 2, rfl, by simp,
      fun k => ?_⟩
    rw [getElem?_modNth, getElem?_modNth]
    split
    · next hk => subst hk; simp [hx]
    · rfl

/-- One buffer passes on. -/
theorem Passing.change {s : State} {e : Event} (h : Passing s e) {b : Nat} {f : Entry → Entry} {x : Entry}
    (hx : e.pool.entries[b]? = some x) (hf : ∀ c, x.Passed { f x with count := c }) : Passing s (writeBuffer b (modEntry b f e)) := by
  obtain ⟨entries, c, hp, hl, hk⟩ := pool_writeBuffer_modEntry (f := f) hx
  refine ⟨by rw [hp]; exact h.claims, by rw [hp]; exact h.layout, fun k y hy => ?_, by rw [hp]; exact hl.trans h.length⟩
  obtain ⟨z, hz, passed⟩ := h.entries k y hy
  rw [hp]
  dsimp only
  rw [hk]
  split
  · next hkb =>
    subst hkb
    obtain rfl : x = z := by simpa [hx] using hz
    exact ⟨_, rfl, passed.trans (hf c)⟩
  · exact ⟨z, hz, passed⟩

theorem countDelivery_pool (x : Entry) (e : Event) : (countDelivery x e).pool = e.pool := by
  unfold countDelivery
  split <;> rfl

theorem raiseFlags_pool (bits : BitVec 14) (e : Event) : (raiseFlags bits e).pool = e.pool := by
  rw [raiseFlags_eq]

theorem deliver_pool {b : Nat} {x : Entry} {e : Event} (hx : e.pool.entries[b]? = some x) (o : FrameOutcome) :
    (deliver b o e).pool = (writeBuffer b (modEntry b (Entry.deliver o) e)).pool := by
  unfold deliver
  rw [hx]
  dsimp only
  rw [countDelivery_pool, raiseFlags_pool]

theorem Passing.deliver {s : State} {e : Event} (h : Passing s e) {b : Nat} {x : Entry} (hx : e.pool.entries[b]? = some x)
    (hf : x.state = .filling) : Passing s (Machine.deliver b .spoiled e) := by
  refine (h.change hx fun c => ⟨fun _ => .inr ?_, by simp [hf], by simp [hf]⟩).of_pool (deliver_pool hx .spoiled)
  exact ⟨rfl, rfl, rfl, by simp [Entry.deliver, worst_spoiled]⟩

theorem Passing.returnGiven {s : State} {e : Event} (h : Passing s e) {b : Nat} {x : Entry} (hx : e.pool.entries[b]? = some x)
    (hr : x.state = .reserved) : Passing s (Machine.returnGiven b e) := by
  unfold Machine.returnGiven
  rw [hx]
  dsimp only
  rw [if_pos hr]
  exact h.change hx fun c => ⟨by simp [hr], fun _ => .inr ⟨rfl, rfl, rfl⟩, by simp [hr]⟩

theorem Passing.loseFrame {s : State} {e : Event} (h : Passing s e) (p : Port) (b : Nat) : Passing s (Machine.loseFrame p b e) := by
  unfold Machine.loseFrame
  cases hx : e.pool.entries[b]? with
  | none => exact h
  | some x =>
    dsimp only
    split
    · cases hs : x.state with
      | filling => exact h.deliver hx hs
      | reserved => exact h.returnGiven hx hs
      | out | given => exact h
    · exact h

theorem Passing.poolShare {s : State} {e : Event} (h : Passing s e) (b : Nat) : Passing s (Machine.poolShare b e) := by
  unfold Machine.poolShare
  cases hx : e.pool.entries[b]? with
  | none => exact h
  | some x =>
    dsimp only
    cases hs : x.state with
    | filling => exact h.deliver hx hs
    | reserved => exact h.returnGiven hx hs
    | out | given => exact h

/-! ### Operations of a teardown that the tracker does not see -/

theorem tellProbe_pool (p : Port) (e : Event) : (tellProbe p e).pool = e.pool := by
  unfold tellProbe
  split <;> rfl

@[simp] theorem setPower_pool (p : Port) (st : PowerState) (e : Event) : (setPower p st e).pool = e.pool := by
  unfold setPower
  split <;> simp [tellProbe_pool]

@[simp] theorem setLink_pool (p : Port) (st : LinkState) (e : Event) : (setLink p st e).pool = e.pool := by
  unfold setLink
  split <;> simp [tellProbe_pool]

@[simp] theorem setLens_pool (p : Port) (st : LensState) (e : Event) : (setLens p st e).pool = e.pool := by
  unfold setLens
  split <;> simp

theorem sweepSpoiled_pool (p : Port) (e : Event) : (sweepSpoiled p e).pool = e.pool := by
  unfold sweepSpoiled
  (repeat' split) <;> rfl

@[simp] theorem tellIfDrained_pool (p : Port) (e : Event) : (tellIfDrained p e).pool = e.pool := by
  unfold tellIfDrained
  split <;> rfl

theorem Passing.linkDark {s : State} {e : Event} (h : Passing s e) (p : Port) : Passing s (Machine.linkDark p e) := by
  have lost : ∀ x, Passing s x → Passing s (forEntries (Machine.loseFrame p) (sweepSpoiled p x)) := fun x hx =>
    Passing.foldl _ (fun b _ hy => hy.loseFrame p b) _ (hx.of_pool (sweepSpoiled_pool p x))
  have spoiled : ∀ x, Passing s x → Passing s (spoilFrames p x) := fun x hx => by
    unfold spoilFrames loseFrames
    dsimp only
    split
    · exact lost x hx
    · exact (lost x hx).of_pool (tellIfDrained_pool p _)
  unfold Machine.linkDark
  split
  · exact h
  · exact spoiled _ (h.of_pool (by simp [emptyHistories]))

theorem Passing.powerDown {s u : State} {e : Event} (h : Passing s e) (hr : Returning u e) (p : Port) :
    Passing s (Machine.powerDown .release p e) := by
  have forgotten : Returning u (modPower p (fun w => { w with owed := false }) e) := hr.of_ledger (by simp)
  unfold Machine.powerDown
  dsimp only
  split
  · rw [removePower_release_eq forgotten]
    refine Passing.of_pool (Passing.linkDark (e := setPower p .off (modPower p PortPower.cut
      (modPower p (fun w => { w with owed := false }) e))) ?_ p) (by simp [darkened])
    exact h.of_pool (by simp)
  · split <;> exact h.of_pool (by simp [leaveRetry])

theorem Passing.forPorts_powerDown {s u : State} (ps : List Port) : ∀ {e : Event}, Passing s e → Returning u e →
    Passing s (forPorts ps (Machine.powerDown .release) e) := by
  induction ps with
  | nil => exact fun h _ => h
  | cons p ps ih => exact fun h hr => ih (h.powerDown hr p) (powerDown_release hr p).1

end Sys2Proof.Machine

namespace Sys2Proof.Machine

/-! ## The claims answered in a teardown (R32, R111; log 22) -/

/-- What the answers to the claims keep: the ports' faces, the slots, the Fault Unit, the budget, and that no claim waits. -/
structure Core where
  faces : Port → Face
  slots : Vector Slot 32
  faults : FaultUnit
  budget : Budget
  claims : List BufClaim

def core (e : Event) : Core where
  faces := faces e
  slots := e.slots
  faults := e.faults
  budget := e.budget
  claims := e.pool.claims

@[simp] theorem core_tell (t : Task) (e : Event) : core (tell t e) = core e := rfl

theorem core_modPort_same {p : Port} {f : PortState → PortState} (h : ∀ q, (f q).face = q.face) (e : Event) :
    core (modPort p f e) = core e := congrArg (fun v => { core e with faces := v }) (faces_modPort_same h e)

@[simp] theorem core_modProbe (p : Port) (f : ProbeRun → ProbeRun) (e : Event) : core (modProbe p f e) = core e :=
  core_modPort_same (by exact fun _ => rfl) e

@[simp] theorem core_modEntry (b : Nat) (f : Entry → Entry) (e : Event) : core (modEntry b f e) = core e := rfl

@[simp] theorem core_writeBuffer (b : Nat) (e : Event) : core (writeBuffer b e) = core e := by
  unfold writeBuffer
  split <;> rfl

@[simp] theorem core_tellIfDrained (p : Port) (e : Event) : core (tellIfDrained p e) = core e := by
  unfold tellIfDrained
  split <;> rfl

@[simp] theorem core_reserve (b : Nat) (p : Port) (k : BufKind) (e : Event) : core (reserve b p k e) = core e := by simp [reserve]

@[simp] theorem core_takeTrace (b : Nat) (p : Port) (e : Event) : core (takeTrace b p e) = core e := by simp [takeTrace]

@[simp] theorem core_traceAnswer (p : Port) (t : TraceClaim) (e : Event) : core (traceAnswer p t e) = core e := by
  simp [traceAnswer]

@[simp] theorem core_returnGiven (b : Nat) (e : Event) : core (returnGiven b e) = core e := by
  unfold returnGiven
  (repeat' split) <;> simp

/-- A skip that no order is told of. -/
theorem core_skip_trace (p : Port) (k : Skip) (e : Event) : core (skip p .trace k e) = core e := by
  unfold skip
  dsimp only
  rw [core_tellIfDrained]
  exact core_modPort_same (by exact fun _ => rfl) e

@[simp] theorem core_raiseFlags (bits : BitVec 14) (e : Event) : core (raiseFlags bits e) = core e := by
  rw [raiseFlags_eq]
  rfl

@[simp] theorem core_countDelivery (x : Entry) (e : Event) : core (countDelivery x e) = core e := by
  unfold countDelivery
  split
  · exact core_modPort_same (by exact fun _ => rfl) e
  · rfl

@[simp] theorem core_deliver (b : Nat) (o : FrameOutcome) (e : Event) : core (deliver b o e) = core e := by
  unfold deliver
  split <;> simp

@[simp] theorem core_poolShare (b : Nat) (e : Event) : core (poolShare b e) = core e := by
  unfold poolShare
  (repeat' split) <;> simp

theorem core_rejudgeDropped (c : BufClaim) (k : BufKind) (e : Event) : core (rejudgeDropped c k e) = core e := by
  unfold rejudgeDropped
  dsimp only
  split
  · simp
  · split
    · exact core_skip_trace _ _ e
    · rfl
  all_goals
    split
    · exact core_skip_trace _ _ e
    · rfl

/-- A claim that a teardown answers moves none of it: a fire decision has been dropped. -/
theorem core_rejudgeClaim {c : BufClaim} (h : c.requester = .trace ∨ c.status = .dropped) (e : Event) :
    core (rejudgeClaim c e) = core e := by
  unfold rejudgeClaim
  split
  · split <;> simp
  · exact core_rejudgeDropped _ _ e
  · next hs hr =>
    obtain h | h := h
    · exact absurd h hr
    · rw [h] at hs; cases hs
  · exact core_rejudgeDropped _ _ e

theorem core_answerClaims (e : Event) : core (answerClaims e) = { core e with claims := [] } := by
  have folded : ∀ (cs : List BufClaim) (x : Event), core (cs.foldl (fun acc c =>
      rejudgeClaim (if c.requester = .trace then c else { c with status := .dropped }) acc) x) = core x := by
    intro cs
    induction cs with
    | nil => exact fun _ => rfl
    | cons c cs ih =>
      intro x
      refine (ih _).trans (core_rejudgeClaim ?_ x)
      split
      · next h => exact .inl h
      · exact .inr rfl
  exact folded _ _

theorem core_forEntries_poolShare (e : Event) : core (forEntries poolShare e) = core e := by
  unfold forEntries
  generalize List.range e.pool.entries.length = bs
  induction bs generalizing e with
  | nil => rfl
  | cons b bs ih => rw [List.foldl_cons, ih, core_poolShare]

/-! ## The runs of a port through the Pool Manager's share -/

/-- What runs on a port. -/
def runs (e : Event) (p : Port) : Option SnapRun × Option CycleRun × Option SweepRun × Option ProbeRun :=
  ((e.port p).snap, (e.port p).cycle, (e.port p).sweep, (e.port p).probe)

theorem runs_modPort_same {p : Port} {f : PortState → PortState}
    (h : ∀ q, ((f q).snap, (f q).cycle, (f q).sweep, (f q).probe) = (q.snap, q.cycle, q.sweep, q.probe)) (e : Event) :
    runs (modPort p f e) = runs e := by
  funext q
  unfold runs
  rw [port_modPort]
  split
  · next hq => subst hq; exact h _
  · rfl

theorem runs_of_ports {e e' : Event} (h : e'.ports = e.ports) : runs e' = runs e := by
  funext q
  unfold runs Event.port
  rw [h]

theorem runs_writeBuffer_modEntry (b : Nat) (f : Entry → Entry) (e : Event) : runs (writeBuffer b (modEntry b f e)) = runs e := by
  have written : ∀ x : Event, (writeBuffer b x).ports = x.ports := fun x => by
    unfold writeBuffer
    split <;> rfl
  exact runs_of_ports (written _)

theorem runs_poolShare (b : Nat) (e : Event) : runs (poolShare b e) = runs e := by
  have raised : ∀ (bits : BitVec 14) (x : Event), runs (raiseFlags bits x) = runs x := fun bits x =>
    runs_of_ports (by rw [raiseFlags_eq])
  have counted : ∀ (y : Entry) (x : Event), runs (countDelivery y x) = runs x := fun y x => by
    unfold countDelivery
    split
    · exact runs_modPort_same (by exact fun _ => rfl) x
    · rfl
  unfold poolShare
  cases hx : e.pool.entries[b]? with
  | none => rfl
  | some x =>
    dsimp only
    cases hs : x.state with
    | filling =>
      simp only [deliver, hx]
      rw [counted, raised, runs_writeBuffer_modEntry]
    | reserved =>
      simp only [returnGiven, hx, hs, if_true]
      exact runs_writeBuffer_modEntry _ _ e
    | out | given => rfl

theorem runs_forEntries_poolShare (e : Event) : runs (forEntries poolShare e) = runs e := by
  unfold forEntries
  generalize List.range e.pool.entries.length = bs
  induction bs generalizing e with
  | nil => rfl
  | cons b bs ih => rw [List.foldl_cons, ih, runs_poolShare]

/-! ## The queues in a teardown (R32, R51) -/

theorem modPort_self {p : Port} {f : PortState → PortState} {e : Event} (h : f (e.port p) = e.port p) : modPort p f e = e := by
  have same : modAt e.ports p f = e.ports := by
    refine vector_ext_get fun q => ?_
    rw [get_modAt]
    split
    · next hq => subst hq; exact h
    · rfl
  unfold modPort
  rw [same]

theorem modAt_modAt {α : Type} {n : Nat} (v : Vector α n) (i : Fin n) (f g : α → α) :
    modAt (modAt v i g) i f = modAt v i fun x => f (g x) := by
  refine vector_ext_get fun j => ?_
  simp only [get_modAt]
  split <;> simp

theorem modPort_modPort (p : Port) (f g : PortState → PortState) (e : Event) :
    modPort p f (modPort p g e) = modPort p (fun q => f (g q)) e := by
  unfold modPort
  rw [modAt_modAt]

/-- What moves nothing of a port but its lens record, and tells blocks or marks the port. -/
structure LensOnly (p : Port) (e e' : Event) : Prop where
  eq : ∃ lens agenda touched, e' = { modLens p (fun _ => lens) e with agenda := agenda, touched := touched }

theorem LensOnly.refl (p : Port) (e : Event) : LensOnly p e e :=
  ⟨(e.port p).lens, e.agenda, e.touched, by unfold modLens; rw [modPort_self rfl]⟩

theorem LensOnly.trans {p : Port} {e e' e'' : Event} (h : LensOnly p e e') (h' : LensOnly p e' e'') : LensOnly p e e'' := by
  obtain ⟨lens, agenda, touched, rfl⟩ := h
  obtain ⟨lens', agenda', touched', rfl⟩ := h'
  refine ⟨lens', agenda', touched', ?_⟩
  have merged : (modLens p (fun _ => lens') (modLens p (fun _ => lens) e)) = modLens p (fun _ => lens') e := by
    unfold modLens
    rw [modPort_modPort]
  have ports : (modLens p (fun _ => lens') (modLens p (fun _ => lens) e)).ports = (modLens p (fun _ => lens') e).ports := by rw [merged]
  exact congrArg (fun v => { e with ports := v, agenda := agenda', touched := touched' }) ports

theorem LensOnly.modLens (p : Port) (f : LensRec → LensRec) (e : Event) : LensOnly p e (modLens p f e) := by
  refine ⟨f (e.port p).lens, e.agenda, e.touched, ?_⟩
  have ports : (Machine.modLens p f e).ports = (Machine.modLens p (fun _ => f (e.port p).lens) e).ports := rfl
  exact congrArg (fun v => { e with ports := v }) ports

theorem LensOnly.tell (p : Port) (t : Task) (e : Event) : LensOnly p e (tell t e) := by
  obtain ⟨lens, agenda, touched, h⟩ := (LensOnly.refl p e).eq
  refine ⟨lens, e.agenda ++ [t], e.touched, ?_⟩
  have ports : e.ports = (Machine.modLens p (fun _ => lens) e).ports := congrArg (fun x => x.ports) h
  exact congrArg (fun v => { e with ports := v, agenda := e.agenda ++ [t] }) ports

theorem LensOnly.setLens (p : Port) (st : LensState) (e : Event) : LensOnly p e (setLens p st e) := by
  unfold Machine.setLens
  split
  · exact .refl p e
  · obtain ⟨lens, agenda, touched, h⟩ := (LensOnly.modLens p (fun l => { l with state := st }) e).eq
    rw [h]
    unfold touch
    split <;> exact ⟨lens, _, _, rfl⟩

theorem LensOnly.settleLens (p : Port) (e : Event) : LensOnly p e (settleLens p e) := by
  unfold Machine.settleLens stage
  dsimp only
  split
  · exact (LensOnly.modLens p _ e).trans (.setLens p _ _)
  · exact ((LensOnly.modLens p _ e).trans (.setLens p _ _)).trans (.tell p _ _)

/-- With no claim waiting, a sweep's hold on wants is released in the lens record alone (R147). -/
theorem LensOnly.releaseWants {e : Event} (hb : e.budget = Budget.reset) (p : Port) : LensOnly p e (releaseWants p e) := by
  have unclaimed : ∀ c : Bool, (if c = true then withdraw p .lensMotion e else e) = e := fun c => by
    rw [withdraw_reset hb, ite_self]
  unfold Machine.releaseWants
  dsimp only
  rw [unclaimed]
  have moved := LensOnly.modLens p (fun x => { x with
    staged := x.held.over (if ((e.port p).lens.stagedBy == .sweep) = true then Axes.none else x.staged)
    stagedBy := .sheet, held := Axes.none }) e
  split
  · exact moved.trans (.settleLens p _)
  · exact moved.trans (.settleLens p _)
  · exact moved.trans (.settleLens p _)
  all_goals exact moved

end Sys2Proof.Machine

namespace Sys2Proof.Machine

/-! ### One queue (R32) -/

/-- A final state moves the slots alone, but for what is written (R38 to R40). -/
theorem finishSlot_eq (n : SlotNo) (st : SlotState) (r : Reason) (field : Nat) (results : List Byte) (e : Event) :
    ∃ slots page traffic, finishSlot n st r field results e = { e with slots := slots, page := page, traffic := traffic } := by
  by_cases h : e.page.taken = .held
  · rw [finishSlot_held h n st r field results rfl]
    exact ⟨_, _, _, rfl⟩
  · rw [finishSlot_absent h]
    exact ⟨_, e.page, e.traffic, rfl⟩

/-- The slots after some orders have ended ABORTED HALTED and all others have stayed as they were (R32). -/
structure HaltedSlots (hit : SlotNo → Prop) (before behind : Vector Slot 32) : Prop where
  aborted : ∀ m, hit m → (behind.get m).state = .aborted ∧ (behind.get m).reason = .halted
  kept : ∀ m, ¬ hit m → behind.get m = before.get m

theorem HaltedSlots.none (v : Vector Slot 32) : HaltedSlots (fun _ => False) v v := ⟨fun _ h => h.elim, fun _ _ => rfl⟩

/-- Some end, and then some more; an order may be among both. -/
theorem HaltedSlots.append {hit hit' both : SlotNo → Prop} {u v w : Vector Slot 32} (h : HaltedSlots hit u v)
    (h' : HaltedSlots hit' v w) (hb : ∀ m, both m ↔ hit m ∨ hit' m) : HaltedSlots both u w where
  aborted := fun m hm => by
    by_cases later : hit' m
    · exact h'.aborted m later
    · rw [h'.kept m later]
      exact h.aborted m (((hb m).mp hm).resolve_right later)
  kept := fun m hm => by
    obtain ⟨first, later⟩ := not_or.mp fun hx => hm ((hb m).mpr hx)
    rw [h'.kept m later, h.kept m first]

/-- Every order among the entries ends ABORTED HALTED, and no other slot moves. -/
theorem haltEntries_eq (results : List Byte) (xs : List QEntry) : ∀ e : Event, ∃ slots page traffic,
    xs.foldl (fun acc x => haltEntry results x acc) e = { e with slots := slots, page := page, traffic := traffic } ∧
    HaltedSlots (fun m => .order m ∈ xs) e.slots slots := by
  induction xs with
  | nil => exact fun e => ⟨e.slots, e.page, e.traffic, rfl, by simpa using HaltedSlots.none e.slots⟩
  | cons x xs ih =>
    intro e
    cases x with
    | probe =>
      obtain ⟨slots, page, traffic, h, hs⟩ := ih e
      exact ⟨slots, page, traffic, h, by simpa using hs⟩
    | order n =>
      obtain ⟨out, entry⟩ : ∃ out, haltEntry results (.order n) e = finishSlot n .aborted .halted 0 out e := ⟨_, rfl⟩
      obtain ⟨slots₁, page₁, traffic₁, h₁⟩ := finishSlot_eq n .aborted .halted 0 out e
      obtain ⟨c, self⟩ := get_finishSlot_self n .aborted .halted 0 out e
      have other := fun k hk => get_finishSlot_ne (n := n) (k := k) hk .aborted .halted 0 out e
      rw [h₁] at entry self other
      have first : HaltedSlots (fun m => m = n) e.slots slots₁ :=
        ⟨fun m hm => by subst hm; exact ⟨congrArg Slot.state self, congrArg Slot.reason self⟩, other⟩
      obtain ⟨slots, page, traffic, h, hs⟩ := ih { e with slots := slots₁, page := page₁, traffic := traffic₁ }
      exact ⟨slots, page, traffic, by rw [List.foldl_cons, entry, h], first.append hs fun m => by simp⟩

/-- The results of the order that runs at a HALT are formed from the port; a sweep's hold on wants is released in the lens record. -/
theorem haltedResults_eq {e : Event} (hb : e.budget = Budget.reset) (p : Port) : ∃ lens agenda touched free,
    (haltedResults p e).2 = { modLens p (fun _ => lens) e with agenda := agenda, touched := touched, free := free } := by
  have kept : ∃ lens agenda touched free, e = { modLens p (fun _ => lens) e with agenda := agenda, touched := touched, free := free } := by
    obtain ⟨lens, agenda, touched, h⟩ := (LensOnly.refl p e).eq
    exact ⟨lens, agenda, touched, e.free, h⟩
  unfold haltedResults
  dsimp only
  split
  · exact kept
  · exact kept
  · obtain ⟨lens, agenda, touched, h⟩ := (LensOnly.releaseWants hb p).eq
    exact ⟨lens, agenda, touched, e.free, h⟩
  · split
    · exact kept
    all_goals
      obtain ⟨lens, agenda, touched, h⟩ := (LensOnly.refl p e).eq
      unfold pathField
      split
      · exact ⟨lens, agenda, touched, e.free, h⟩
      · refine ⟨lens, agenda, touched, e.free + 1, ?_⟩
        exact congrArg (fun x : Event => { x with free := e.free + 1 }) h
  · exact kept

/-- A lens that has met a loss stays UNKNOWN (R143, R147). -/
theorem haltedResults_lens {e : Event} (hb : e.budget = Budget.reset) {p : Port} (hl : (e.port p).lens.state = .unknown) :
    ((haltedResults p e).2.port p).lens.state = .unknown ∧ ((haltedResults p e).2.port p).lens.move = (e.port p).lens.move := by
  unfold haltedResults
  dsimp only
  split
  · exact ⟨hl, rfl⟩
  · exact ⟨hl, rfl⟩
  · have unclaimed : ∀ c : Bool, (if c = true then withdraw p .lensMotion e else e) = e := fun c => by
      rw [withdraw_reset hb, ite_self]
    unfold releaseWants
    dsimp only
    rw [unclaimed, hl]
    exact ⟨by simpa [modLens, port_modPort] using hl, by simp [modLens, port_modPort]⟩
  · split
    · exact ⟨hl, rfl⟩
    all_goals
      unfold pathField
      split <;> exact ⟨hl, rfl⟩
  · exact ⟨hl, rfl⟩

/-- A port whose queue a teardown has emptied, its lens record as given (R32, R51). -/
def PortState.halt (lens : LensRec) (q : PortState) : PortState :=
  { q with lens := lens, snap := none, cycle := none, sweep := none, probe := none, queue := [] }

theorem haltQueue_eq {e : Event} (hb : e.budget = Budget.reset) (p : Port) : ∃ lens slots page traffic agenda touched free,
    haltQueue p e = { modPort p (PortState.halt lens) e with
      slots := slots, page := page, traffic := traffic, agenda := agenda, touched := touched, free := free } ∧
    HaltedSlots (fun m => .order m ∈ (e.port p).queue) e.slots slots ∧
    ((e.port p).lens.state = .unknown → lens.state = .unknown ∧ lens.move = (e.port p).lens.move) := by
  have stages : haltQueue p e = (fun x => if (e.port p).queue.isEmpty then x else touch p x)
      (clearRuns p ((e.port p).queue.foldl (fun acc x => haltEntry (haltedResults p e).1 x acc) (haltedResults p e).2)) := rfl
  have unknown := haltedResults_lens (p := p) hb
  obtain ⟨lens, agenda, touched, free, hr⟩ := haltedResults_eq hb p
  obtain ⟨slots, page, traffic, hf, hs⟩ := haltEntries_eq (haltedResults p e).1 (e.port p).queue (haltedResults p e).2
  rw [hf] at stages
  rw [hr] at stages hs unknown
  have port : ({ modLens p (fun _ => lens) e with agenda := agenda, touched := touched, free := free } : Event).port p =
      { e.port p with lens := lens } := (port_modPort p p _ e).trans (if_pos rfl)
  rw [port] at unknown
  have merged : modAt (modAt e.ports p fun q => { q with lens := lens }) p (fun q => { q with
      snap := none, cycle := none, sweep := none, probe := none, queue := [] }) = modAt e.ports p (PortState.halt lens) :=
    modAt_modAt e.ports p _ _
  refine ⟨lens, slots, page, traffic, agenda, if (e.port p).queue.isEmpty then touched else
    (if p ∈ touched then touched else touched ++ [p]), free, ?_, hs, unknown⟩
  rw [stages, clearRuns, modPort, modLens, modPort]
  dsimp only
  rw [merged]
  unfold touch
  split
  · rfl
  · split <;> rfl

end Sys2Proof.Machine

namespace Sys2Proof.Machine

/-! ### All the queues -/

/-- The queues of the ports ps have been emptied. -/
structure Halted (x : Event) (ps : List Port) (e : Event) : Prop where
  budget : e.budget = Budget.reset
  pool : e.pool = x.pool
  faults : e.faults = x.faults
  others : ∀ q, q ∉ ps → e.port q = x.port q
  ports : ∀ q, q ∈ ps → ∃ lens, e.port q = (x.port q).halt lens ∧
    ((x.port q).lens.state = .unknown → lens.state = .unknown ∧ lens.move = (x.port q).lens.move)
  slots : HaltedSlots (fun m => ∃ p, p ∈ ps ∧ .order m ∈ (x.port p).queue) x.slots e.slots

theorem Halted.haltQueue {x e : Event} {ps : List Port} (h : Halted x ps e) {p : Port} (hp : p ∉ ps) :
    Halted x (ps ++ [p]) (Machine.haltQueue p e) := by
  obtain ⟨lens, slots, page, traffic, agenda, touched, free, hq, hs, hl⟩ := haltQueue_eq h.budget p
  have port : ∀ q, (Machine.haltQueue p e).port q = if q = p then (e.port p).halt lens else e.port q := fun q => by
    rw [hq]
    exact port_modPort p q _ e
  rw [h.others p hp] at port hs hl
  refine ⟨?_, ?_, ?_, fun q hq => ?_, fun q hq => ?_, ?_⟩
  · rw [hq]; exact h.budget
  · rw [hq]; exact h.pool
  · rw [hq]; exact h.faults
  · obtain ⟨hq, hqp⟩ : q ∉ ps ∧ q ≠ p := by simpa using hq
    rw [port, if_neg hqp, h.others q hq]
  · by_cases hqp : q = p
    · subst hqp
      exact ⟨lens, (port q).trans (if_pos rfl), hl⟩
    · rw [port, if_neg hqp]
      exact h.ports q (by simpa [hqp] using hq)
  · rw [hq]
    refine h.slots.append hs fun m => ?_
    simp only [List.mem_append, List.mem_singleton]
    constructor
    · rintro ⟨q, hq | rfl, hm⟩
      · exact .inl ⟨q, hq, hm⟩
      · exact .inr hm
    · rintro (⟨q, hq, hm⟩ | hm)
      · exact ⟨q, .inl hq, hm⟩
      · exact ⟨p, .inr rfl, hm⟩

theorem Halted.forPorts {x : Event} (ps : List Port) : ∀ {done : List Port} {e : Event}, Halted x done e → (done ++ ps).Nodup →
    Halted x (done ++ ps) (forPorts ps Machine.haltQueue e) := by
  induction ps with
  | nil => exact fun h _ => by simpa [Machine.forPorts] using h
  | cons p ps ih =>
    intro done e h hn
    have apart : p ∉ done := fun hp => (List.nodup_append.mp hn).2.2 p hp p (by simp) rfl
    have rest := ih (h.haltQueue apart) (by simpa using hn)
    rw [List.append_assoc] at rest
    exact rest

theorem halted_allPorts {x : Event} (hb : x.budget = Budget.reset) : Halted x allPorts (forPorts allPorts haltQueue x) :=
  Halted.forPorts (done := []) allPorts ⟨hb, rfl, rfl, fun _ _ => rfl, by simp, by simpa using HaltedSlots.none x.slots⟩ (by decide)

/-! ## The teardown together (R31, R32, R34) -/

/-- The Power Manager's share done and the programs DISARMED. -/
def disarmedPower (e : Event) : Event := disarmAll (forPorts allPorts (powerDown .release) (emptyBudget e))

/-- The claims answered after it. -/
def tornPower (e : Event) : Event := answerClaims (disarmedPower e)

/-- The lines' filters start afresh (R32, R102). -/
def unseen (e : Event) : Event := { e with trigger := { e.trigger with seenHigh := false, seenLow := false } }

theorem removePower_teardown (p : Port) (st : PowerState) (e : Event) : removePower p .teardown st e = removePower p .release st e := rfl

theorem powerDown_teardown : powerDown .teardown = powerDown .release := by
  funext p e
  unfold powerDown
  simp only [removePower_teardown]

theorem teardown_eq (e : Event) : teardown e = unseen (forEntries poolShare (forPorts allPorts haltQueue (tornPower e))) := by
  unfold teardown
  extract_lets e1 e2 e3
  have shares : e3 = forEntries poolShare (forPorts allPorts haltQueue (tornPower e)) := by
    unfold e3 e2 e1 tornPower disarmedPower
    rw [powerDown_teardown]
  rw [← shares]
  rfl

theorem mem_allPorts (p : Port) : p ∈ allPorts := by revert p; decide

/-- What a teardown has left of port q: the removal of power, and nothing of what ran or waited (R32). -/
structure TornPort (q y : PortState) : Prop where
  queue : y.queue = []
  runs : (y.snap, y.cycle, y.sweep, y.probe) = (none, none, none, none)
  face : ∃ lens, y.face = { q.face.down with queue := [], lens := lens } ∧
    (q.face.down.lens.state = .unknown → lens.state = .unknown ∧ lens.move = q.face.down.lens.move)

theorem core_disarmAll (e : Event) : core (disarmAll e) = core e := by
  obtain ⟨programs, hp, -⟩ := disarmAll_eq e
  rw [hp]
  rfl

theorem core_tornPower (e : Event) : core (tornPower e) =
    { faces := fun p => (faces e p).down, slots := e.slots, faults := e.faults, budget := Budget.reset, claims := [] } := by
  have begun : Returning (emptyBudget e).toState (emptyBudget e) := (Returning.refl rfl).of_ledger rfl
  have powered := (forPorts_powerDown_release (ps := allPorts) (by decide) begun).1
  have shown : faces (forPorts allPorts (powerDown .release) (emptyBudget e)) = fun p => (faces e p).down := by
    funext p
    exact (faces_forPorts_powerDown (by decide) begun p).trans (if_pos (mem_allPorts p))
  rw [tornPower, core_answerClaims, disarmedPower, core_disarmAll, core, shown, powered.slots, powered.faults, powered.budget]
  rfl

/-- What a teardown leaves. -/
theorem teardown_core (e : Event) : (teardown e).budget = Budget.reset ∧ (teardown e).faults = e.faults ∧
    (teardown e).pool.claims = [] ∧ (∀ p, TornPort (e.port p) ((teardown e).port p)) ∧
    HaltedSlots (fun m => ∃ p, .order m ∈ (e.port p).queue) e.slots (teardown e).slots := by
  have torn := core_tornPower e
  rw [teardown_eq]
  generalize tornPower e = u at torn ⊢
  have budget : u.budget = Budget.reset := congrArg Core.budget torn
  have faults : u.faults = e.faults := congrArg Core.faults torn
  have claims : u.pool.claims = [] := congrArg Core.claims torn
  have slots : u.slots = e.slots := congrArg Core.slots torn
  have face : ∀ p, (u.port p).face = (e.port p).face.down := fun p => congrArg (fun c => Core.faces c p) torn
  have halted := halted_allPorts budget
  generalize forPorts allPorts haltQueue u = x at halted ⊢
  have returned := core_forEntries_poolShare x
  have running := runs_forEntries_poolShare x
  generalize forEntries poolShare x = y at returned running ⊢
  have queues : ∀ p, (u.port p).queue = (e.port p).queue := fun p => by
    have kept : ∀ q : Face, q.down.queue = q.queue := fun q => by
      unfold Face.down
      (repeat' split) <;> rfl
    exact (congrArg Face.queue (face p)).trans (kept _)
  refine ⟨(congrArg Core.budget returned :).trans halted.budget, ?_, ?_, fun p => ?_, ?_⟩
  · exact (congrArg Core.faults returned :).trans (halted.faults.trans faults)
  · exact (congrArg Core.claims returned :).trans ((congrArg Pool.claims halted.pool).trans claims)
  · obtain ⟨lens, port, unknown⟩ := halted.ports p (mem_allPorts p)
    have shown : (y.port p).face = ((u.port p).halt lens).face := by
      rw [← port]
      exact congrArg (fun c => Core.faces c p) returned
    have ran : runs y p = runs x p := congrFun running p
    refine ⟨congrArg Face.queue shown, ran.trans ?_, lens, shown.trans ?_, ?_⟩
    · unfold runs
      rw [port]
      rfl
    · rw [← face p]
      rfl
    · rw [← face p]
      exact unknown
  · have same : y.slots = x.slots := (congrArg Core.slots returned :)
    have all := halted.slots
    simp only [mem_allPorts, true_and, queues, slots, ← same] at all
    exact all

end Sys2Proof.Machine

namespace Sys2Proof.Machine

/-! ### The buffers -/

/-- A buffer that has passed and is with the part no longer (R134). -/
theorem Entry.Passed.settled {x y : Entry} (h : x.Passed y) (ha : ¬ y.aboard) :
    (x.state = .filling → y.state = .out ∧ y.owner = x.owner ∧ y.kind = x.kind ∧ y.summary = some (summaryOf x .spoiled)) ∧
    (x.state = .reserved → y.state = .given ∧ y.owner = none ∧ y.stamp = none) ∧
    (x.state = .out ∨ x.state = .given → y = x) := by
  refine ⟨fun hx => ?_, fun hx => ?_, h.rest⟩
  · obtain rfl | out := h.filling hx
    · exact absurd (.inl hx) ha
    · exact out
  · obtain rfl | given := h.reserved hx
    · exact absurd (.inr hx) ha
    · exact given

theorem passing_poolShares {s : State} {e : Event} (h : Passing s e) : Passing s (forEntries poolShare e) :=
  Passing.foldl _ (fun b _ hx => hx.poolShare b) _ h

theorem tornPower_budget (e : Event) : (tornPower e).budget = Budget.reset := by
  have torn := core_tornPower e
  generalize tornPower e = u at torn ⊢
  exact congrArg Core.budget torn

/-- The tracker behind the claims' answers decides what a teardown leaves of the buffers. -/
theorem teardown_passed {e : Event} {b : Nat} {x : Entry} (hx : (tornPower e).pool.entries[b]? = some x) :
    ∃ y, (teardown e).pool.entries[b]? = some y ∧ x.Passed y ∧ ¬ y.aboard := by
  have halted := halted_allPorts (tornPower_budget e)
  rw [teardown_eq]
  generalize tornPower e = u at halted hx
  generalize forPorts allPorts haltQueue u = v at halted
  have passing := passing_poolShares (Passing.of_pool (Passing.refl u) halted.pool)
  obtain ⟨y, hy, passed⟩ := passing.entries b x hx
  exact ⟨y, hy, passed, forEntries_poolShare_aboard hy⟩

theorem disarmAll_pool (e : Event) : (disarmAll e).pool = e.pool := by
  obtain ⟨programs, hp, -⟩ := disarmAll_eq e
  rw [hp]

theorem passing_disarmedPower (e : Event) : Passing e.toState (disarmedPower e) := by
  have begun : Returning (emptyBudget e).toState (emptyBudget e) := (Returning.refl rfl).of_ledger rfl
  have powered := Passing.forPorts_powerDown allPorts (Passing.of_pool (Passing.refl e) (e' := emptyBudget e) rfl) begun
  exact powered.of_pool (disarmAll_pool _)

/-- With no claim waiting the tracker is not moved by their answers. -/
theorem passing_tornPower {e : Event} (hc : e.pool.claims = []) : Passing e.toState (tornPower e) := by
  have passing := passing_disarmedPower e
  unfold tornPower
  generalize disarmedPower e = u at passing ⊢
  unfold answerClaims
  rw [passing.claims.trans hc]
  exact ⟨hc.symm, passing.layout, passing.entries, passing.length⟩

theorem teardown_entries {e : Event} (hc : e.pool.claims = []) {b : Nat} {x : Entry} (hx : e.pool.entries[b]? = some x) :
    ∃ y, (teardown e).pool.entries[b]? = some y ∧
      (x.state = .filling → y.state = .out ∧ y.owner = x.owner ∧ y.summary = some (summaryOf x .spoiled)) ∧
      (x.state = .reserved → y.state = .given ∧ y.owner = none ∧ y.stamp = none) ∧ (x.state = .out ∨ x.state = .given → y = x) := by
  obtain ⟨z, hz, before⟩ := (passing_tornPower hc).entries b x hx
  obtain ⟨y, hy, behind, gone⟩ := teardown_passed hz
  obtain ⟨filling, reserved, rest⟩ := (before.trans behind).settled gone
  refine ⟨y, hy, fun h => ?_, reserved, rest⟩
  obtain ⟨out, owner, -, summary⟩ := filling h
  exact ⟨out, owner, summary⟩

/-- The programs DISARMED are all that the Trigger Scheduler's share moves (R32). -/
theorem disarmAll_programs (e : Event) (i : ProgNo) : (disarmAll e).trigger.programs.get i = (e.trigger.programs.get i).disarm := by
  have folded : ∀ (is : List ProgNo) (x : Event), (is.foldl (fun y i => modProgram i Program.disarm y) x).trigger.programs.get i =
      if i ∈ is then (x.trigger.programs.get i).disarm else x.trigger.programs.get i := by
    intro is
    induction is with
    | nil => simp
    | cons j is ih =>
      intro x
      refine (ih _).trans ?_
      by_cases hj : i = j
      · subst hj
        simp [modProgram, Program.disarm]
      · simp [modProgram, get_modAt_ne _ _ _ _ hj, hj]
  exact (folded allProgs e).trans (if_pos ((by decide : ∀ j : ProgNo, j ∈ allProgs) i))

theorem control_disarmedPower (e : Event) : ∃ programs : Vector Program 4, (∀ i, programs.get i = (e.trigger.programs.get i).disarm) ∧
    control (disarmedPower e).toState = { control e.toState with inForce := 0, programs := programs } := by
  have powered : control (forPorts allPorts (powerDown .release) (emptyBudget e)).toState = { control e.toState with inForce := 0 } :=
    control_forPorts _ _ _ (control_powerDown .release)
  have programs := disarmAll_programs (forPorts allPorts (powerDown .release) (emptyBudget e))
  unfold disarmedPower
  generalize forPorts allPorts (powerDown .release) (emptyBudget e) = x at powered programs
  obtain ⟨moved, hp, -⟩ := disarmAll_eq x
  rw [hp] at programs ⊢
  refine ⟨moved, fun i => (programs i).trans ?_, ?_⟩
  · exact congrArg (fun c => (Vector.get (Control.programs c) i).disarm) powered
  · exact congrArg (fun c => { c with programs := moved }) powered

theorem cell_disarmedPower (e : Event) : (disarmedPower e).cell = e.cell := by
  obtain ⟨programs, -, h⟩ := control_disarmedPower e
  generalize disarmedPower e = u at h ⊢
  exact congrArg Control.cell h

/-- The control part through a teardown: the budget in force, the programs and the lines' filters (R32, R61). -/
theorem control_teardown (e : Event) : ∃ programs : Vector Program 4, (∀ i, programs.get i = (e.trigger.programs.get i).disarm) ∧
    control (teardown e).toState =
      { control e.toState with inForce := 0, programs := programs, seenHigh := false, seenLow := false } := by
  obtain ⟨programs, hp, h⟩ := control_disarmedPower e
  refine ⟨programs, hp, ?_⟩
  have shares : control (forEntries poolShare (forPorts allPorts haltQueue (tornPower e))).toState =
      { control e.toState with inForce := 0, programs := programs } := by
    rw [control_forEntries _ _ control_poolShare, control_forPorts _ _ _ control_haltQueue, tornPower, control_answerClaims, h]
  rw [teardown_eq]
  generalize forEntries poolShare (forPorts allPorts haltQueue (tornPower e)) = x at shares ⊢
  exact congrArg (fun c => { c with seenHigh := false, seenLow := false }) shares

/-! ### A trace claim that still waits (R132; log 22) -/

/-- A trace claim looks at the tracker and the sheet alone (R120). -/
theorem judgeClaim_trace_congr {p : Port} {s t : State} (he : t.pool.entries = s.pool.entries) (hc : t.cell = s.cell) :
    judgeClaim p .trace t = judgeClaim p .trace s := by
  simp only [judgeClaim, inFlight, openHoldings, shareCap, he, hc, reduceCtorEq, false_and, if_false]
  rfl

/-- The buffer taken for a trace. -/
theorem takeTrace_entries {b : Nat} {x : Entry} {e : Event} (hx : e.pool.entries[b]? = some x) (p : Port) :
    ∃ y, (takeTrace b p e).pool.entries[b]? = some y ∧ y.state = .filling ∧ y.kind = .trace ∧ y.owner = some p := by
  obtain ⟨entries, c, hp, -, hk⟩ := pool_writeBuffer_modEntry (f := fun x => { x with
    state := .reserved, owner := some p, kind := .trace }) hx
  have reserved : (reserve b p .trace e).pool.entries[b]? = some { x with
      state := .reserved, owner := some p, kind := .trace, count := c } := by
    rw [reserve, hp]
    exact (hk b).trans (if_pos rfl)
  obtain ⟨entries', c', hp', -, hk'⟩ := pool_writeBuffer_modEntry (f := fun x => { x with
    state := .filling, stamp := none, openTime := cellTime e.toState, bytes := 0, crcErrors := 0, region := none, data := []
    width := 0, height := 0, pending := .complete, reservedBy := none, silenceBy := none }) reserved
  have filling := (hk' b).trans (if_pos rfl)
  rw [takeTrace, hp']
  exact ⟨_, filling, rfl, rfl, rfl⟩

theorem teardown_trace {e : Event} {p : Port} {c : BufClaim} {b : Nat} {x : Entry} (hc : e.pool.claims = [c]) (hp : c.port = p)
    (hr : c.requester = .trace) (hs : c.status = .live) (hz : ∀ z ∈ e.pool.entries, z.state = .out ∨ z.state = .given)
    (hj : judgeClaim p .trace e.toState = .got b) (hx : e.pool.entries[b]? = some x) :
    ∃ y, (teardown e).pool.entries[b]? = some y ∧ y.state = .out ∧ y.kind = .trace ∧ y.owner = some p ∧
      y.summary.map (·.outcome) = some .spoiled := by
  have passing := passing_disarmedPower e
  have kept : (disarmedPower e).pool.entries = e.pool.entries := by
    refine List.ext_getElem? fun k => ?_
    cases hk : e.pool.entries[k]? with
    | none => exact List.getElem?_eq_none (passing.length.trans_le (List.getElem?_eq_none_iff.mp hk))
    | some z =>
      obtain ⟨y, hy, passed⟩ := passing.entries k z hk
      rw [hy, passed.rest (hz z (List.mem_of_getElem? hk))]
  have sheet := cell_disarmedPower e
  have claims := passing.claims.trans hc
  have taken : ∃ y, (tornPower e).pool.entries[b]? = some y ∧ y.state = .filling ∧ y.kind = .trace ∧ y.owner = some p := by
    unfold tornPower
    generalize disarmedPower e = u at claims sheet kept ⊢
    have judged : judgeClaim p .trace ({ u with pool := { u.pool with claims := [] } } : Event).toState = .got b :=
      (judgeClaim_trace_congr (by exact kept) (by exact sheet)).trans hj
    unfold answerClaims
    rw [claims]
    simp only [List.foldl_cons, List.foldl_nil, if_pos hr]
    unfold rejudgeClaim
    rw [hr, hs, hp]
    dsimp only
    rw [judged]
    exact takeTrace_entries (x := x) (hx ▸ congrArg (fun v : List Entry => v[b]?) kept) p
  obtain ⟨y, hy, filling, kind, owner⟩ := taken
  obtain ⟨z, hz, passed, gone⟩ := teardown_passed hy
  obtain ⟨out, owner', kind', summary⟩ := (passed.settled gone).1 filling
  refine ⟨z, hz, out, kind'.trans kind, owner'.trans owner, ?_⟩
  rw [summary]
  have spoiled : ∀ w : Entry, w.kind = .trace → (summaryOf w .spoiled).outcome = .spoiled := fun w hw => by
    unfold summaryOf
    rw [hw]
  exact congrArg some (spoiled y kind)

end Sys2Proof.Machine

namespace Sys2Proof.Machine

/-! ## An event that leaves every port without work

A teardown keeps staged wants, but leaves no link in TALK. -/

/-- Nothing runs, waits or is held back on any port, and no link is in TALK. -/
structure Quelled (e : Event) : Prop where
  queue : ∀ p, (e.port p).queue = []
  sweep : ∀ p, (e.port p).sweep = none
  probe : ∀ p, (e.port p).probe = none
  link : ∀ p, (e.port p).link.state ≠ .talk
  owed : ∀ p, (e.port p).power.owed = false

theorem Quelled.of_ports {e e' : Event} (h : Quelled e) (hp : e'.ports = e.ports) : Quelled e' := by
  have port : ∀ p, e'.port p = e.port p := fun p => congrArg (fun v => Vector.get v p) hp
  constructor <;> intro p <;> rw [port]
  · exact h.queue p
  · exact h.sweep p
  · exact h.probe p
  · exact h.link p
  · exact h.owed p

/-- Every task finds nothing to do. -/
theorem Quelled.perform {e : Event} (h : Quelled e) (t : Task) : perform t e = e := by
  have drained : ∀ p, drainIfDraining p e = e := fun p => by
    unfold drainIfDraining
    rw [h.probe p]
  have tested : ∀ p, lensTest p e = e := fun p => if_neg fun hx => h.link p hx.2.1
  cases t with
  | begin p => unfold Machine.perform beginHead; dsimp only; rw [h.queue p]
  | gap p => exact (congrArg _ (tested p)).trans (drained p)
  | moveEnded p => exact drained p
  | lens p => exact tested p
  | sweep p => unfold Machine.perform advanceSweep; dsimp only; rw [h.sweep p]
  | probe p => unfold Machine.perform advanceProbe; dsimp only; rw [h.probe p]
  | owed p => exact if_neg (by simp [h.owed p])

theorem Quelled.drain {e : Event} (h : Quelled e) (n : Nat) : drain n e = { e with agenda := [] } := by
  induction n generalizing e with
  | zero => rfl
  | succ n ih =>
    cases ha : e.agenda with
    | nil => exact drain_empty ha
    | cons t ts =>
      have rest : Quelled { e with agenda := ts } := h.of_ports rfl
      unfold Machine.drain
      rw [ha]
      dsimp only
      rw [rest.perform t, ih rest]

/-- Such an event ends with reports alone. -/
theorem Quelled.finish {e : Event} (h : Quelled e) : (Machine.finish e).bare = e.bare := by
  unfold Machine.finish
  rw [h.drain, bare_flush]

/-! ## A port after a teardown -/

/-- The power record after the Power Manager's share (R32, R78). -/
theorem Face.down_power (q : Face) : q.down.power.owed = false ∧ q.down.power.retry = q.power.retry ∧
    q.down.power.state = (match q.power.state with
      | .held => .held
      | .lockedOut => .lockedOut
      | _ => .off) ∧
    (q.power.state.powered = true → q.down.power.base = 0 ∧ q.down.power.motion = 0) := by
  unfold Face.down
  cases hs : q.power.state <;> simp [PowerState.powered, PortPower.cut, hs]

theorem Face.down_kept (q : Face) : q.down.faults = q.faults ∧ q.down.cable = q.cable ∧ q.down.sheet = q.sheet := by
  unfold Face.down
  (repeat' split) <;> exact ⟨rfl, rfl, rfl⟩

/-- Every link is DARK after it, and one that fell has no identity (R94). -/
theorem Face.down_link {q : Face} (hl : q.link.state ≠ .dark → q.power.state.powered = true) :
    q.down.link.state = .dark ∧ (q.link.state ≠ .dark → q.down.link.identity = none) := by
  unfold Face.down
  by_cases hp : q.power.state.powered = true
  · rw [if_pos hp]
    unfold PortLink.dark
    split
    · next h => exact ⟨h, fun hx => absurd h hx⟩
    · exact ⟨rfl, fun _ => rfl⟩
  · have dark : q.link.state = .dark := by
      by_contra h
      exact hp (hl h)
    rw [if_neg hp]
    split <;> exact ⟨dark, fun hx => absurd dark hx⟩

/-- A lens that has lost its power (R143). -/
theorem Face.down_lens {q : Face} (hp : q.power.state.powered = true) : q.down.lens.state = .unknown ∧ q.down.lens.move = none := by
  unfold Face.down
  rw [if_pos hp]
  exact ⟨by cases q.lens.state <;> rfl, rfl⟩

/-- What a teardown has left of a port: its power, link and lens, and what it keeps. -/
theorem TornPort.face_eq {q y : PortState} (h : TornPort q y) : y.power = q.face.down.power ∧ y.link = q.face.down.link ∧
    y.faults = q.faults ∧ y.cable = q.cable ∧ y.sheet = q.sheet ∧
    (q.face.down.lens.state = .unknown → y.lens.state = .unknown ∧ y.lens.move = q.face.down.lens.move) := by
  obtain ⟨lens, face, unknown⟩ := h.face
  obtain ⟨faults, cable, sheet⟩ := q.face.down_kept
  have lensEq : y.lens = lens := congrArg Face.lens face
  refine ⟨congrArg Face.power face, congrArg Face.link face, (congrArg Face.faults face).trans faults,
    (congrArg Face.cable face).trans cable, (congrArg Face.sheet face).trans sheet, ?_⟩
  rw [lensEq]
  exact unknown

theorem TornPort.runs_eq {q y : PortState} (h : TornPort q y) :
    y.snap = none ∧ y.cycle = none ∧ y.sweep = none ∧ y.probe = none := by
  have runs := h.runs
  simpa using runs

/-- What the obligations say of a port after a teardown (R31, R32, R34). -/
structure PortDown (q y : PortState) : Prop where
  queue : y.queue = []
  runs : y.snap = none ∧ y.cycle = none ∧ y.sweep = none ∧ y.probe = none
  owed : y.power.owed = false
  state : y.power.state = (match q.power.state with
    | .held => .held
    | .lockedOut => .lockedOut
    | _ => .off)
  retry : y.power.retry = q.power.retry
  unpowered : q.power.state.powered = true → y.power.base = 0 ∧ y.power.motion = 0 ∧ y.lens.state = .unknown ∧ y.lens.move = none
  link : y.link.state = .dark
  identity : q.link.state ≠ .dark → y.link.identity = none
  kept : y.faults = q.faults ∧ y.cable = q.cable ∧ y.sheet = q.sheet

theorem TornPort.portDown {q y : PortState} (h : TornPort q y) (hl : q.link.state ≠ .dark → q.power.state.powered = true) :
    PortDown q y := by
  obtain ⟨power, link, faults, cable, sheet, lens⟩ := h.face_eq
  obtain ⟨owed, retry, state, cut⟩ := q.face.down_power
  obtain ⟨dark, identity⟩ := Face.down_link (q := q.face) hl
  refine ⟨h.queue, h.runs_eq, by rw [power, owed], by rw [power, state]; rfl, by rw [power, retry]; rfl, fun hp => ?_, by rw [link, dark],
    fun hx => by rw [link]; exact identity hx, faults, cable, sheet⟩
  obtain ⟨base, motion⟩ := cut hp
  obtain ⟨unknown, move⟩ := Face.down_lens (q := q.face) hp
  obtain ⟨lensState, lensMove⟩ := lens unknown
  exact ⟨by rw [power, base], by rw [power, motion], lensState, lensMove.trans move⟩

/-- The report of a port is not part of it. -/
theorem PortDown.of_reportCount {q y z : PortState} (h : PortDown q y) {c : Word} (hz : z = { y with reportCount := c }) :
    PortDown q z := by
  subst hz
  exact ⟨h.queue, h.runs, h.owed, h.state, h.retry, h.unpowered, h.link, h.identity, h.kept⟩

theorem portDown_teardown {e : Event} (hl : ∀ p, (e.port p).link.state ≠ .dark → (e.port p).power.state.powered = true) (p : Port) :
    PortDown (e.port p) ((teardown e).port p) := by
  obtain ⟨-, -, -, ports, -⟩ := teardown_core e
  exact (ports p).portDown (hl p)

theorem quelled_teardown {e : Event} (hl : ∀ p, (e.port p).link.state ≠ .dark → (e.port p).power.state.powered = true) :
    Quelled (teardown e) := by
  have ports := portDown_teardown hl
  generalize teardown e = x at ports ⊢
  refine ⟨fun p => (ports p).queue, fun p => (ports p).runs.2.2.1, fun p => (ports p).runs.2.2.2, fun p => ?_, fun p => (ports p).owed⟩
  rw [(ports p).link]
  decide

end Sys2Proof.Machine

namespace Sys2Proof.Machine

/-! ## CHECK_TEST and the re-check (R33 to R35) -/

theorem exec_checkTest {n : SlotNo} {c : CellSheet} {s : State} (h : live s = true) (hm : s.cell.mode = .run)
    (hs : s.cell.sheet = some c) (ho : handedOrder n s = some .checkTest) : exec (.checkTest n) s =
      .next (State.finished n .done .none 0 [] { s with cell := { s.cell with storedCheck := some (~~~ c.check) } }).carried := by
  refine act_plain h ?_
  have carried : ∀ f, carryOut n .checkTest f (Event.of s) = carriedOn (f (Event.of s)) := fun f =>
    congrArg carriedOn (if_pos (by simp [Event.of, hm, Order.acceptedIn]))
  have check : (sheetCheck s).map (~~~ ·) = some (~~~ c.check) := by simp [sheetCheck, hs]
  dsimp only
  rw [of_state, ho]
  dsimp only
  rw [carried, of_carried, of_finished, of_state, check]
  rfl

/-- The event of a re-check that is due. -/
theorem recheck_event {d : Nat} {s : State} (hm : s.cell.mode = .run) (hd : s.cell.recheckAt = some d) (hc : d ≤ s.clock)
    (h : live s = true) : exec .cellRecheck s = .next (finish
      (if s.cell.sheet.map CellSheet.check = s.cell.storedCheck
        then Event.of { s with cell := { s.cell with recheckAt := some (d + 100000) } }
        else cellCheck (Event.of { s with cell := { s.cell with recheckAt := some (d + 100000) } }))).toState := by
  refine (act_live h).trans ?_
  unfold after
  dsimp only
  rw [of_state, hm, hd]
  dsimp only
  rw [if_pos hc]
  rfl

theorem setStop_eq (e : Event) : ∃ page traffic, setStop e =
    { e with page := page, traffic := traffic, faults := { e.faults with stopLatch := true } } := by
  have latched : ∀ x : Event, ∃ page traffic, attend flagStop x = { x with page := page, traffic := traffic } := fun x => by
    unfold attend
    split
    · rw [raiseFlags_eq]; exact ⟨_, _, rfl⟩
    · exact ⟨x.page, x.traffic, rfl⟩
  unfold setStop
  by_cases hs : e.faults.stopLatch = true
  · rw [if_pos hs]
    obtain ⟨page, traffic, hx⟩ := latched e
    refine ⟨page, traffic, hx.trans ?_⟩
    have same : ({ e.faults with stopLatch := true } : FaultUnit) = e.faults := by rw [← hs]
    rw [same]
  · rw [if_neg hs]
    generalize ho : ({ e with faults := { e.faults with stopLatch := true } } : Event) = y
    obtain ⟨page, traffic, hx⟩ := latched (writeHeader y)
    rw [hx]
    unfold writeHeader
    split
    · subst ho; exact ⟨page, traffic, rfl⟩
    · subst ho; exact ⟨page, traffic, rfl⟩

/-- CELL_CHECK's event behind its teardown. -/
theorem cellCheck_eq (e : Event) : ∃ x : Event, x = teardown (leaveRun .cellCheck e) ∧ ∃ page traffic, cellCheck e =
    { x with page := page, traffic := traffic, faults := { x.faults with stopLatch := true } } := by
  refine ⟨_, rfl, ?_⟩
  unfold cellCheck
  generalize teardown (leaveRun .cellCheck e) = x
  obtain ⟨page, traffic, hs⟩ := setStop_eq x
  obtain ⟨flags, count, traffic', hm⟩ := showMode_eq (setStop x)
  rw [hm, hs]
  exact ⟨_, _, rfl⟩

/-- What the obligations say of a teardown begun in event e, in the state t that its event ends in (R31, R32). -/
structure TornDown (e : Event) (t : State) : Prop where
  budget : t.budget = Budget.reset
  claims : t.pool.claims = []
  layout : t.pool.layout = e.pool.layout
  programs : ∀ i, t.trigger.programs.get i = (e.trigger.programs.get i).disarm
  strobes : t.trigger.strobes = e.trigger.strobes
  ports : ∀ p, PortDown (e.port p) (t.ports.get p)
  slots : HaltedSlots (fun m => ∃ p, .order m ∈ (e.port p).queue) e.slots t.slots
  entries : e.pool.claims = [] → ∀ (b : Nat) (x : Entry), e.pool.entries[b]? = some x → ∃ y, t.pool.entries[b]? = some y ∧
    (x.state = .filling → y.state = .out ∧ y.owner = x.owner ∧ y.summary = some (summaryOf x .spoiled)) ∧
    (x.state = .reserved → y.state = .given ∧ y.owner = none ∧ y.stamp = none) ∧
    (x.state = .out ∨ x.state = .given → y = x)

theorem tornDown_teardown {e : Event} (hl : ∀ p, (e.port p).link.state ≠ .dark → (e.port p).power.state.powered = true) {t : State}
    {faults : FaultUnit} {handed : Option SlotNo} {cell : CellCtl}
    (ht : t.bare = { (teardown e).bare with faults := faults, handed := handed, cell := cell }) : TornDown e t := by
  obtain ⟨budget, -, claims, -, slots⟩ := teardown_core e
  have ports := portDown_teardown hl
  have entries := fun hc (b : Nat) x hx => teardown_entries (e := e) hc (b := b) (x := x) hx
  obtain ⟨programs, disarmed, control⟩ := control_teardown e
  generalize teardown e = y at *
  have pool : t.pool = y.pool := (congrArg State.pool ht :)
  have trigger : t.trigger = y.trigger := (congrArg State.trigger ht :)
  have port : ∀ p, ∃ c, t.ports.get p = { y.port p with reportCount := c } := fun p => by
    have same : t.bare.ports.get p = y.bare.ports.get p := by rw [ht]
    rw [bare_port, bare_port] at same
    exact ⟨(t.ports.get p).reportCount, congrArg (fun q => { q with reportCount := (t.ports.get p).reportCount }) same⟩
  refine ⟨(congrArg State.budget ht :).trans budget, pool ▸ claims, ?_, fun i => ?_, ?_, fun p => ?_, ?_, ?_⟩
  · rw [pool]; exact congrArg Control.layout control
  · rw [trigger, ← disarmed i]; exact congrArg (fun c => Vector.get (Control.programs c) i) control
  · rw [trigger]; exact congrArg Control.strobes control
  · obtain ⟨c, hc⟩ := port p
    exact (ports p).of_reportCount hc
  · rw [show t.slots = y.slots from (congrArg State.slots ht :)]; exact slots
  · rw [pool]; exact entries

end Sys2Proof.Machine

namespace Sys2Proof.Machine

/-- A re-check that finds another check: CELL_CHECK (R34). -/
theorem cellCheck_tornDown {e : Event} (hl : ∀ p, (e.port p).link.state ≠ .dark → (e.port p).power.state.powered = true) :
    TornDown (leaveRun .cellCheck e) (finish (cellCheck e)).toState ∧
    (finish (cellCheck e)).cell = { e.cell with mode := .configure, cause := some .cellCheck, recheckAt := none } ∧
    (finish (cellCheck e)).faults = { e.faults with stopLatch := true } := by
  obtain ⟨x, hx, page, traffic, hc⟩ := cellCheck_eq e
  have quelled : Quelled (teardown (leaveRun .cellCheck e)) := quelled_teardown hl
  obtain ⟨programs, -, control⟩ := control_teardown (leaveRun .cellCheck e)
  have kept : (teardown (leaveRun .cellCheck e)).faults = e.faults := (teardown_core _).2.1
  have torn := fun t faults handed cell => tornDown_teardown (e := leaveRun .cellCheck e) hl (t := t) (faults := faults)
    (handed := handed) (cell := cell)
  rw [← hx] at quelled control kept torn
  have bare : (finish (cellCheck e)).bare = { x.bare with faults := { x.faults with stopLatch := true } } := by
    rw [Quelled.finish (quelled.of_ports (by rw [hc])), hc]
    rfl
  generalize (finish (cellCheck e)).toState = t at bare ⊢
  refine ⟨torn t { x.faults with stopLatch := true } x.handed x.cell bare, ?_, ?_⟩
  · exact (congrArg State.cell bare :).trans (congrArg Control.cell control)
  · rw [show t.faults = _ from (congrArg State.faults bare :), ← kept]

/-- Settles O27: CHECK_TEST and a re-check that agrees at once, and CELL_CHECK from what a teardown leaves. -/
theorem cellCheckFaults : Obligations.CellCheckFaults := by
  refine ⟨fun n c s h hm hs ho => exec_checkTest h hm hs ho, fun d s h hm hd hc => ⟨fun heq => ?_, fun hne hl => ?_⟩⟩
  · rw [recheck_event hm hd hc h, if_pos heq, finish_of]
  · rw [recheck_event hm hd hc h, if_neg hne]
    refine ⟨_, rfl, ?_⟩
    obtain ⟨torn, cell, faults⟩ := cellCheck_tornDown (e := Event.of { s with cell := { s.cell with recheckAt := some (d + 100000) } }) hl
    generalize (finish (cellCheck (Event.of { s with cell := { s.cell with recheckAt := some (d + 100000) } }))).toState = t
      at torn cell faults ⊢
    refine ⟨cell, faults, by rw [stopOut, faults], torn.budget, torn.programs, torn.strobes, torn.claims, torn.layout,
      fun p m hm => torn.slots.aborted m ⟨p, hm⟩, fun m hm => torn.slots.kept m fun ⟨p, hp⟩ => hm p hp, fun p => ?_, torn.entries⟩
    obtain ⟨queue, ⟨snap, cycle, sweep, probe⟩, owed, state, retry, unpowered, link, identity, kept⟩ := torn.ports p
    exact ⟨queue, snap, cycle, sweep, probe, state, retry, owed, unpowered, link, identity, kept⟩

/-! ## HALT (R31, R32) -/

theorem exec_halt {n : SlotNo} {s : State} (h : live s = true) (ho : handedOrder n s = some .halt) (hm : s.cell.mode = .run) :
    exec (.halt n) s = .next (finish (carriedOn (carryHalt n (Event.of s)))).toState := by
  refine (act_live h).trans ?_
  have carried : carryOut n .halt (carryHalt n) (Event.of s) = carriedOn (carryHalt n (Event.of s)) :=
    congrArg carriedOn (if_pos (by simp [Event.of, hm, Order.acceptedIn]))
  unfold after
  dsimp only
  rw [of_state, ho]
  exact congrArg (fun e => Host.Outcome.next (finish e).toState) carried

/-- The slot of an order that runs on, and nothing else but what is written, moves (R38, R40). -/
theorem startSlot_eq (n : SlotNo) (e : Event) : ∃ slots traffic, startSlot n e = { e with slots := slots, traffic := traffic } ∧
    (slots.get n).state = .running ∧ (slots.get n).order = (e.slots.get n).order ∧ (slots.get n).reason = .none ∧
    (slots.get n).results = [] ∧ ∀ k, k ≠ n → slots.get k = e.slots.get k := by
  unfold startSlot runSlot
  by_cases h : e.page.taken = .held
  · rw [writeAnswer_held (by exact h)]
    exact ⟨_, _, rfl, by simp [modSlot], by simp [modSlot], by simp [modSlot], by simp [modSlot],
      fun k hk => by simp [modSlot, get_modAt_ne _ _ _ _ hk]⟩
  · rw [writeAnswer_absent (by exact h)]
    exact ⟨_, e.traffic, rfl, by simp [modSlot], by simp [modSlot], by simp [modSlot], by simp [modSlot],
      fun k hk => by simp [modSlot, get_modAt_ne _ _ _ _ hk]⟩

/-- The event in which a HALT's teardown begins. -/
theorem haltBegun_eq (n : SlotNo) (e : Event) : ∃ slots flags count traffic, startSlot n (showMode (leaveRun .halt e)) =
      { leaveRun .halt e with
        slots := slots, page := { e.page with attention := flags, headerCount := count }, traffic := traffic } ∧
    (slots.get n).state = .running ∧ (slots.get n).order = (e.slots.get n).order ∧ (slots.get n).reason = .none ∧
    (slots.get n).results = [] ∧ ∀ k, k ≠ n → slots.get k = e.slots.get k := by
  obtain ⟨flags, count, traffic, hm⟩ := showMode_eq (leaveRun .halt e)
  obtain ⟨slots, traffic', hs, slot⟩ := startSlot_eq n (showMode (leaveRun .halt e))
  rw [hm] at hs slot
  exact ⟨slots, flags, count, traffic', by rw [hm, hs]; rfl, slot⟩

theorem carriedOn_ports (e : Event) : (carriedOn e).ports = e.ports := by
  unfold carriedOn nextRecord
  split
  · split <;> rfl
  · rfl
  · rfl

/-- The slot handed over holds the order. -/
theorem handedOrder_eq {n : SlotNo} {o : Order} {s : State} (h : handedOrder n s = some o) :
    s.handed = some n ∧ (s.slots.get n).order = some o := by
  unfold handedOrder at h
  split at h
  · next hn => exact ⟨hn, h⟩
  · cases h

/-- What a HALT leaves, but for the trace that still waits (R31, R32). -/
theorem halt_tornDown {n : SlotNo} {s : State} (hl : ∀ p, (s.ports.get p).link.state ≠ .dark → (s.ports.get p).power.state.powered = true)
    {e : Event} (he : e = startSlot n (showMode (leaveRun .halt (Event.of s)))) {t : State}
    (ht : t = (finish (carriedOn (teardown e))).toState) :
    TornDown e t ∧ t.cell = { s.cell with mode := .configure, cause := some .halt, recheckAt := none } ∧ t.handed = none ∧
    t.faults = s.faults ∧ t.pool.entries = (teardown e).pool.entries := by
  obtain ⟨slots, flags, count, traffic, hb, -⟩ := haltBegun_eq n (Event.of s)
  have links : ∀ p, (e.port p).link.state ≠ .dark → (e.port p).power.state.powered = true := by
    rw [he, hb]
    exact hl
  have quelled := quelled_teardown links
  have kept : (teardown e).faults = e.faults := (teardown_core e).2.1
  have torn := fun u faults handed cell => tornDown_teardown (e := e) links (t := u) (faults := faults) (handed := handed) (cell := cell)
  obtain ⟨programs, -, control⟩ := control_teardown e
  generalize teardown e = x at *
  have bare : t.bare = { x.bare with handed := none } := by
    rw [ht, Quelled.finish (quelled.of_ports (carriedOn_ports x)), bare_carriedOn]
  clear ht
  refine ⟨torn t x.faults none x.cell bare, ?_, (congrArg State.handed bare :), ?_, ?_⟩
  · rw [show t.cell = x.cell from (congrArg State.cell bare :), show x.cell = e.cell from congrArg Control.cell control, he, hb]
    rfl
  · rw [show t.faults = x.faults from (congrArg State.faults bare :), kept, he, hb]
    rfl
  · rw [show t.pool = x.pool from (congrArg State.pool bare :)]

/-! ## HALT_TEARDOWN_DONE (R31; log 37) -/

theorem doneSlots_eq (xs : List SlotNo) : ∀ e : Event, ∃ slots page traffic,
    xs.foldl (fun acc n => doneSlot n [] acc) e = { e with slots := slots, page := page, traffic := traffic } ∧
    (∀ n, n ∈ xs → (slots.get n).state = .done ∧ (slots.get n).results = []) ∧ ∀ n, n ∉ xs → slots.get n = e.slots.get n := by
  induction xs with
  | nil => exact fun e => ⟨e.slots, e.page, e.traffic, rfl, by simp, by simp⟩
  | cons x xs ih =>
    intro e
    obtain ⟨slots₁, page₁, traffic₁, h₁⟩ := finishSlot_eq x .done .none 0 [] e
    obtain ⟨c, self⟩ := get_finishSlot_self x .done .none 0 [] e
    have other := fun k hk => get_finishSlot_ne (n := x) (k := k) hk .done .none 0 [] e
    obtain ⟨slots, page, traffic, h, done, kept⟩ := ih { e with slots := slots₁, page := page₁, traffic := traffic₁ }
    rw [h₁] at self other
    refine ⟨slots, page, traffic, by rw [List.foldl_cons, doneSlot, h₁, h], fun n hn => ?_, fun n hn => ?_⟩
    · by_cases later : n ∈ xs
      · exact done n later
      · obtain rfl := (List.mem_cons.mp hn).resolve_right later
        rw [kept n later]
        exact ⟨congrArg Slot.state self, congrArg Slot.results self⟩
    · obtain ⟨hx, hxs⟩ := not_or.mp fun h => hn (List.mem_cons.mpr h)
      exact (kept n hxs).trans (other n hx)

theorem exec_haltTeardownDone {s : State} (h : live s = true) : ∃ slots page traffic,
    exec .haltTeardownDone s = .next { s with slots := slots, page := page, traffic := traffic } ∧
    (∀ n, (s.slots.get n).halts = true → (slots.get n).state = .done ∧ (slots.get n).results = []) ∧
    ∀ n, (s.slots.get n).halts = false → slots.get n = s.slots.get n := by
  obtain ⟨slots, page, traffic, hf, done, kept⟩ := doneSlots_eq (allSlots.filter fun n => (s.slots.get n).halts) (Event.of s)
  have all : ∀ n, n ∈ allSlots.filter (fun n => (s.slots.get n).halts) ↔ (s.slots.get n).halts = true := fun n => by
    simp [allSlots]
  exact ⟨slots, page, traffic, act_plain h hf, fun n hn => done n ((all n).mpr hn),
    fun n hn => kept n fun hx => by simp [hn] at hx⟩

/-- Settles O20: START's offers one by one, HALT from what a teardown leaves, and its answer. -/
theorem haltTearsDown : Obligations.HaltTearsDown := by
  refine ⟨fun n s h ho hm hs hc hw hp hb offers hoffers walk hwalk => ?_, fun n s h ho hm hn hl => ?_, fun s h => ?_⟩
  · refine ⟨_, exec_start_accepted h ho hm hs hc, ?_⟩
    obtain ⟨programs, reads, -, moved⟩ := control_start n s
    obtain ⟨e, offered, budget, power⟩ := start_powersUp (n := n) hw hp hb hoffers rfl
    generalize (finish (carriedOn (doneSlot n [] (startCell (Event.of s))))).toState = t at moved budget power ⊢
    subst hwalk
    refine ⟨congrArg (fun c => CellCtl.mode (Control.cell c)) moved, budget.trans offered.budget, fun c hc => ?_, fun c hc => ?_,
      fun p hp => ?_⟩
    · rw [power, offered.granted c hc]
    · rw [power, offered.waiting c hc]
    · rw [power, offered.others p hp]
  · refine ⟨_, exec_halt h ho hm, ?_⟩
    obtain ⟨slots, flags, count, traffic, hb, running, order, reason, results, others⟩ := haltBegun_eq n (Event.of s)
    obtain ⟨e, he⟩ : ∃ e, e = startSlot n (showMode (leaveRun .halt (Event.of s))) := ⟨_, rfl⟩
    have carried : carryHalt n (Event.of s) = teardown e := by rw [he]; rfl
    rw [carried]
    obtain ⟨torn, cell, handed, faults, entries⟩ := halt_tornDown (n := n) hl he rfl
    have trace := @teardown_trace e
    rw [← entries] at trace
    generalize (finish (carriedOn (teardown e))).toState = t at torn cell handed faults trace ⊢
    rw [hb] at he
    subst he
    have mine : t.slots.get n = slots.get n := torn.slots.kept n fun ⟨p, hp⟩ => hn p hp
    refine ⟨cell, torn.budget, handed, faults, torn.claims, torn.layout, torn.programs, torn.strobes, by rw [mine, running], ?_,
      by rw [mine, reason], by rw [mine, results], fun p => ?_, fun p m hm => torn.slots.aborted m ⟨p, hm⟩, fun m hm hq => ?_,
      torn.entries, @trace⟩
    · rw [mine, order]
      exact ((handedOrder_eq ho).2 :)
    · obtain ⟨queue, ⟨snap, cycle, sweep, probe⟩, owed, state, retry, unpowered, link, identity, kept⟩ := torn.ports p
      exact ⟨queue, snap, cycle, sweep, probe, owed, state, retry, fun hp => ⟨(unpowered hp).1, (unpowered hp).2.1⟩, link, kept⟩
    · exact (torn.slots.kept m fun ⟨p, hp⟩ => hq p hp).trans (others m hm)
  · obtain ⟨slots, page, traffic, hx, done, kept⟩ := exec_haltTeardownDone h
    exact ⟨_, hx, done, kept, rfl, rfl, rfl, rfl, rfl⟩

end Sys2Proof.Machine

namespace Sys2Proof.Machine

/-! ## Measurement (R70 to R72) -/

/-- A change of several ports, one after the other. -/
theorem forPorts_modPort_each {ps : List Port} (hps : ps.Nodup) (f : Port → PortState → PortState) : ∀ e : Event, ∃ ports,
    forPorts ps (fun p x => modPort p (f p) x) e = { e with ports := ports } ∧
    ∀ q, ports.get q = if q ∈ ps then f q (e.port q) else e.port q := by
  induction ps with
  | nil => exact fun e => ⟨e.ports, rfl, fun q => by simp [Event.port]⟩
  | cons p ps ih =>
    intro e
    obtain ⟨hp, hps⟩ := List.nodup_cons.mp hps
    obtain ⟨ports, h, hq⟩ := ih hps (modPort p (f p) e)
    refine ⟨ports, h, fun q => (hq q).trans ?_⟩
    rw [port_modPort]
    by_cases hqp : q = p
    · subst hqp; simp [hp]
    · simp [hqp]

theorem get_ofFn {α : Type} {n : Nat} (f : Fin n → α) (i : Fin n) : (Vector.ofFn f).get i = f i :=
  Vector.getElem_ofFn (f := f) i.isLt

/-- All eight ports are measured (R70). -/
theorem measured (readings : Vector Reading 8) (s : State) :
    forPorts allPorts (fun p x => modPower p (PortPower.measure (readings.get p)) x) (Event.of s) =
    Event.of { s with ports := Vector.ofFn fun p => { s.ports.get p with power := (s.ports.get p).power.measure (readings.get p) } } := by
  obtain ⟨ports, h, hq⟩ := forPorts_modPort_each (ps := allPorts) (by decide)
    (fun p q => { q with power := q.power.measure (readings.get p) }) (Event.of s)
  have all : ports = Vector.ofFn fun p => { s.ports.get p with power := (s.ports.get p).power.measure (readings.get p) } := by
    refine vector_ext_get fun q => ?_
    rw [hq, if_pos (mem_allPorts q), get_ofFn]
    rfl
  rw [← all]
  exact h

theorem exec_currentMeasurement {readings : Vector Reading 8} {s : State} (h : live s = true) {u : State}
    (hu : u = { s with ports := Vector.ofFn fun p => { s.ports.get p with power := (s.ports.get p).power.measure (readings.get p) } }) :
    exec (.currentMeasurement readings) s = .next (finish (forPorts allPorts judgeCurrent (Event.of u))).toState := by
  refine (act_live h).trans ?_
  unfold after
  dsimp only
  rw [measured, hu]

/-! ### The judgement of one port (R71, R72) -/

/-- The states in which a current is judged for SHORT. -/
theorem judgeCurrent_short {p : Port} {e : Event} (hw : (e.port p).power.state = .settling ∨ (e.port p).power.state = .on ∨
      (e.port p).power.state = .limit ∨ (e.port p).power.state = .standby ∨ (e.port p).power.state = .waking)
    (hc : 3000 < (e.port p).power.current) : judgeCurrent p e = powerFault p .short e := by
  unfold judgeCurrent
  dsimp only
  refine if_pos ⟨?_, hc⟩
  obtain h | h | h | h | h := hw <;> rw [h]

theorem judgeCurrent_limit {p : Port} {e : Event} (hs : (e.port p).power.state = .on) (hc : (e.port p).power.current ≤ 3000)
    (hl : (e.port p).power.limit < (e.port p).power.current) : judgeCurrent p e =
      setPower p .limit (modPower p (fun x => { x with limitAt := timer Config.limitTime e }) e) := by
  unfold judgeCurrent
  dsimp only
  rw [if_neg fun h => Nat.not_lt.mpr hc h.2, if_pos ⟨hs, hl⟩]

theorem judgeCurrent_on {p : Port} {e : Event} (hs : (e.port p).power.state = .limit) (hc : (e.port p).power.current ≤ 3000)
    (hl : (e.port p).power.current < (e.port p).power.limit) : judgeCurrent p e =
      tryStandby p (setPower p .on (modPower p (fun x => { x with limitAt := none }) e)) := by
  unfold judgeCurrent
  dsimp only
  rw [if_neg fun h => Nat.not_lt.mpr hc h.2, if_neg fun h => by simp [hs] at h, if_pos ⟨hs, hl⟩]

/-- A current within its bounds leaves the port. -/
theorem judgeCurrent_fine {p : Port} {e : Event}
    (hon : (e.port p).power.state = .on → (e.port p).power.current ≤ 3000 → (e.port p).power.current ≤ (e.port p).power.limit)
    (hlimit : (e.port p).power.state = .limit → (e.port p).power.current ≤ 3000 → (e.port p).power.limit ≤ (e.port p).power.current)
    (hshort : (e.port p).power.current ≤ 3000 ∨ ((e.port p).power.state ≠ .settling ∧ (e.port p).power.state ≠ .on ∧
      (e.port p).power.state ≠ .limit ∧ (e.port p).power.state ≠ .standby ∧ (e.port p).power.state ≠ .waking)) :
    judgeCurrent p e = e := by
  unfold judgeCurrent
  dsimp only
  obtain hc | ⟨settling, on, limit, standby, waking⟩ := hshort
  · rw [if_neg fun h => Nat.not_lt.mpr hc h.2, if_neg fun h => Nat.not_lt.mpr (hon h.1 hc) h.2,
      if_neg fun h => Nat.not_lt.mpr (hlimit h.1 hc) h.2]
  · cases hs : (e.port p).power.state <;> simp_all

/-- A change of a port's power state, without a probe to be told of it. -/
theorem setPower_toState {p : Port} {e : Event} (hp : (e.port p).probe = none) (st : PowerState) :
    (setPower p st e).toState = { e.toState with
      ports := modAt e.ports p fun q => { q with power := { q.power with state := st } } } := by
  unfold setPower
  split
  · next same =>
    have kept : modPort p (fun q => { q with power := { q.power with state := st } }) e = e := modPort_self (by rw [← same])
    exact (congrArg Event.toState kept :).symm
  · have untold : tellProbe p (touch p (modPower p (fun w => { w with state := st }) e)) =
        touch p (modPower p (fun w => { w with state := st }) e) :=
      if_neg (by rw [port_touch, port_modPower, if_pos rfl]; simp [hp])
    rw [untold, touch]
    split <;> rfl

/-- A change of a port's power record and then of its power state, without a probe to be told of it. -/
theorem setPower_modPower_toState {p : Port} {e : Event} (hp : (e.port p).probe = none) (st : PowerState) (f : PortPower → PortPower) :
    (setPower p st (modPower p f e)).toState = { e.toState with
      ports := modAt e.ports p fun q => { q with power := { f q.power with state := st } } } := by
  rw [setPower_toState (by rw [port_modPower, if_pos rfl]; exact hp), modPower_ports, modAt_modAt]
  rfl

theorem judgeCurrent_limit_toState {p : Port} {e : Event} (hs : (e.port p).power.state = .on) (hc : (e.port p).power.current ≤ 3000)
    (hl : (e.port p).power.limit < (e.port p).power.current) (hp : (e.port p).probe = none) : (judgeCurrent p e).toState =
      { e.toState with ports := modAt e.ports p fun q => { q with
        power := { q.power with state := .limit, limitAt := some (e.clock + 10000) } } } := by
  rw [judgeCurrent_limit hs hc hl, setPower_modPower_toState hp]
  rfl

/-- STANDBY is tried for a want of STANDBY only (R74). -/
theorem tryStandby_unwanted {p : Port} {e : Event} (h : wantOf (e.port p) ≠ .standby) : tryStandby p e = e := by
  unfold tryStandby
  exact if_neg fun hx => h hx.2.2

theorem judgeCurrent_on_toState {p : Port} {e : Event} (hs : (e.port p).power.state = .limit) (hc : (e.port p).power.current ≤ 3000)
    (hl : (e.port p).power.current < (e.port p).power.limit) (hp : (e.port p).probe = none) : ∃ f : Event, f.toState = { e.toState with
        ports := modAt e.ports p fun q => { q with power := { q.power with state := .on, limitAt := none } } } ∧
      judgeCurrent p e = (if wantOf (e.port p) = .standby then tryStandby p f else f) := by
  refine ⟨setPower p .on (modPower p (fun x => { x with limitAt := none }) e), setPower_modPower_toState hp .on _,
    (judgeCurrent_on hs hc hl).trans ?_⟩
  split
  · rfl
  · next unwanted =>
    refine tryStandby_unwanted ?_
    rw [port_setPower, if_pos rfl, port_modPower, if_pos rfl]
    exact unwanted

/-- Ports all within their bounds are left as they are. -/
theorem forPorts_judgeCurrent_fine {e : Event} (h : ∀ p, judgeCurrent p e = e) (ps : List Port) : forPorts ps judgeCurrent e = e := by
  induction ps with
  | nil => rfl
  | cons p ps ih =>
    change forPorts ps judgeCurrent (judgeCurrent p e) = e
    rw [h p, ih]

theorem exec_currentMeasurement_fine {readings : Vector Reading 8} {s : State} (h : live s = true) {u : State}
    (hu : u = { s with ports := Vector.ofFn fun p => { s.ports.get p with power := (s.ports.get p).power.measure (readings.get p) } })
    (hf : ∀ p, (u.ports.get p).power.current ≤ 3000 ∧
      ((u.ports.get p).power.state = .on → (u.ports.get p).power.current ≤ (u.ports.get p).power.limit) ∧
      ((u.ports.get p).power.state = .limit → (u.ports.get p).power.limit ≤ (u.ports.get p).power.current)) :
    exec (.currentMeasurement readings) s = .next u := by
  rw [exec_currentMeasurement h hu, forPorts_judgeCurrent_fine, finish_of]
  intro p
  obtain ⟨short, on, limit⟩ := hf p
  exact judgeCurrent_fine (fun hs _ => on hs) (fun hs _ => limit hs) (.inl short)

end Sys2Proof.Machine

namespace Sys2Proof.Machine

/-! ## FAULT_ACTION_APPLIED (R80, R81, R169) -/

/-- An event with nothing left to tell ends with the report parts of the ports it marked. -/
theorem finish_marked {e : Event} (ha : e.agenda = []) : (finish e).toState =
    e.toState.reported (allPorts.filter fun p => e.touched.contains p) :=
  after_marked (f := fun _ => e) (s := e.toState) ha

/-- The event of an action that is reported applied. -/
theorem exec_faultActionApplied {x : SentAction} {rest : List SentAction} {s u : State} (h : live s = true)
    (hs : s.faults.sent = x :: rest) (hu : u = { s with faults := { s.faults with sent := rest } }) :
    exec .faultActionApplied s = .next (finish (endFailedHush x rest (considerProbe x.port x.kind x.autoProbe
      (applyAction x.port x.action (Event.of u))))).toState := by
  refine (act_live h).trans ?_
  have sent : (Event.of s).faults.sent = x :: rest := hs
  unfold after
  dsimp only
  rw [sent, hu]
  rfl

/-- Auto-probe is not considered: disabled as the fault was raised, without a copy, or for another kind (R171). -/
theorem considerProbe_none {p : Port} {k : FaultKind} {on : Bool} {e : Event}
    (h : on = false ∨ e.cell.sheet = none ∨ k.probes = false) : considerProbe p k on e = e := by
  unfold considerProbe
  refine if_neg ?_
  obtain h | h | h := h <;> simp [h]

/-- No probe whose hush failed stands at the head. -/
theorem endFailedHush_none {x : SentAction} {rest : List SentAction} {e : Event}
    (h : ∀ r, (e.port x.port).probe = some r → r.phase ≠ .ending) : endFailedHush x rest e = e := by
  unfold endFailedHush
  refine if_neg fun hx => ?_
  cases hr : (e.port x.port).probe with
  | none => simp [hr] at hx
  | some r => exact h r hr (by simpa [hr] using hx.1)

theorem cell_applyAction (p : Port) (a : Action) (e : Event) : (applyAction p a e).cell = e.cell :=
  congrArg Control.cell (control_applyAction p a e)

/-- An action on a port without a probe, which auto-probe is not considered for: the action is the whole event. -/
theorem exec_faultActionApplied_alone {p : Port} {k : FaultKind} {a : Action} {on : Bool} {rest : List SentAction} {s u : State}
    (h : live s = true) (hs : s.faults.sent = { port := p, kind := k, action := a, autoProbe := on } :: rest)
    (hu : u = { s with faults := { s.faults with sent := rest } }) (hk : on = false ∨ s.cell.sheet = none ∨ k.probes = false)
    (hp : ((applyAction p a (Event.of u)).port p).probe = none) :
    exec .faultActionApplied s = .next (finish (applyAction p a (Event.of u))).toState := by
  have unconsidered : considerProbe p k on (applyAction p a (Event.of u)) = applyAction p a (Event.of u) := by
    refine considerProbe_none ?_
    rw [cell_applyAction, hu]
    exact hk
  rw [exec_faultActionApplied h hs hu]
  dsimp only
  rw [unconsidered, endFailedHush_none]
  intro r hr
  rw [hp] at hr
  cases hr

/-! ### A port that an action leaves as it stands -/

/-- NONE, a LOCKED_OUT port, and a HELD one but for CUT_LOCK. -/
theorem applyAction_left {p : Port} {a : Action} {e : Event} (h : a = .nothing ∨ (e.port p).power.state = .lockedOut ∨
    ((e.port p).power.state = .held ∧ a ≠ .cutLock)) : applyAction p a e = e := by
  obtain rfl | locked | ⟨held, ha⟩ := h
  · rfl
  · cases a <;> simp [applyAction, locked, PowerState.powered]
  · cases a with
    | nothing => rfl
    | cut => simp [applyAction, held, PowerState.powered]
    | cutLock => exact absurd rfl ha
    | cutRetry => simp [applyAction, held, PowerState.powered]

/-! ### An unpowered port -/

/-- Where an action takes a port, and its retry count. -/
def actionGoes (a : Action) (st : PowerState) (retry : Nat) : PowerState × Nat :=
  match a, st with
  | .nothing, x | _, x@.lockedOut | .cut, x@.held | .cutRetry, x@.held => (x, retry)
  | .cut, _ => (.held, retry)
  | .cutLock, _ => (.lockedOut, retry)
  | .cutRetry, x => (if 3 ≤ retry then .lockedOut else if x = .off then .off else .retryWait, min 4 (retry + 1))

theorem tripState_eq (w : PortPower) : tripState w = if 3 ≤ w.retry then .lockedOut else .retryWait := by
  unfold tripState
  exact if_congr (Nat.add_le_add_iff_right (m := 3) (n := 1)) rfl rfl

/-- The claim of a WAITING port is withdrawn. -/
def unclaimed (p : Port) (e : Event) : Event := { e with
  budget := if (e.port p).power.state = .waiting then { e.budget with
    waitList := e.budget.waitList.filter fun c => !(c.port == p && c.kind == .powerUp) } else e.budget }

theorem unclaimed_waiting {p : Port} {e : Event} (h : (e.port p).power.state = .waiting) : unclaimed p e = withdraw p .powerUp e := by
  unfold unclaimed
  rw [if_pos h]
  rfl

theorem unclaimed_other {p : Port} {e : Event} (h : (e.port p).power.state ≠ .waiting) : unclaimed p e = e := by
  unfold unclaimed
  rw [if_neg h]

/-- The retry count, when it stands, is not written. -/
theorem modPower_retry_self (p : Port) (e : Event) : modPower p (fun x => { x with retry := (e.port p).power.retry }) e = e :=
  modPort_self rfl

theorem countTrip_eq (p : Port) (e : Event) :
    countTrip p e = modPower p (fun x => { x with retry := min 4 ((e.port p).power.retry + 1) }) e := by
  unfold countTrip modPower modPort
  rw [modAt_eq_putAt, modAt_eq_putAt]
  rfl

section
variable {p : Port} {e : Event}

theorem applyAction_cut_unpowered (hp : (e.port p).power.state.powered = false) (hl : (e.port p).power.state ≠ .lockedOut)
    (hh : (e.port p).power.state ≠ .held) : applyAction p .cut e = enterAction p .held (unclaimed p e) := by
  unfold applyAction
  dsimp only
  rw [hp, if_neg Bool.false_ne_true]
  cases hs : (e.port p).power.state with
  | queued | inrush | settling | on | limit | standby | waking => simp [hs, PowerState.powered] at hp
  | lockedOut => exact absurd hs hl
  | held => exact absurd hs hh
  | waiting => rw [unclaimed_waiting hs]
  | retryWait | off => rw [unclaimed_other (by simp [hs])]

theorem applyAction_cutLock_unpowered (hp : (e.port p).power.state.powered = false) (hl : (e.port p).power.state ≠ .lockedOut) :
    applyAction p .cutLock e = enterAction p .lockedOut (unclaimed p e) := by
  unfold applyAction
  dsimp only
  rw [hp, if_neg Bool.false_ne_true]
  cases hs : (e.port p).power.state with
  | queued | inrush | settling | on | limit | standby | waking => simp [hs, PowerState.powered] at hp
  | lockedOut => exact absurd hs hl
  | waiting => rw [unclaimed_waiting hs]
  | retryWait | off | held => rw [unclaimed_other (by simp [hs])]

theorem applyAction_cutRetry_unpowered (hp : (e.port p).power.state.powered = false) (hl : (e.port p).power.state ≠ .lockedOut)
    (hh : (e.port p).power.state ≠ .held) : applyAction p .cutRetry e = enterAction p
      (if 3 ≤ (e.port p).power.retry then .lockedOut else if (e.port p).power.state = .off then .off else .retryWait)
      (countTrip p (unclaimed p e)) := by
  unfold applyAction
  dsimp only
  rw [hp, if_neg Bool.false_ne_true, tripState_eq]
  cases hs : (e.port p).power.state with
  | queued | inrush | settling | on | limit | standby | waking => simp [hs, PowerState.powered] at hp
  | lockedOut => exact absurd hs hl
  | held => exact absurd hs hh
  | waiting => rw [unclaimed_waiting hs]; rfl
  | retryWait => rw [unclaimed_other (by simp [hs])]; rfl
  | off =>
    rw [unclaimed_other (by simp [hs])]
    by_cases third : 3 ≤ (e.port p).power.retry <;> simp [third]

/-- An action on an unpowered port withdraws its claim, counts its trip and enters the state it gives. -/
theorem applyAction_unpowered {a : Action} (ha : a ≠ .nothing) (hl : (e.port p).power.state ≠ .lockedOut)
    (hh : (e.port p).power.state = .held → a = .cutLock) (hp : (e.port p).power.state.powered = false) : applyAction p a e =
      enterAction p (actionGoes a (e.port p).power.state (e.port p).power.retry).1 (modPower p (fun x => { x with
        retry := (actionGoes a (e.port p).power.state (e.port p).power.retry).2 }) (unclaimed p e)) := by
  have kept : modPower p (fun x => { x with retry := (e.port p).power.retry }) (unclaimed p e) = unclaimed p e :=
    modPower_retry_self p (unclaimed p e)
  cases a with
  | nothing => exact absurd rfl ha
  | cut =>
    have free : (e.port p).power.state ≠ .held := fun hs => nomatch hh hs
    have goes : actionGoes .cut (e.port p).power.state (e.port p).power.retry = (.held, (e.port p).power.retry) := by
      unfold actionGoes
      split <;> simp_all
    rw [applyAction_cut_unpowered hp hl free, goes, kept]
  | cutLock =>
    have goes : actionGoes .cutLock (e.port p).power.state (e.port p).power.retry = (.lockedOut, (e.port p).power.retry) := by
      unfold actionGoes
      split <;> simp_all
    rw [applyAction_cutLock_unpowered hp hl, goes, kept]
  | cutRetry =>
    have free : (e.port p).power.state ≠ .held := fun hs => nomatch hh hs
    have goes : actionGoes .cutRetry (e.port p).power.state (e.port p).power.retry =
        (if 3 ≤ (e.port p).power.retry then .lockedOut else if (e.port p).power.state = .off then .off else .retryWait,
          min 4 ((e.port p).power.retry + 1)) := by
      unfold actionGoes
      split <;> simp_all
    rw [applyAction_cutRetry_unpowered hp hl free, goes, countTrip_eq]
    rfl

end

theorem setPower_touched {p : Port} {e : Event} (hp : (e.port p).probe = none) (st : PowerState) :
    (setPower p st e).touched = if (e.port p).power.state = st then e.touched else (touch p e).touched := by
  unfold setPower
  split
  · rfl
  · have untold : tellProbe p (touch p (modPower p (fun w => { w with state := st }) e)) =
        touch p (modPower p (fun w => { w with state := st }) e) :=
      if_neg (by rw [port_touch, port_modPower, if_pos rfl]; simp [hp])
    rw [untold, touch, touch]
    split <;> simp_all

end Sys2Proof.Machine

namespace Sys2Proof.Machine

/-! ### The event of an action on an unpowered port -/

theorem port_unclaimed (p q : Port) (e : Event) : (unclaimed p e).port q = e.port q := rfl

/-- The retry timer as an action starts or stops it (R81). -/
def retryFor (st : PowerState) (e : Event) : Option Nat := if st = .retryWait then some (e.clock + 1000000) else none

/-- Entering a state, without a probe: the state itself, and the port marked when it is another. -/
theorem enterAction_eq {p : Port} {e : Event} (hp : (e.port p).probe = none) (ht : e.touched = []) (st : PowerState) :
    (enterAction p st e).toState = { e.toState with ports := modAt e.ports p fun q => { q with
      power := { q.power with state := st, retryAt := retryFor st e, retryEnded := false } } } ∧
    (enterAction p st e).agenda = e.agenda ∧
    (enterAction p st e).touched = if st = (e.port p).power.state then [] else [p] := by
  have probe (f : PortPower → PortPower) : ((modPower p f e).port p).probe = none := by
    rw [port_modPower, if_pos rfl]
    exact hp
  unfold enterAction
  refine ⟨(setPower_modPower_toState hp st _).trans rfl, setPower_agenda (probe _) st, ?_⟩
  rw [setPower_touched (probe _), port_modPower, if_pos rfl, touch, modPower_touched, ht]
  by_cases hs : st = (e.port p).power.state
  · rw [if_pos hs.symm, if_pos hs]
  · rw [if_neg (Ne.symm hs), if_neg hs]
    rfl

theorem exec_faultActionApplied_unpowered {p : Port} {k : FaultKind} {a : Action} {on : Bool} {rest : List SentAction} {s u : State}
    (h : live s = true) (hs : s.faults.sent = { port := p, kind := k, action := a, autoProbe := on } :: rest)
    (hu : u = { s with faults := { s.faults with sent := rest } }) (hk : on = false ∨ s.cell.sheet = none ∨ k.probes = false)
    (hp : (s.ports.get p).probe = none) (ha : a ≠ .nothing) {w : PortPower} (hw : w = (s.ports.get p).power)
    (hl : w.state ≠ .lockedOut) (hh : w.state = .held → a = .cutLock) (hn : w.state.powered = false) {goes : PowerState × Nat}
    (hg : goes = actionGoes a w.state w.retry) :
    exec .faultActionApplied s = .next (State.reported (if goes.1 = w.state then [] else [p]) { u with
      ports := modAt s.ports p fun q => { q with power := { q.power with
        state := goes.1, retry := goes.2, retryAt := if goes.1 = .retryWait then some (s.clock + 1000000) else none
        retryEnded := false } }
      budget := if w.state = .waiting then { s.budget with
        waitList := s.budget.waitList.filter fun c => !(c.port == p && c.kind == .powerUp) } else s.budget }) := by
  have power : ((Event.of u).port p).power = w := by rw [hu, hw]; rfl
  have probe : ((Event.of u).port p).probe = none := by rw [hu]; exact hp
  have applied := applyAction_unpowered (e := Event.of u) ha (power ▸ hl) (power ▸ hh) (power ▸ hn)
  rw [power, ← hg] at applied
  obtain ⟨x, hx⟩ : ∃ x, x = modPower p (fun y => { y with retry := goes.2 }) (unclaimed p (Event.of u)) := ⟨_, rfl⟩
  rw [← hx] at applied
  have probe' : (x.port p).probe = none := by
    rw [hx, port_modPower, if_pos rfl]
    exact probe
  have state : (x.port p).power.state = w.state := by
    rw [hx, port_modPower, if_pos rfl, ← power]
    rfl
  obtain ⟨ended, untold, marked⟩ := enterAction_eq probe' (by rw [hx]; rfl) goes.1
  rw [← applied] at ended untold marked
  have alone : ((applyAction p a (Event.of u)).port p).probe = none := by
    have := congrArg (fun t : State => (t.ports.get p).probe) ended
    dsimp only at this
    rw [get_modAt_self] at this
    exact this.trans probe'
  rw [exec_faultActionApplied_alone h hs hu hk alone, finish_marked (untold.trans (by rw [hx]; rfl)), marked, state, ended]
  have shown : (allPorts.filter fun q => (if goes.1 = w.state then [] else [p]).contains q) = if goes.1 = w.state then [] else [p] := by
    split
    · simp
    · exact filter_contains_single p
  have ports : x.ports = modAt u.ports p fun q => { q with power := { q.power with retry := goes.2 } } := by rw [hx]; rfl
  rw [shown, ports, modAt_modAt]
  subst hx hu hw
  rfl

end Sys2Proof.Machine

namespace Sys2Proof.Machine

/-! ## The removal of power, no claim waiting (R78, R94, R143) -/

/-- What each entry's share keeps, all of them keep. -/
theorem forEntries_keeps {α : Type} (g : Event → α) {f : Nat → Event → Event} (h : ∀ b x, g (f b x) = g x) (e : Event) :
    g (forEntries f e) = g e := by
  unfold forEntries
  generalize List.range e.pool.entries.length = bs
  induction bs generalizing e with
  | nil => rfl
  | cons b bs ih => rw [List.foldl_cons, ih, h]

@[simp] theorem core_loseFrame (p : Port) (b : Nat) (e : Event) : core (loseFrame p b e) = core e := by
  unfold loseFrame
  (repeat' split) <;> simp

@[simp] theorem loseFrame_agenda (p : Port) (b : Nat) (e : Event) : (loseFrame p b e).agenda = e.agenda := by
  unfold loseFrame
  (repeat' split) <;> simp

theorem runs_raiseFlags (bits : BitVec 14) (e : Event) : runs (raiseFlags bits e) = runs e := runs_of_ports (by rw [raiseFlags_eq])

theorem runs_countDelivery (x : Entry) (e : Event) : runs (countDelivery x e) = runs e := by
  unfold countDelivery
  split
  · exact runs_modPort_same (by exact fun _ => rfl) e
  · rfl

theorem runs_deliver (b : Nat) (o : FrameOutcome) (e : Event) : runs (deliver b o e) = runs e := by
  unfold deliver
  split
  · rfl
  · rw [runs_countDelivery, runs_raiseFlags, runs_writeBuffer_modEntry]

theorem runs_returnGiven (b : Nat) (e : Event) : runs (returnGiven b e) = runs e := by
  unfold returnGiven
  split
  · split
    · exact runs_writeBuffer_modEntry b _ e
    · rfl
  · rfl

theorem runs_loseFrame (p : Port) (b : Nat) (e : Event) : runs (loseFrame p b e) = runs e := by
  unfold loseFrame
  (repeat' split) <;> simp [runs_deliver, runs_returnGiven]

/-- A loss of a port's frames tells of the gap it makes, and of nothing else. -/
theorem loseFrames_tells {p : Port} {e : Event} {t : Task} (h : t ∈ (loseFrames p e).agenda) : t ∈ e.agenda ∨ t = .gap p := by
  have lost : (forEntries (loseFrame p) e).agenda = e.agenda := forEntries_keeps Event.agenda (loseFrame_agenda p) e
  unfold loseFrames at h
  dsimp only at h
  split at h
  · exact .inl (lost ▸ h)
  · unfold tellIfDrained at h
    split at h
    · rw [tell_agenda, lost] at h
      simpa using h
    · exact .inl (lost ▸ h)

theorem core_loseFrames (p : Port) (e : Event) : core (loseFrames p e) = core e := by
  have lost : core (forEntries (loseFrame p) e) = core e := forEntries_keeps core (core_loseFrame p) e
  unfold loseFrames
  dsimp only
  split
  · exact lost
  · rw [core_tellIfDrained, lost]

theorem runs_tellIfDrained (p : Port) (e : Event) : runs (tellIfDrained p e) = runs e := by
  unfold tellIfDrained
  split <;> rfl

theorem runs_loseFrames (p : Port) (e : Event) : runs (loseFrames p e) = runs e := by
  have lost : runs (forEntries (loseFrame p) e) = runs e := forEntries_keeps runs (runs_loseFrame p) e
  unfold loseFrames
  dsimp only
  split
  · exact lost
  · rw [runs_tellIfDrained, lost]

/-! ### What a removal keeps -/

/-- What a removal of port p's power keeps: the slots, the Fault Unit, and what runs on the ports; it tells of p's gap at most. -/
structure Spared (p : Port) (e x : Event) : Prop where
  slots : x.slots = e.slots
  faults : x.faults = e.faults
  runs : runs x = runs e
  tells : ∀ t ∈ x.agenda, t ∈ e.agenda ∨ t = .gap p

theorem Spared.trans {p : Port} {e x y : Event} (h : Spared p e x) (h' : Spared p x y) : Spared p e y :=
  ⟨h'.slots.trans h.slots, h'.faults.trans h.faults, h'.runs.trans h.runs, fun t ht => (h'.tells t ht).elim (h.tells t) .inr⟩

theorem Spared.refl (p : Port) (e : Event) : Spared p e e := ⟨rfl, rfl, rfl, fun _ => .inl⟩

theorem Spared.of_core {p : Port} {e x : Event} (hc : core x = core e) (hr : Machine.runs x = Machine.runs e)
    (ha : ∀ t ∈ x.agenda, t ∈ e.agenda ∨ t = .gap p) : Spared p e x :=
  ⟨congrArg Core.slots hc, congrArg Core.faults hc, hr, ha⟩

section
variable {p : Port} {e x : Event}

theorem Spared.snap (h : Spared p e x) (q : Port) : (x.port q).snap = (e.port q).snap := congrArg (fun r => (r q).1) h.runs
theorem Spared.sweep (h : Spared p e x) (q : Port) : (x.port q).sweep = (e.port q).sweep := congrArg (fun r => (r q).2.2.1) h.runs
theorem Spared.probe (h : Spared p e x) (q : Port) : (x.port q).probe = (e.port q).probe := congrArg (fun r => (r q).2.2.2) h.runs

end

/-- A change of a port record that leaves its runs. -/
theorem Spared.modPort {p q : Port} {f : PortState → PortState} (e : Event)
    (h : ∀ q, ((f q).snap, (f q).cycle, (f q).sweep, (f q).probe) = (q.snap, q.cycle, q.sweep, q.probe)) :
    Spared p e (Machine.modPort q f e) := ⟨rfl, rfl, runs_modPort_same h e, fun _ => .inl⟩

theorem Spared.touch (p q : Port) (e : Event) : Spared p e (Machine.touch q e) := by
  unfold Machine.touch
  split
  · exact .refl p e
  · exact ⟨rfl, rfl, rfl, fun _ => .inl⟩

theorem tellProbe_none {p : Port} {e : Event} (h : (e.port p).probe = none) : tellProbe p e = e := if_neg (by simp [h])

theorem Spared.setPower {p : Port} {e : Event} (h : (e.port p).probe = none) (st : PowerState) :
    Spared p e (Machine.setPower p st e) := by
  unfold Machine.setPower
  split
  · exact .refl p e
  · rw [tellProbe_none (by rw [port_touch, port_modPower, if_pos rfl]; exact h)]
    exact (Spared.modPort e (by exact fun _ => rfl)).trans (.touch p p _)

theorem Spared.setLink {p : Port} {e : Event} (h : (e.port p).probe = none) (st : LinkState) :
    Spared p e (Machine.setLink p st e) := by
  unfold Machine.setLink
  split
  · exact .refl p e
  · rw [tellProbe_none (by rw [port_touch, modLink, port_modPort, if_pos rfl]; exact h)]
    exact (Spared.modPort e (by exact fun _ => rfl)).trans (.touch p p _)

theorem Spared.setLens {p : Port} (e : Event) (st : LensState) : Spared p e (Machine.setLens p st e) := by
  unfold Machine.setLens
  split
  · exact .refl p e
  · exact (Spared.modPort e (by exact fun _ => rfl)).trans (.touch p p _)

theorem Spared.loseFrames (p : Port) (e : Event) : Spared p e (Machine.loseFrames p e) :=
  .of_core (core_loseFrames p e) (runs_loseFrames p e) fun _ => loseFrames_tells

/-- A link going DARK, with neither a sweep nor a probe on its port. -/
theorem Spared.linkDark {p : Port} {e : Event} (hp : (e.port p).probe = none) (hw : (e.port p).sweep = none) :
    Spared p e (Machine.linkDark p e) := by
  unfold Machine.linkDark
  split
  · exact .refl p e
  · obtain ⟨x, hx⟩ : ∃ x, x = emptyHistories p (modLink p PortLink.darken e) := ⟨_, rfl⟩
    have first : Spared p e x := hx ▸ (Spared.modPort e (by exact fun _ => rfl)).trans (Spared.modPort _ (by exact fun _ => rfl))
    have quiet : (x.port p).probe = none := (first.probe p).trans hp
    have second := first.trans (Spared.setLink quiet .dark)
    have unswept : ((Machine.setLink p .dark x).port p).sweep = none := (second.sweep p).trans hw
    have unspoiled : sweepSpoiled p (Machine.setLink p .dark x) = Machine.setLink p .dark x := by
      unfold sweepSpoiled
      rw [unswept]
    rw [← hx, spoilFrames, unspoiled]
    exact second.trans (.loseFrames p _)

/-- The budget through a link's darkening. -/
theorem linkDark_budget (p : Port) (e : Event) : (linkDark p e).budget = e.budget := by
  unfold linkDark
  split
  · rfl
  · have spoiled : ∀ x : Event, (sweepSpoiled p x).budget = x.budget := fun x => by
      unfold sweepSpoiled
      (repeat' split) <;> rfl
    have linked : ∀ (x : Event), (setLink p .dark x).budget = x.budget := fun x => by
      unfold setLink
      split
      · rfl
      · rw [tellProbe_budget, touch_budget]
        rfl
    have lost : ∀ x : Event, (loseFrames p x).budget = x.budget := fun x => congrArg Core.budget (core_loseFrames p x)
    rw [spoilFrames, lost, spoiled, linked]
    rfl

end Sys2Proof.Machine

namespace Sys2Proof.Machine

theorem withdraw_none {p : Port} {k : ClaimKind} {e : Event} (h : e.budget.waitList = []) : withdraw p k e = e := by
  unfold withdraw
  rw [h, List.filter_nil, ← h]

theorem walk_none {e : Event} (h : e.budget.waitList = []) : walk e = e := walkUpTo_none (by simp [h]) _

/-- A port whose power has been removed and whose link is DARK, its lens not yet told. -/
def severed (p : Port) (st : PowerState) (e : Event) : Event :=
  linkDark p (setPower p st (leaveInrush p (withdrawAll p (modPower p PortPower.cut e))))

theorem faces_severed (p : Port) (st : PowerState) (e : Event) : faces (severed p st e) = Function.update (faces e) p
    { faces e p with power := { (faces e p).power.cut with state := st }, link := (faces e p).link.dark } := by
  have cut : faces (leaveInrush p (withdrawAll p (modPower p PortPower.cut e))) = faces (modPower p PortPower.cut e) := rfl
  unfold severed
  rw [faces_linkDark, faces_setPower, cut, faces_modPower]
  simp

theorem severed_budget {p : Port} {e : Event} (hw : e.budget.waitList = []) (st : PowerState) :
    (severed p st e).budget.waitList = [] ∧ (severed p st e).budget.inrush = e.budget.inrush.filter (· != p) := by
  unfold severed
  rw [linkDark_budget, setPower_budget]
  exact ⟨by simp [leaveInrush, withdrawAll, hw], rfl⟩

theorem spared_severed {p : Port} {e : Event} (hp : (e.port p).probe = none) (hw : (e.port p).sweep = none) (st : PowerState) :
    Spared p e (severed p st e) := by
  obtain ⟨x, hx⟩ : ∃ x, x = leaveInrush p (withdrawAll p (modPower p PortPower.cut e)) := ⟨_, rfl⟩
  have cut : Spared p e x := hx ▸ ⟨rfl, rfl, runs_modPort_same (by exact fun _ => rfl) e, fun _ => .inl⟩
  have quiet : (x.port p).probe = none := (cut.probe p).trans hp
  have unpowered := cut.trans (.setPower quiet st)
  unfold severed
  rw [← hx]
  exact unpowered.trans (.linkDark ((unpowered.probe p).trans hp)
    ((unpowered.sweep p).trans hw))

theorem power_faces (p : Port) (e : Event) : (e.port p).power = (faces e p).power := rfl

/-- The lens after a removal of power. -/
def lensSevered (p : Port) (st : PowerState) (e : Event) : Event :=
  setLens p .unknown (modLens p (LensRec.lose true) (severed p st e))

theorem loseLens_severed {p : Port} {e : Event} (hw : e.budget.waitList = []) (st : PowerState) :
    loseLens p true (severed p st e) = lensSevered p st e := by
  have waits := (severed_budget hw st (p := p)).1
  have motion : ((modLens p (LensRec.lose true) (severed p st e)).port p).power.motion = 0 := by
    rw [power_faces, faces_modLens, faces_severed]
    simp [PortPower.cut]
  have lost : ((severed p st e).port p).lens.state.lost true = .unknown := by
    cases ((severed p st e).port p).lens.state <;> rfl
  unfold loseLens lensSevered
  dsimp only
  rw [withdraw_none (by exact waits), releaseMotion, if_pos motion, lost]

/-- The orders of a port on which neither a SNAP, nor a sweep, nor a probe runs. -/
theorem cutOrders_none {p : Port} {e : Event} (hs : (e.port p).snap = none) (hw : (e.port p).sweep = none)
    (hp : (e.port p).probe = none) : cutOrders p e = e := by
  have snap : loseSnap p .powerLost e = e := by unfold loseSnap; rw [hs]
  have sweep : endSweep p .aborted .powerLost e = e := by unfold endSweep; rw [hw]
  have probe : cutProbe p e = e := by unfold cutProbe; rw [hp]
  rw [cutOrders, snap, sweep, probe]

theorem spared_lensSevered {p : Port} {e : Event} (hp : (e.port p).probe = none) (hw : (e.port p).sweep = none) (st : PowerState) :
    Spared p e (lensSevered p st e) :=
  ((spared_severed hp hw st).trans (Spared.modPort _ (by exact fun _ => rfl))).trans (.setLens _ _)

/-- What a removal of power leaves. -/
structure Removed (p : Port) (st : PowerState) (e x : Event) : Prop where
  spared : Spared p e x
  power : (x.port p).power = { (e.port p).power.cut with state := st }
  link : (x.port p).link.state = .dark
  lens : (x.port p).lens.state = .unknown
  faults : (x.port p).faults = (e.port p).faults
  queue : (x.port p).queue = (e.port p).queue
  others : ∀ q, q ≠ p → (x.port q).power = (e.port q).power
  inrush : x.budget.inrush = e.budget.inrush.filter (· != p)

theorem PortLink.dark_state (l : PortLink) : l.dark.state = .dark := by
  unfold PortLink.dark
  split
  · assumption
  · rfl

theorem setLens_budget (p : Port) (st : LensState) (e : Event) : (setLens p st e).budget = e.budget := by
  unfold setLens
  split
  · rfl
  · rw [touch_budget]
    rfl

theorem lensSevered_budget (p : Port) (st : PowerState) (e : Event) : (lensSevered p st e).budget = (severed p st e).budget := by
  unfold lensSevered
  rw [setLens_budget, modLens_budget]

theorem faces_lensSevered (p : Port) (st : PowerState) (e : Event) : faces (lensSevered p st e) = Function.update (faces e) p
    { faces e p with
      power := { (faces e p).power.cut with state := st }, link := (faces e p).link.dark
      lens := { (faces e p).lens.lose true with state := .unknown } } := by
  unfold lensSevered
  rw [faces_setLens, faces_modLens, faces_severed]
  simp

theorem removed_lensSevered {p : Port} {e : Event} (hb : e.budget.waitList = []) (hp : (e.port p).probe = none)
    (hw : (e.port p).sweep = none) (st : PowerState) : Removed p st e (takeStage (lensSevered p st e)) := by
  have shown := faces_lensSevered p st e
  have spared := spared_lensSevered hp hw st
  have inrush := (lensSevered_budget p st e).symm ▸ (severed_budget hb st (p := p)).2
  generalize lensSevered p st e = x at shown spared inrush
  rw [takeStage_eq]
  have mine : faces x p = { faces e p with
      power := { (faces e p).power.cut with state := st }, link := (faces e p).link.dark
      lens := { (faces e p).lens.lose true with state := .unknown } } := by rw [shown, Function.update_self]
  exact {
    spared := ⟨spared.slots, spared.faults, spared.runs, spared.tells⟩
    power := (congrArg Face.power mine :)
    link := (congrArg (fun f => f.link.state) mine :).trans (PortLink.dark_state _)
    lens := (congrArg (fun f => f.lens.state) mine :)
    faults := (congrArg Face.faults mine :)
    queue := (congrArg Face.queue mine :)
    others := fun q hq => by
      have other : faces x q = faces e q := by rw [shown, Function.update_of_ne hq]
      exact (congrArg Face.power other :)
    inrush }

theorem lensSevered_waits {p : Port} {e : Event} (hb : e.budget.waitList = []) (st : PowerState) :
    (lensSevered p st e).budget.waitList = [] := by
  rw [lensSevered_budget]
  exact (severed_budget hb st).1

/-- A fault cut, with nothing on the port to be ended. -/
theorem removePower_fault {p : Port} {e : Event} (hb : e.budget.waitList = []) (hs : (e.port p).snap = none)
    (hp : (e.port p).probe = none) (hw : (e.port p).sweep = none) (st : PowerState) :
    removePower p .fault st e = takeStage (lensSevered p st e) := by
  have spared := spared_lensSevered hp hw st
  have unended : cutOrders p (lensSevered p st e) = lensSevered p st e := cutOrders_none
    ((spared.snap p).trans hs) ((spared.sweep p).trans hw)
    ((spared.probe p).trans hp)
  have steps : removePower p .fault st e = takeStage (if (e.port p).power.held = 0
      then cutOrders p (loseLens p true (severed p st e)) else walk (cutOrders p (loseLens p true (severed p st e)))) := rfl
  rw [steps, loseLens_severed hb, unended, walk_none (lensSevered_waits hb st), ite_self]

/-- The removal that a CYCLE begins with. -/
theorem removePower_cycle {p : Port} {e : Event} (hb : e.budget.waitList = []) (st : PowerState) :
    removePower p .cycle st e = takeStage (lensSevered p st e) := by
  have steps : removePower p .cycle st e = takeStage (if (e.port p).power.held = 0
      then loseLens p true (severed p st e) else walk (loseLens p true (severed p st e))) := rfl
  rw [steps, loseLens_severed hb, walk_none (lensSevered_waits hb st), ite_self]

end Sys2Proof.Machine

namespace Sys2Proof.Machine

/-! ## Tasks that find nothing to do -/

/-- An agenda on which every task leaves the state is worked off without a change. -/
theorem drain_idle {e : Event} (h : ∀ t ∈ e.agenda, ∀ x : Event, x.toState = e.toState → perform t x = x) (n : Nat) :
    drain n e = { e with agenda := [] } := by
  induction n generalizing e with
  | zero => rfl
  | succ n ih =>
    cases ha : e.agenda with
    | nil => exact drain_empty ha
    | cons t ts =>
      have idle : perform t { e with agenda := ts } = { e with agenda := ts } := h t (by simp [ha]) _ rfl
      unfold drain
      rw [ha]
      dsimp only
      rw [idle]
      exact ih fun t ht => h t (by rw [ha]; exact List.mem_cons_of_mem _ ht)

/-- A lens that is not STAGED is not tested (R140). -/
theorem perform_lens_idle {p : Port} {e : Event} (h : (e.port p).lens.state ≠ .staged) : perform (.lens p) e = e :=
  if_neg fun hx => h hx.1

/-- A gap tells a port nothing that has neither a STAGED lens nor a probe (R140, R155). -/
theorem perform_gap_idle {p : Port} {e : Event} (h : (e.port p).lens.state ≠ .staged) (hp : (e.port p).probe = none) :
    perform (.gap p) e = e := by
  have untested : lensTest p e = e := perform_lens_idle h
  change drainIfDraining p (lensTest p e) = e
  rw [untested, drainIfDraining, hp]

theorem perform_owed_idle {p : Port} {e : Event} (h : (e.port p).power.owed = false) : perform (.owed p) e = e :=
  if_neg (by simp [h])

theorem perform_begin_idle {p : Port} {e : Event} (h : (e.port p).queue = []) : perform (.begin p) e = e := by
  change beginHead p e = e
  unfold beginHead
  rw [h]

/-- An event of which only gaps are left to be told, on a port without a STAGED lens or a probe. -/
theorem drain_gaps {p : Port} {e : Event} (hl : (e.port p).lens.state ≠ .staged) (hp : (e.port p).probe = none)
    (ha : ∀ t ∈ e.agenda, t = .gap p) (n : Nat) : drain n e = { e with agenda := [] } := by
  refine drain_idle (fun t ht x hx => ?_) n
  rw [ha t ht]
  have port : x.port p = e.port p := congrArg (fun s : State => s.ports.get p) hx
  exact perform_gap_idle (port ▸ hl) (port ▸ hp)

/-- The end of an event whose agenda is worked off without a change. -/
theorem bare_finish_of_drain {e x : Event} (h : drain agendaBound e = x) : (finish e).bare = x.bare := by
  unfold finish
  rw [h, bare_flush]

/-! ### A powered port -/

/-- The action on a powered port: the trip is counted and the power removed (R78, R80, R81). -/
theorem applyAction_powered {p : Port} {a : Action} {e : Event} (ha : a ≠ .nothing) (hp : (e.port p).power.state.powered = true)
    {goes : PowerState × Nat} (hg : goes = actionGoes a (e.port p).power.state (e.port p).power.retry) :
    applyAction p a e = if goes.1 = .retryWait then
        modPower p (fun x => { x with retryAt := some (e.clock + 1000000) })
          (removePower p .fault goes.1 (modPower p (fun x => { x with retry := goes.2 }) e))
      else removePower p .fault goes.1 (modPower p (fun x => { x with retry := goes.2 }) e) := by
  have kept := modPower_retry_self p e
  cases a with
  | nothing => exact absurd rfl ha
  | cut =>
    have goes' : goes = (.held, (e.port p).power.retry) := by
      rw [hg]; unfold actionGoes
      split <;> simp_all [PowerState.powered]
    unfold applyAction
    dsimp only
    rw [if_pos hp, goes', kept]
    rfl
  | cutLock =>
    have goes' : goes = (.lockedOut, (e.port p).power.retry) := by
      rw [hg]; unfold actionGoes
      split <;> simp_all [PowerState.powered]
    unfold applyAction
    dsimp only
    rw [if_pos hp, goes', kept]
    rfl
  | cutRetry =>
    have on : (e.port p).power.state ≠ .off := fun hs => by simp [hs, PowerState.powered] at hp
    have goes' : goes = (tripState (e.port p).power, min 4 ((e.port p).power.retry + 1)) := by
      rw [hg, tripState_eq]; unfold actionGoes
      split <;> simp_all [PowerState.powered]
    unfold applyAction
    dsimp only
    rw [if_pos hp, goes', countTrip_eq]
    rfl

/-- What an action on a powered port leaves. -/
structure ActedOn (p : Port) (goes : PowerState × Nat) (e x : Event) : Prop where
  power : (x.port p).power = { ({ (e.port p).power with retry := goes.2 } : PortPower).cut with
    state := goes.1, retryAt := if goes.1 = .retryWait then some (e.clock + 1000000) else (e.port p).power.retryAt }
  spared : Spared p e x
  link : (x.port p).link.state = .dark
  lens : (x.port p).lens.state = .unknown
  faults : (x.port p).faults = (e.port p).faults
  others : ∀ q, q ≠ p → (x.port q).power = (e.port q).power
  inrush : x.budget.inrush = e.budget.inrush.filter (· != p)

theorem actedOn_applyAction {p : Port} {a : Action} {e : Event} (ha : a ≠ .nothing) (hp : (e.port p).power.state.powered = true)
    {goes : PowerState × Nat} (hg : goes = actionGoes a (e.port p).power.state (e.port p).power.retry) (hb : e.budget.waitList = [])
    (hs : (e.port p).snap = none) (hr : (e.port p).probe = none) (hw : (e.port p).sweep = none) :
    ActedOn p goes e (applyAction p a e) := by
  obtain ⟨y, hy⟩ : ∃ y, y = modPower p (fun x => { x with retry := goes.2 }) e := ⟨_, rfl⟩
  have counted : Spared p e y := hy ▸ Spared.modPort e (by exact fun _ => rfl)
  have port : y.port p = { e.port p with power := { (e.port p).power with retry := goes.2 } } := by
    rw [hy, port_modPower, if_pos rfl]
  have ports : ∀ q, q ≠ p → y.port q = e.port q := fun q hq => by rw [hy, port_modPower, if_neg hq]
  have budget : y.budget = e.budget := by rw [hy]; rfl
  have waits : y.budget.waitList = [] := budget ▸ hb
  have quiet : (y.port p).probe = none := by rw [port]; exact hr
  have unswept : (y.port p).sweep = none := by rw [port]; exact hw
  have removed := removed_lensSevered waits quiet unswept goes.1
  rw [applyAction_powered ha hp hg, ← hy, removePower_fault waits (by rw [port]; exact hs) quiet unswept]
  generalize takeStage (lensSevered p goes.1 y) = x at removed
  have power : (x.port p).power = { ({ (e.port p).power with retry := goes.2 } : PortPower).cut with state := goes.1 } := by
    rw [removed.power, port]
  split
  · next waitsOn =>
    exact {
      power := by rw [port_modPower, if_pos rfl, if_pos waitsOn, power]
      spared := counted.trans (removed.spared.trans (Spared.modPort x (by exact fun _ => rfl)))
      link := by rw [port_modPower, if_pos rfl]; exact removed.link
      lens := by rw [port_modPower, if_pos rfl]; exact removed.lens
      faults := by rw [port_modPower, if_pos rfl]; exact removed.faults.trans (by rw [port])
      others := fun q hq => by rw [port_modPower, if_neg hq, removed.others q hq, ports q hq]
      inrush := removed.inrush.trans (by rw [budget]) }
  · next ends =>
    exact {
      power := by rw [if_neg ends, power]; rfl
      spared := counted.trans removed.spared
      link := removed.link
      lens := removed.lens
      faults := removed.faults.trans (by rw [port])
      others := fun q hq => by rw [removed.others q hq, ports q hq]
      inrush := removed.inrush.trans (by rw [budget]) }

theorem exec_faultActionApplied_powered {p : Port} {k : FaultKind} {a : Action} {on : Bool} {rest : List SentAction} {s u : State}
    (h : live s = true) (hs : s.faults.sent = { port := p, kind := k, action := a, autoProbe := on } :: rest)
    (hu : u = { s with faults := { s.faults with sent := rest } }) (hk : on = false ∨ s.cell.sheet = none ∨ k.probes = false)
    (hp : (s.ports.get p).probe = none) (ha : a ≠ .nothing) {w : PortPower} (hw : w = (s.ports.get p).power)
    (hn : w.state.powered = true) (hb : s.budget.waitList = []) (hsnap : (s.ports.get p).snap = none)
    (hsweep : (s.ports.get p).sweep = none) {goes : PowerState × Nat} (hg : goes = actionGoes a w.state w.retry) :
    ∃ t, exec .faultActionApplied s = .next t ∧ (t.ports.get p).power.state = goes.1 ∧ (t.ports.get p).power.retry = goes.2 ∧
      (goes.1 = .retryWait → (t.ports.get p).power.retryAt = some (s.clock + 1000000)) ∧ (t.ports.get p).power.base = 0 ∧
      (t.ports.get p).power.motion = 0 ∧ (t.ports.get p).power.rating = none ∧ (t.ports.get p).link.state = .dark ∧
      (t.ports.get p).lens.state = .unknown ∧ (t.ports.get p).faults = (s.ports.get p).faults ∧
      t.faults = u.faults ∧ t.budget.inrush = s.budget.inrush.filter (· != p) ∧
      ∀ q, q ≠ p → (t.ports.get q).power = (s.ports.get q).power := by
  have port : ∀ q, (Event.of u).port q = s.ports.get q := fun q => by rw [hu]; rfl
  have acted : ActedOn p goes (Event.of u) (applyAction p a (Event.of u)) := actedOn_applyAction ha
    (by rw [port, ← hw]; exact hn) (by rw [port, ← hw]; exact hg) (by rw [hu]; exact hb)
    (by rw [port]; exact hsnap) (by rw [port]; exact hp) (by rw [port]; exact hsweep)
  have quiet : ((applyAction p a (Event.of u)).port p).probe = none := by rw [acted.spared.probe, port, hp]
  have applied := exec_faultActionApplied_alone h hs hu hk quiet
  generalize applyAction p a (Event.of u) = x at acted quiet applied
  have told : ∀ t ∈ x.agenda, t = .gap p := fun t ht => (acted.spared.tells t ht).resolve_left (by simp)
  have shown := bare_finish_of_drain (drain_gaps (by rw [acted.lens]; decide) quiet told agendaBound)
  change _ = x.bare at shown
  generalize (finish x).toState = t at applied shown
  obtain ⟨c, mine⟩ := port_of_bare shown p
  have power : (t.ports.get p).power = { ({ w with retry := goes.2 } : PortPower).cut with
      state := goes.1, retryAt := if goes.1 = .retryWait then some (s.clock + 1000000) else w.retryAt } := by
    rw [mine]
    refine acted.power.trans ?_
    rw [port, ← hw, hu]
    rfl
  refine ⟨t, applied, ?_⟩
  rw [power]
  refine ⟨rfl, rfl, fun waits => if_pos waits, rfl, rfl, rfl, ?_, ?_, ?_, ?_, ?_, fun q hq => ?_⟩
  · rw [mine]; exact acted.link
  · rw [mine]; exact acted.lens
  · rw [mine]; exact acted.faults.trans (by rw [port])
  · exact (congrArg State.faults shown :).trans acted.spared.faults
  · rw [budget_of_bare shown]
    exact acted.inrush.trans (by rw [hu]; rfl)
  · obtain ⟨c, his⟩ := port_of_bare shown q
    rw [his]
    exact (acted.others q hq).trans (by rw [port])

end Sys2Proof.Machine

namespace Sys2Proof.Machine

/-! ## Auto-probe (R23, R53, R171) -/

theorem holdsProbe_iff {xs : List QEntry} : holdsProbe xs = true ↔ .probe ∈ xs := by simp [holdsProbe]

section
variable {p : Port} {k : FaultKind} {e : Event}

/-- The cool-down runs, or the queue holds an internal probe already. -/
theorem considerProbe_held {on : Bool} (h : (e.port p).faults.cooldownAt ≠ none ∨ .probe ∈ (e.port p).queue) :
    considerProbe p k on e = e := by
  have held : ((e.port p).faults.cooldownAt.isSome || holdsProbe (e.port p).queue) = true := by
    rw [Bool.or_eq_true, Option.isSome_iff_ne_none, holdsProbe_iff]
    exact h
  unfold considerProbe
  dsimp only
  rw [held, if_pos rfl]
  exact ite_self e

/-- Auto-probe is considered and no internal probe is held: one is appended, or dropped and counted. -/
theorem considerProbe_free (hk : k.probes = true) (hs : e.cell.sheet ≠ none) (hc : (e.port p).faults.cooldownAt = none)
    (hq : .probe ∉ (e.port p).queue) : considerProbe p k true e = if (e.port p).queue.length < 8 then appendProbe p e
      else writeHeader { e with faults := { e.faults with dropped := e.faults.dropped + 1 } } := by
  have considered : (k.probes && true && e.cell.sheet.isSome) = true := by
    rw [hk, Option.isSome_iff_ne_none.mpr hs]
    rfl
  have free : ¬ ((e.port p).faults.cooldownAt.isSome || holdsProbe (e.port p).queue) = true := by
    rw [Bool.or_eq_true, Option.isSome_iff_ne_none, holdsProbe_iff]
    exact fun h => h.elim (fun h => h hc) hq
  unfold considerProbe
  dsimp only
  rw [if_pos considered, if_neg free]

theorem appendProbe_behind (h : (e.port p).queue ≠ []) :
    appendProbe p e = modPort p (fun q => { q with queue := q.queue ++ [.probe] }) e :=
  if_neg (by simpa using h)

theorem appendProbe_head (h : (e.port p).queue = []) :
    appendProbe p e = tell (.begin p) (touch p (modPort p (fun q => { q with queue := q.queue ++ [.probe] }) e)) :=
  if_pos (by simp [h])

end

/-! ### An internal probe that has begun -/

/-- An internal probe runs at the head of port p's queue, and what is left to be told concerns it or finds nothing to do. -/
structure AutoProbing (p : Port) (slots : Vector Slot 32) (faults : FaultUnit) (e : Event) : Prop where
  queue : (e.port p).queue = [.probe]
  probe : ∃ r, (e.port p).probe = some r ∧ r.job = .auto ∧ r.trace = .unasked
  tells : ∀ t ∈ e.agenda, t = .lens p ∨ t = .probe p
  slots : e.slots = slots
  faults : e.faults = faults

section
variable {p : Port} {slots : Vector Slot 32} {faults : FaultUnit} {e : Event}

theorem AutoProbing.agenda (h : AutoProbing p slots faults e) {ts : List Task} (ht : ∀ t ∈ ts, t = .lens p ∨ t = .probe p) :
    AutoProbing p slots faults { e with agenda := ts } := ⟨h.queue, h.probe, ht, h.slots, h.faults⟩

theorem AutoProbing.tell (h : AutoProbing p slots faults e) : AutoProbing p slots faults (Machine.tell (.probe p) e) :=
  h.agenda fun t ht => (List.mem_append.mp ht).elim (h.tells t) fun h1 => .inr (List.mem_singleton.mp h1)

/-- A change of the port that leaves its queue, and its probe's job and trace. -/
theorem AutoProbing.modPort (h : AutoProbing p slots faults e) {f : PortState → PortState} (hq : ∀ q, (f q).queue = q.queue)
    (hp : ∀ q r, q.probe = some r → ∃ r', (f q).probe = some r' ∧ r'.job = r.job ∧ r'.trace = r.trace) :
    AutoProbing p slots faults (Machine.modPort p f e) := by
  have port : (Machine.modPort p f e).port p = f (e.port p) := by rw [port_modPort, if_pos rfl]
  obtain ⟨r, hr, job, trace⟩ := h.probe
  obtain ⟨r', hr', job', trace'⟩ := hp _ r hr
  exact ⟨by rw [port, hq]; exact h.queue, ⟨r', by rw [port]; exact hr', job'.trans job, trace'.trans trace⟩, h.tells, h.slots, h.faults⟩

theorem AutoProbing.modProbe (h : AutoProbing p slots faults e) {f : ProbeRun → ProbeRun}
    (hf : ∀ r, (f r).job = r.job ∧ (f r).trace = r.trace) : AutoProbing p slots faults (Machine.modProbe p f e) :=
  h.modPort (by exact fun _ => rfl) fun q r hr => ⟨f r, by dsimp only; rw [hr]; rfl, hf r⟩

theorem AutoProbing.modLink (h : AutoProbing p slots faults e) (f : PortLink → PortLink) :
    AutoProbing p slots faults (Machine.modLink p f e) :=
  h.modPort (by exact fun _ => rfl) fun _ r hr => ⟨r, hr, rfl, rfl⟩

theorem AutoProbing.emptyHistories (h : AutoProbing p slots faults e) : AutoProbing p slots faults (Machine.emptyHistories p e) :=
  h.modPort (by exact fun _ => rfl) fun _ r hr => ⟨r, hr, rfl, rfl⟩

theorem AutoProbing.touch (h : AutoProbing p slots faults e) (q : Port) : AutoProbing p slots faults (Machine.touch q e) := by
  unfold Machine.touch
  split
  · exact h
  · exact ⟨h.queue, h.probe, h.tells, h.slots, h.faults⟩

theorem AutoProbing.setLink (h : AutoProbing p slots faults e) (st : LinkState) :
    AutoProbing p slots faults (Machine.setLink p st e) := by
  unfold Machine.setLink
  split
  · exact h
  · have linked := (h.modLink fun l => { l with state := st }).touch p
    unfold tellProbe
    split
    · exact linked.tell
    · exact linked

theorem AutoProbing.reclass (h : AutoProbing p slots faults e) : AutoProbing p slots faults (Machine.reclass p e) :=
  (h.modProbe (by exact fun _ => ⟨rfl, rfl⟩)).tell

theorem AutoProbing.toClaiming (h : AutoProbing p slots faults e) (path : ProbePath) :
    AutoProbing p slots faults (Machine.toClaiming p path e) :=
  (h.modProbe (by exact fun _ => ⟨rfl, rfl⟩)).tell

theorem AutoProbing.requestHush (h : AutoProbing p slots faults e) : AutoProbing p slots faults (Machine.requestHush p e) := by
  unfold Machine.requestHush
  split
  · exact (((h.modProbe (by exact fun _ => ⟨rfl, rfl⟩)).modLink _).emptyHistories).setLink .hushing
  · exact h.reclass

theorem AutoProbing.drainTest (h : AutoProbing p slots faults e) : AutoProbing p slots faults (Machine.drainTest p e) := by
  unfold Machine.drainTest
  split
  · exact h.requestHush
  · exact h

theorem AutoProbing.classPort (h : AutoProbing p slots faults e) : AutoProbing p slots faults (Machine.classPort p e) := by
  unfold Machine.classPort
  dsimp only
  split
  · exact (h.modProbe (by exact fun _ => ⟨rfl, rfl⟩)).drainTest
  · exact h.toClaiming .dark
  · exact h.toClaiming .dark
  · exact h.toClaiming .dark
  · exact h.toClaiming .dark
  · exact h

theorem AutoProbing.advanceProbe (h : AutoProbing p slots faults e) : AutoProbing p slots faults (Machine.advanceProbe p e) := by
  obtain ⟨r, hr, job, trace⟩ := h.probe
  have unstopped : probeStopped r.job e = false := by rw [job]; rfl
  unfold Machine.advanceProbe
  rw [hr]
  dsimp only
  cases hf : r.phase with
  | classing => exact h.classPort
  | draining | pulsing | ending => exact h
  | hushing =>
    dsimp only
    rw [unstopped, if_neg Bool.false_ne_true]
    split
    · exact h.toClaiming .hushed
    · exact h
  | claiming =>
    have unasked : r.job.asksTrace = false := by rw [job]; rfl
    dsimp only
    unfold claimPhase
    rw [trace]
    dsimp only
    rw [unasked, unstopped, if_neg Bool.false_ne_true, if_neg Bool.false_ne_true]
    exact h.modProbe (by exact fun _ => ⟨rfl, rfl⟩)

/-- No lens moves while a probe runs (R140). -/
theorem lensTest_probing (h : AutoProbing p slots faults e) : lensTest p e = e := by
  obtain ⟨r, hr, -⟩ := h.probe
  exact if_neg fun hx => by simp [probeRuns, hr] at hx

theorem AutoProbing.perform (h : AutoProbing p slots faults e) {t : Task} (ht : t = .lens p ∨ t = .probe p) :
    AutoProbing p slots faults (Machine.perform t e) := by
  obtain rfl | rfl := ht
  · change AutoProbing p slots faults (lensTest p e)
    rw [lensTest_probing h]
    exact h
  · exact h.advanceProbe

theorem AutoProbing.drain (h : AutoProbing p slots faults e) (n : Nat) : AutoProbing p slots faults (Machine.drain n e) := by
  induction n generalizing e with
  | zero => exact h.agenda (by simp)
  | succ n ih =>
    cases ha : e.agenda with
    | nil =>
      rw [drain_empty ha]
      exact h.agenda (by simp)
    | cons t ts =>
      have told := ha ▸ h.tells
      have rest : AutoProbing p slots faults { e with agenda := ts } := h.agenda fun t ht => told t (List.mem_cons_of_mem _ ht)
      unfold Machine.drain
      rw [ha]
      exact ih (rest.perform (told t List.mem_cons_self))

end

end Sys2Proof.Machine

namespace Sys2Proof.Machine

/-! ### Where an internal probe begins (R52, R153) -/

/-- As a probe begins, a claim of the lens is withdrawn and the lens told (R141). -/
theorem lensProbeBegins_eq (p : Port) (e : Event) : ∃ lens budget touched agenda, lensProbeBegins p e =
    { modLens p (fun _ => lens) e with budget := budget, touched := touched, agenda := agenda } ∧
    ∀ t ∈ agenda, t ∈ e.agenda ∨ t = .lens p := by
  unfold lensProbeBegins
  split
  · next waits =>
    have stages : unclaim p e = tell (.lens p) (touch p (modLens p (fun l => { l with state := .staged }) (withdraw p .lensMotion e))) :=
      congrArg (tell (.lens p)) (if_neg (by
        change ¬ (e.port p).lens.state = .staged
        rw [waits]
        decide))
    have record : modLens p (fun l => { l with state := .staged }) e =
        modLens p (fun _ => { (e.port p).lens with state := .staged }) e := by
      unfold modLens modPort
      rw [modAt_eq_putAt, modAt_eq_putAt]
      rfl
    rw [stages]
    obtain ⟨touched, ht⟩ : ∃ touched, touch p (modLens p (fun l => { l with state := .staged }) (withdraw p .lensMotion e)) =
        { modLens p (fun l => { l with state := .staged }) (withdraw p .lensMotion e) with touched := touched } := by
      unfold touch
      split
      · exact ⟨_, rfl⟩
      · exact ⟨_, rfl⟩
    refine ⟨{ (e.port p).lens with state := .staged }, (withdraw p .lensMotion e).budget, touched, e.agenda ++ [.lens p], ?_,
      fun t ht => by simpa using ht⟩
    rw [ht, ← record]
    rfl
  · refine ⟨(e.port p).lens, e.budget, e.touched, e.agenda, ?_, fun t ht => .inl ht⟩
    have kept : modLens p (fun _ => (e.port p).lens) e = e := modPort_self rfl
    rw [kept]

/-- An internal probe at the head begins. -/
theorem autoProbing_beginHead {p : Port} {c : CellSheet} {e : Event} (hq : (e.port p).queue = [.probe]) (hp : (e.port p).probe = none)
    (hl : loadRuns p e.toState = false) (hs : e.cell.standing = true) (hc : e.cell.sheet = some c)
    (ha : ∀ t ∈ e.agenda, t = .lens p ∨ t = .probe p) : AutoProbing p e.slots e.faults (beginHead p e) := by
  have begins : beginHead p e = beginProbe p .auto false false e := by
    unfold beginHead
    rw [hq]
    exact if_neg (by simp [probeRuns, hp, hl])
  obtain ⟨lens, budget, touched, agenda, eq, tells⟩ := lensProbeBegins_eq p e
  have probed : beginProbe p .auto false false e = tell (.probe p) (modPort p
      (fun q => { q with probe := some (newProbe p .auto c (lensProbeBegins p e)) }) (lensProbeBegins p e)) := by
    have standing : (lensProbeBegins p e).cell.standing = true := by rw [eq]; exact hs
    have sheet : (lensProbeBegins p e).cell.sheet = some c := by rw [eq]; exact hc
    unfold beginProbe
    simp only [probeRefusal, standing, sheet, Bool.not_true, Bool.false_eq_true, if_false]
  have job : (newProbe p .auto c (lensProbeBegins p e)).job = .auto := rfl
  have trace : (newProbe p .auto c (lensProbeBegins p e)).trace = .unasked := rfl
  rw [begins, probed]
  generalize newProbe p .auto c (lensProbeBegins p e) = r at job trace
  rw [eq]
  refine AutoProbing.tell ⟨?_, ⟨r, ?_, job, trace⟩, fun t ht => (tells t ht).elim (ha t) .inl, rfl, rfl⟩
  · rw [port_modPort, if_pos rfl]
    change ((modLens p (fun _ => lens) e).port p).queue = _
    rw [modLens, port_modPort, if_pos rfl, ← hq]
  · rw [port_modPort, if_pos rfl]

/-- The state an event leaves in which an internal probe has begun. -/
theorem autoProbing_finished {p : Port} {slots : Vector Slot 32} {faults : FaultUnit} {e x : Event} {n : Nat}
    (he : drain agendaBound e = drain n x) (h : AutoProbing p slots faults x) : ∃ r,
    ((finish e).ports.get p).probe = some r ∧ r.job = .auto ∧ ((finish e).ports.get p).queue = [.probe] ∧
    (finish e).slots = slots ∧ (finish e).faults = faults := by
  have drained := h.drain n
  have shown := bare_finish_of_drain he
  generalize drain n x = y at drained shown
  obtain ⟨r, hr, job, -⟩ := drained.probe
  obtain ⟨c, port⟩ := port_of_bare shown p
  refine ⟨r, ?_, job, ?_, (slots_of_bare shown).trans drained.slots, (congrArg State.faults shown :).trans drained.faults⟩
  · rw [port]; exact hr
  · rw [port]; exact drained.queue

theorem writeHeader_eq (e : Event) : ∃ page traffic, writeHeader e = { e with page := page, traffic := traffic } := by
  by_cases h : e.page.taken = .held
  · exact ⟨_, _, writeHeader_held h⟩
  · exact ⟨_, _, writeHeader_absent h⟩

/-! ### The event in which auto-probe is considered (R171) -/

/-- The action NONE leaves the port, and auto-probe is considered. -/
theorem exec_faultActionApplied_nothing {p : Port} {k : FaultKind} {on : Bool} {rest : List SentAction} {s u : State}
    (h : live s = true) (hs : s.faults.sent = { port := p, kind := k, action := .nothing, autoProbe := on } :: rest)
    (hu : u = { s with faults := { s.faults with sent := rest } }) : exec .faultActionApplied s = .next (finish
      (endFailedHush { port := p, kind := k, action := .nothing, autoProbe := on } rest
        (considerProbe p k on (Event.of u)))).toState := exec_faultActionApplied h hs hu

section
variable {p : Port} {k : FaultKind} {rest : List SentAction} {c : CellSheet} {s u : State} (h : live s = true)
  (hs : s.faults.sent = { port := p, kind := k, action := .nothing, autoProbe := true } :: rest) (hc : s.cell.sheet = some c)
  (hk : k = .flicker ∨ k = .linkLost ∨ k = .noCamera) (hu : u = { s with faults := { s.faults with sent := rest } })
  (hr : ∀ r, (s.ports.get p).probe = some r → r.phase ≠ .ending)
include h hs hu hr

theorem exec_faultActionApplied_held (held : (s.ports.get p).faults.cooldownAt ≠ none ∨ QEntry.probe ∈ (s.ports.get p).queue) :
    exec .faultActionApplied s = .next u := by
  have port : (Event.of u).port p = s.ports.get p := by rw [hu]; rfl
  rw [exec_faultActionApplied_nothing h hs hu, considerProbe_held (by rw [port]; exact held),
    endFailedHush_none (by dsimp only; rw [port]; exact hr), finish_of]

include hc hk

omit h hs hr in
/-- What auto-probe makes of the event when none is held. -/
theorem considerProbe_of (hcool : (s.ports.get p).faults.cooldownAt = none) (hq : QEntry.probe ∉ (s.ports.get p).queue) :
    considerProbe p k true (Event.of u) = if (s.ports.get p).queue.length < 8 then appendProbe p (Event.of u)
      else writeHeader (Event.of { u with faults := { u.faults with dropped := s.faults.dropped + 1 } }) := by
  have probes : k.probes = true := by obtain rfl | rfl | rfl := hk <;> rfl
  subst hu
  exact considerProbe_free probes (Option.ne_none_iff_exists'.mpr ⟨c, hc⟩) hcool hq

theorem exec_faultActionApplied_dropped (hcool : (s.ports.get p).faults.cooldownAt = none)
    (hq : QEntry.probe ∉ (s.ports.get p).queue) (hlen : 8 ≤ (s.ports.get p).queue.length) : exec .faultActionApplied s =
      .next (State.headerShown 0 { u with faults := { u.faults with dropped := s.faults.dropped + 1 } }) := by
  have port : ∀ x : State, (writeHeader (Event.of x)).port p = x.ports.get p := fun x => by
    obtain ⟨page, traffic, eq⟩ := writeHeader_eq (Event.of x)
    rw [eq]
    rfl
  rw [exec_faultActionApplied_nothing h hs hu, considerProbe_of hc hk hu hcool hq, if_neg (Nat.not_lt.mpr hlen),
    endFailedHush_none (by dsimp only; rw [port, hu]; exact hr)]
  rw [← attend_zero (writeHeader _), ← of_headerShown, finish_of]

theorem exec_faultActionApplied_appended (hcool : (s.ports.get p).faults.cooldownAt = none)
    (hq : QEntry.probe ∉ (s.ports.get p).queue) (hlen : (s.ports.get p).queue.length < 8) (hne : (s.ports.get p).queue ≠ []) :
    exec .faultActionApplied s = .next { u with ports := modAt s.ports p fun q => { q with queue := q.queue ++ [.probe] } } := by
  have port : (Event.of u).port p = s.ports.get p := by rw [hu]; rfl
  have appended : modPort p (fun q => { q with queue := q.queue ++ [.probe] }) (Event.of u) =
      Event.of { u with ports := modAt s.ports p fun q => { q with queue := q.queue ++ [.probe] } } := by rw [hu]; rfl
  rw [exec_faultActionApplied_nothing h hs hu, considerProbe_of hc hk hu hcool hq, if_pos hlen,
    appendProbe_behind (by rw [port]; exact hne), endFailedHush_none ?_, appended, finish_of]
  intro r probe
  dsimp only at probe
  rw [port_modPort, if_pos rfl, port] at probe
  exact hr r probe

omit hr in
theorem exec_faultActionApplied_begins (hcool : (s.ports.get p).faults.cooldownAt = none)
    (hq : (s.ports.get p).queue = []) (hp : (s.ports.get p).probe = none) (hst : s.cell.standing = true) (hl : loadRuns p s = false) :
    ∃ t r, exec .faultActionApplied s = .next t ∧ (t.ports.get p).probe = some r ∧ r.job = .auto ∧
      (t.ports.get p).queue = [.probe] := by
  have quiet : ∀ r, (s.ports.get p).probe = some r → r.phase ≠ .ending := fun r hr => by rw [hp] at hr; cases hr
  have port : (Event.of u).port p = s.ports.get p := by rw [hu]; rfl
  have applied := exec_faultActionApplied_nothing h hs hu
  rw [considerProbe_of hc hk hu hcool (by rw [hq]; simp), if_pos (by rw [hq]; simp),
    appendProbe_head (by rw [port]; exact hq)] at applied
  obtain ⟨x, hx⟩ : ∃ x, x = touch p (modPort p (fun q => { q with queue := q.queue ++ [.probe] }) (Event.of u)) := ⟨_, rfl⟩
  have xport : x.port p = { s.ports.get p with queue := [.probe] } := by
    rw [hx, port_touch, port_modPort, if_pos rfl, port, hq]
    rfl
  have untold : x.agenda = [] := by rw [hx]; simp
  rw [← hx, endFailedHush_none (by dsimp only; rw [port_tell, xport]; exact quiet)] at applied
  have cell : x.cell = s.cell := by rw [hx, hu]; unfold touch; split <;> rfl
  have slots : x.slots = s.slots := by rw [hx, hu]; unfold touch; split <;> rfl
  have probing := autoProbing_beginHead (p := p) (c := c) (e := x) (by rw [xport]) (by rw [xport]; exact hp)
    (by unfold loadRuns; rw [slots]; exact hl) (by rw [cell]; exact hst) (by rw [cell]; exact hc) (by simp [untold])
  clear hx
  have drained : drain agendaBound (tell (.begin p) x) = drain 9999 (beginHead p x) := by
    have told : tell (.begin p) x = { x with agenda := [.begin p] } := by rw [tell, untold]; rfl
    have same : { x with agenda := [] } = x := by rw [← untold]
    change drain (9999 + 1) _ = _
    rw [told]
    unfold drain
    dsimp only
    rw [same]
    rfl
  obtain ⟨r, hr, job, queue, -, -⟩ := autoProbing_finished drained probing
  exact ⟨_, r, applied, hr, job, queue⟩

end

end Sys2Proof.Machine

namespace Sys2Proof.Machine

/-! ## The probe whose hush failed ends (R52, R157, R171; log 54) -/

/-- An order ends at the head of its queue: its slot is final, the entry leaves, and the next is told to begin (R40, R52). -/
theorem endOrder_eq (p : Port) (n : SlotNo) (st : SlotState) (why : Reason) (results : List Byte) (e : Event) :
    ∃ slots page traffic touched, endOrder p n st why results e = { modPort p (fun q => { q with queue := q.queue.tail }) e with
        slots := slots, page := page, traffic := traffic, touched := touched, agenda := e.agenda ++ [.begin p] } ∧
      (slots.get n).state = st ∧ (slots.get n).reason = why ∧ ∀ k, k ≠ n → slots.get k = e.slots.get k := by
  obtain ⟨slots, page, traffic, eq⟩ := finishSlot_eq n st why 0 results e
  obtain ⟨c, mine⟩ := get_finishSlot_self n st why 0 results e
  have others : ∀ k, k ≠ n → (finishSlot n st why 0 results e).slots.get k = e.slots.get k :=
    fun k hk => get_finishSlot_ne hk st why 0 results e
  rw [eq] at mine others
  obtain ⟨touched, ht⟩ : ∃ touched, touch p (modPort p (fun q => { q with queue := q.queue.tail })
      { e with slots := slots, page := page, traffic := traffic }) = { modPort p (fun q => { q with queue := q.queue.tail })
      { e with slots := slots, page := page, traffic := traffic } with touched := touched } := by
    unfold touch
    split
    · exact ⟨_, rfl⟩
    · exact ⟨_, rfl⟩
  refine ⟨slots, page, traffic, touched, ?_, by rw [mine], by rw [mine], others⟩
  rw [endOrder, removeHead, eq, ht]
  rfl

theorem pathField_eq (path : Option ProbePath) (e : Event) : ∃ free, (pathField path e).2 = { e with free := free } := by
  cases path with
  | none => exact ⟨_, rfl⟩
  | some x => exact ⟨_, rfl⟩

/-- A probe ends that has no trace and whose link is not HUSH. -/
theorem abortProbe_order {p : Port} {r : ProbeRun} {n : SlotNo} {asked : Bool} {e : Event} (hr : (e.port p).probe = some r)
    (hj : r.job = .order n asked) (ht : r.trace = .unasked) (hl : (e.port p).link.state ≠ .hush) (st : SlotState) (why : Reason) :
    ∃ slots page traffic touched pool free, abortProbe p st why e =
      { modPort p (fun q => { q with probe := none, queue := q.queue.tail }) e with
        slots := slots, page := page, traffic := traffic, touched := touched, pool := pool, free := free
        agenda := e.agenda ++ [.owed p, .lens p, .begin p] } ∧
      (slots.get n).state = st ∧ (slots.get n).reason = why ∧ ∀ k, k ≠ n → slots.get k = e.slots.get k := by
  have unresumed : resume p e = e := if_neg hl
  have untraced : deliverTrace r.trace false e = e := by rw [ht]; rfl
  obtain ⟨x, hx⟩ : ∃ x : Event, x = { e with pool := { e.pool with claims := e.pool.claims.map fun c =>
      if c.port == p && c.requester == .trace then { c with status := .dropped } else c } } := ⟨_, rfl⟩
  obtain ⟨free, hf⟩ := pathField_eq r.path x
  have ends : abortProbe p st why e = endOrder p n st why (earlyResults r.job r.trace (pathField r.path x).1)
      (tell (.lens p) (tell (.owed p) (modPort p (fun q => { q with probe := none }) { x with free := free }))) := by
    unfold abortProbe
    rw [hr]
    dsimp only
    rw [unresumed, untraced, ← hx, hf, reportEnd.eq_def, hj]
  obtain ⟨slots, page, traffic, touched, eq, state, reason, others⟩ := endOrder_eq p n st why
    (earlyResults r.job r.trace (pathField r.path x).1)
    (tell (.lens p) (tell (.owed p) (modPort p (fun q => { q with probe := none }) { x with free := free })))
  refine ⟨slots, page, traffic, touched, x.pool, free, ?_, state, reason, fun k hk => (others k hk).trans (by rw [hx]; rfl)⟩
  rw [ends, eq, hx]
  simp [tell, modPort, modAt_modAt]

theorem endFailedHush_ends {p : Port} {on : Bool} {r : ProbeRun} {e : Event} (hr : (e.port p).probe = some r) (hf : r.phase = .ending) :
    endFailedHush { port := p, kind := .linkLost, action := .nothing, autoProbe := on } [] e = abortProbe p .aborted .linkLost e :=
  if_pos ⟨by simp [hr, hf], rfl, rfl⟩

/-- The state in which what stood behind the ended probe may begin. -/
structure HushEnded (s : State) (p : Port) (n : SlotNo) (queue : List QEntry) (z : Event) : Prop where
  port : z.port p = { s.ports.get p with probe := none, queue := queue }
  aborted : (z.slots.get n).state = .aborted
  reason : (z.slots.get n).reason = .linkLost
  others : ∀ k, k ≠ n → z.slots.get k = s.slots.get k
  cell : z.cell = s.cell
  budget : z.budget = s.budget
  untold : z.agenda = []

section
variable {p : Port} {r : ProbeRun} {n : SlotNo} {queue : List QEntry} {s : State} {x : Event}

/-- The probe's end, and what the block that follows it is told: nothing is owed, and no lens is STAGED. -/
theorem hushEnded (hr : (s.ports.get p).probe = some r) (hj : r.job = .order n false) (ht : r.trace = .unasked)
    (hl : (s.ports.get p).link.state ≠ .hush) (ho : (s.ports.get p).power.owed = false) (hlens : (s.ports.get p).lens.state ≠ .staged)
    (hport : x.port p = { s.ports.get p with queue := .order n :: queue }) (hslots : x.slots = s.slots) (hcell : x.cell = s.cell)
    (hbudget : x.budget = s.budget) (ha : x.agenda = []) : ∃ z, HushEnded s p n queue z ∧ z.faults = x.faults ∧
    drain agendaBound (abortProbe p .aborted .linkLost x) = drain 9997 (beginHead p z) := by
  obtain ⟨slots, page, traffic, touched, pool, free, eq, state, reason, others⟩ :=
    abortProbe_order (e := x) (by rw [hport]; exact hr) hj ht (by rw [hport]; exact hl) .aborted .linkLost
  obtain ⟨z, hz⟩ : ∃ z : Event, z = { modPort p (fun q => { q with probe := none, queue := q.queue.tail }) x with
      slots := slots, page := page, traffic := traffic, touched := touched, pool := pool, free := free, agenda := [] } := ⟨_, rfl⟩
  have port : z.port p = { s.ports.get p with probe := none, queue := queue } := by
    rw [hz]
    change (modPort p (fun q => { q with probe := none, queue := q.queue.tail }) x).port p = _
    rw [port_modPort, if_pos rfl, hport]
    rfl
  have ended : abortProbe p .aborted .linkLost x = { z with agenda := [.owed p, .lens p, .begin p] } := by
    rw [eq, hz, ha]
    rfl
  have owed : perform (.owed p) { z with agenda := [.lens p, .begin p] } = { z with agenda := [.lens p, .begin p] } :=
    perform_owed_idle (by change (z.port p).power.owed = false; rw [port]; exact ho)
  have lens : perform (.lens p) { z with agenda := [.begin p] } = { z with agenda := [.begin p] } :=
    perform_lens_idle (by change (z.port p).lens.state ≠ .staged; rw [port]; exact hlens)
  have untold : { z with agenda := [] } = z := by rw [hz]
  refine ⟨z, ⟨port, by rw [hz]; exact state, by rw [hz]; exact reason, fun k hk => ?_, by rw [hz]; exact hcell, by rw [hz]; exact hbudget,
    by rw [hz]⟩, by rw [hz]; rfl, ?_⟩
  · rw [hz]
    exact (others k hk).trans (by rw [hslots])
  · clear hz
    rw [ended]
    change drain (9997 + 1 + 1 + 1) _ = _
    rw [drain]
    dsimp only
    rw [owed, drain]
    dsimp only
    rw [lens, drain]
    dsimp only
    rw [untold]
    rfl

end

end Sys2Proof.Machine

namespace Sys2Proof.Machine

/-! ### A CYCLE that begins (R57) -/

/-- What a CYCLE's beginning leaves of its port and of the rest. -/
structure CycleBegun (p : Port) (e y : Event) : Prop where
  slots : y.slots = e.slots
  faults : y.faults = e.faults
  queue : (y.port p).queue = (e.port p).queue
  probe : (y.port p).probe = none
  lens : (y.port p).lens.state ≠ .staged
  tells : ∀ t ∈ y.agenda, t ∈ e.agenda ∨ t = .gap p

theorem cycleBegun_beginCycle {p : Port} {e : Event} (hb : e.budget.waitList = []) (hp : (e.port p).probe = none)
    (hw : (e.port p).sweep = none) (hl : (e.port p).lens.state ≠ .staged) (n : SlotNo) : CycleBegun p e (beginCycle p n e) := by
  obtain ⟨x, hx⟩ : ∃ x, x = modPort p (fun q => { q with
      cycle := some { slot := n, found := (e.port p).power.state, holdEnd := e.clock + Config.cycleHold } }) e := ⟨_, rfl⟩
  have port : x.port p = { e.port p with
      cycle := some { slot := n, found := (e.port p).power.state, holdEnd := e.clock + Config.cycleHold } } := by
    rw [hx, port_modPort, if_pos rfl]
  have quiet : (x.port p).probe = none := by rw [port]; exact hp
  have waits : x.budget.waitList = [] := by rw [hx]; exact hb
  have standing : CycleBegun p e x := {
    slots := by rw [hx]; rfl
    faults := by rw [hx]; rfl
    queue := by rw [port]
    probe := quiet
    lens := by rw [port]; exact hl
    tells := fun t ht => .inl (by rw [hx] at ht; exact ht) }
  have moved (f : PortPower → PortPower) : CycleBegun p e (setPower p .off (modPower p f x)) := by
    have quiet' : ((modPower p f x).port p).probe = none := by rw [port_modPower, if_pos rfl]; exact quiet
    have spared := (Spared.modPort (p := p) (q := p) (f := fun q => { q with power := f q.power }) x fun _ => rfl).trans
      (Spared.setPower quiet' .off)
    exact {
      slots := spared.slots.trans standing.slots
      faults := spared.faults.trans standing.faults
      queue := by rw [port_setPower, if_pos rfl, port_modPower, if_pos rfl]; exact standing.queue
      probe := (spared.probe p).trans quiet
      lens := by rw [port_setPower, if_pos rfl, port_modPower, if_pos rfl]; exact standing.lens
      tells := fun t ht => (spared.tells t ht).elim (standing.tells t) .inr }
  have begins : beginCycle p n e = if (e.port p).power.state.powered then removePower p .cycle .off x
      else match (e.port p).power.state with
        | .waiting => setPower p .off (withdraw p .powerUp x)
        | .retryWait => leaveRetry p x
        | _ => x := by rw [hx]; rfl
  rw [begins]
  by_cases powered : (e.port p).power.state.powered = true
  · have removed := removed_lensSevered waits quiet (by rw [port]; exact hw) .off
    rw [if_pos powered, removePower_cycle waits]
    generalize takeStage (lensSevered p .off x) = y at removed
    exact {
      slots := removed.spared.slots.trans standing.slots
      faults := removed.spared.faults.trans standing.faults
      queue := removed.queue.trans standing.queue
      probe := (removed.spared.probe p).trans quiet
      lens := by rw [removed.lens]; decide
      tells := fun t ht => (removed.spared.tells t ht).elim (standing.tells t) .inr }
  · rw [if_neg powered]
    cases hs : (e.port p).power.state with
    | waiting =>
      have kept : modPower p (fun w => w) x = x := modPort_self rfl
      dsimp only
      rw [withdraw_none waits, ← kept]
      exact moved fun w => w
    | retryWait => exact moved _
    | off | held | lockedOut | queued | inrush | settling | on | limit | standby | waking => exact standing

/-! ### The head of a queue (R52) -/

/-- The head of a queue that is an order not QUEUED any more does not begin again. -/
theorem beginHead_stands {p : Port} {m : SlotNo} {rest : List QEntry} {e : Event} (hq : (e.port p).queue = .order m :: rest)
    (hm : (e.slots.get m).state ≠ .queued) : beginHead p e = e := by
  unfold beginHead
  rw [hq]
  dsimp only
  split
  · next queued _ => exact absurd queued hm
  · rfl

theorem beginHead_order {p : Port} {m : SlotNo} {o : Order} {rest : List QEntry} {e : Event} (hq : (e.port p).queue = .order m :: rest)
    (hm : (e.slots.get m).state = .queued) (ho : (e.slots.get m).order = some o) : beginHead p e = beginOrder p m o e := by
  unfold beginHead
  rw [hq]
  dsimp only
  rw [hm, ho]

/-- An order's running, with its port marked: the slot is RUNNING, and nothing else of the ports and slots changes. -/
theorem touch_runSlot_eq (p : Port) (m : SlotNo) (e : Event) : ∃ slots traffic touched, touch p (runSlot m e) =
      { e with slots := slots, traffic := traffic, touched := touched } ∧ ∀ k, k ≠ m → slots.get k = e.slots.get k := by
  obtain ⟨slots, traffic, eq, others⟩ : ∃ slots traffic, runSlot m e = { e with slots := slots, traffic := traffic } ∧
      ∀ k, k ≠ m → slots.get k = e.slots.get k := by
    unfold runSlot
    by_cases h : e.page.taken = .held
    · rw [writeAnswer_held (by exact h)]
      exact ⟨_, _, rfl, fun k hk => by simp [modSlot, get_modAt_ne _ _ _ _ hk]⟩
    · rw [writeAnswer_absent (by exact h)]
      exact ⟨_, e.traffic, rfl, fun k hk => by simp [get_modAt_ne _ _ _ _ hk]⟩
  rw [eq]
  unfold touch
  split
  · exact ⟨slots, traffic, _, rfl, others⟩
  · exact ⟨slots, traffic, _, rfl, others⟩

theorem loadRuns_iff {p : Port} {s : State} : loadRuns p s = true ↔ ∃ k, (s.slots.get k).loads p = true := by
  unfold loadRuns
  rw [List.any_eq_true]
  constructor
  · rintro ⟨x, hx, loads⟩
    obtain ⟨i, hi, rfl⟩ := List.mem_iff_getElem.mp hx
    rw [Vector.length_toList] at hi
    exact ⟨⟨i, hi⟩, by simpa [Vector.get_eq_getElem] using loads⟩
  · rintro ⟨k, loads⟩
    exact ⟨s.slots.get k, by rw [Vector.get_eq_getElem]; simp, loads⟩

/-- A CABLE_LOAD runs for the port as before: slot n held none, and holds none now. -/
theorem HushEnded.loadRuns {s : State} {p : Port} {n : SlotNo} {queue : List QEntry} {z : Event} (h : HushEnded s p n queue z)
    (hn : (s.slots.get n).loads p = false) : loadRuns p z.toState = loadRuns p s := by
  have ended : (z.slots.get n).loads p = false := by simp [Slot.loads, h.aborted]
  have each : ∀ k, (z.slots.get k).loads p = (s.slots.get k).loads p := fun k => by
    by_cases hk : k = n
    · rw [hk, ended, hn]
    · rw [h.others k hk]
  rw [Bool.eq_iff_iff, loadRuns_iff, loadRuns_iff]
  exact exists_congr fun k => by rw [each]

end Sys2Proof.Machine

namespace Sys2Proof.Machine

/-! ### A SNAP that is skipped NOT_READY (R55, R109) -/

theorem firstFailure_notReady {p : Port} {e : Event} (h : (e.port p).link.state = .wake ∨ (e.port p).link.state = .dark) :
    firstFailure p e = some .notReady := by
  unfold firstFailure
  dsimp only
  refine if_pos ?_
  obtain h | h := h <;> simp [h]

theorem tellIfDrained_eq (p : Port) (e : Event) : ∃ agenda, tellIfDrained p e = { e with agenda := agenda } ∧
    ∀ t ∈ agenda, t ∈ e.agenda ∨ t = .gap p := by
  unfold tellIfDrained
  split
  · exact ⟨_, rfl, fun t ht => by simpa using ht⟩
  · exact ⟨_, rfl, fun t ht => .inl ht⟩

/-- A SNAP on a fallen link begins, is skipped NOT_READY and ends ABORTED LINK_LOST. -/
theorem beginSnap_notReady {p : Port} {e : Event} (h : (e.port p).link.state = .wake ∨ (e.port p).link.state = .dark)
    (m : SlotNo) (v : Nat) : ∃ slots page traffic touched agenda, beginSnap p m v e =
      { modPort p (fun q => { q with snap := none, skips := modAt q.skips 0 (· + 1), queue := q.queue.tail }) e with
        slots := slots, page := page, traffic := traffic, touched := touched, agenda := agenda } ∧
      (slots.get m).state = .aborted ∧ (slots.get m).reason = .linkLost ∧ (∀ k, k ≠ m → slots.get k = e.slots.get k) ∧
      ∀ t ∈ agenda, t ∈ e.agenda ∨ t = .begin p ∨ t = .gap p := by
  obtain ⟨x, hx⟩ : ∃ x, x = modPort p (fun q => { q with skips := modAt q.skips 0 (· + 1) })
      (modPort p (fun q => { q with snap := some { slot := m, shot := none, opened := false } }) e) := ⟨_, rfl⟩
  have snap : (x.port p).snap = some { slot := m, shot := none, opened := false } := by
    rw [hx, port_modPort, if_pos rfl, port_modPort, if_pos rfl]
  have failed : firstFailure p (modPort p (fun q => { q with snap := some { slot := m, shot := none, opened := false } }) e) =
      some .notReady := firstFailure_notReady (by rw [port_modPort, if_pos rfl]; exact h)
  have ends : snapSkipped p m .notReady x = endOrder p m .aborted .linkLost (snapResults none none (some .notReady))
      (modPort p (fun q => { q with snap := none }) x) := by
    unfold snapSkipped
    rw [snap]
    dsimp only
    rw [if_pos rfl, skipReason, endSnap, snap]
  have skipped : beginSnap p m v e = tellIfDrained p (snapSkipped p m .notReady x) := by
    unfold beginSnap decideFire
    rw [failed, hx]
    rfl
  obtain ⟨slots, page, traffic, touched, eq, state, reason, others⟩ := endOrder_eq p m .aborted .linkLost
    (snapResults none none (some .notReady)) (modPort p (fun q => { q with snap := none }) x)
  obtain ⟨agenda, told, tells⟩ := tellIfDrained_eq p (snapSkipped p m .notReady x)
  rw [ends, eq] at told tells
  refine ⟨slots, page, traffic, touched, agenda, ?_, state, reason, fun k hk => (others k hk).trans (by rw [hx]; rfl), fun t ht => ?_⟩
  · rw [skipped, ends, eq, told, hx]
    simp [modPort, modAt_modAt]
  · obtain h1 | h1 := tells t ht
    · rw [hx] at h1
      obtain h2 | h2 := List.mem_append.mp h1
      · exact .inl h2
      · exact .inr (.inl (List.mem_singleton.mp h2))
    · exact .inr (.inr h1)

/-! ### The event of the last LINK_LOST of a failed hush (R171; log 54) -/

/-- The LINK_LOST of a failed hush is reported applied: its probe is an order's at the head, without a trace, and nothing else runs. -/
structure FailedHush (p : Port) (on : Bool) (r : ProbeRun) (n : SlotNo) (behind : List QEntry) (s : State) : Prop where
  live : live s = true
  sent : s.faults.sent = [{ port := p, kind := .linkLost, action := .nothing, autoProbe := on }]
  probe : (s.ports.get p).probe = some r
  phase : r.phase = .ending
  job : r.job = .order n false
  trace : r.trace = .unasked
  link : (s.ports.get p).link.state ≠ .hush
  queue : (s.ports.get p).queue = .order n :: behind
  sweep : (s.ports.get p).sweep = none
  owed : (s.ports.get p).power.owed = false
  lens : (s.ports.get p).lens.state ≠ .staged
  loads : (s.slots.get n).loads p = false
  waits : s.budget.waitList = []

/-- The state with the action taken. -/
def State.taken (s : State) : State := { s with faults := { s.faults with sent := [] } }

section
variable {p : Port} {on : Bool} {r : ProbeRun} {n : SlotNo} {behind queue : List QEntry} {s : State}

/-- What is left of the event once auto-probe has been considered. -/
theorem FailedHush.exec (h : FailedHush p on r n behind s) {x : Event} (hx : considerProbe p .linkLost on (Event.of s.taken) = x)
    (hport : x.port p = { s.ports.get p with queue := .order n :: queue }) (hslots : x.slots = s.slots) (hcell : x.cell = s.cell)
    (hbudget : x.budget = s.budget) (ha : x.agenda = []) : ∃ z e, HushEnded s p n queue z ∧ z.faults = x.faults ∧
    Machine.exec .faultActionApplied s = .next (finish e).toState ∧ drain agendaBound e = drain 9997 (beginHead p z) := by
  obtain ⟨z, ended, faults, drained⟩ := hushEnded h.probe h.job h.trace h.link h.owed h.lens hport hslots hcell hbudget ha
  refine ⟨z, _, ended, faults, ?_, drained⟩
  rw [exec_faultActionApplied_nothing h.live h.sent rfl, ← State.taken, hx,
    endFailedHush_ends (by rw [hport]; exact h.probe) h.phase]

/-- With auto-probe disabled as the LINK_LOST was raised. -/
theorem FailedHush.exec_off (h : FailedHush p false r n behind s) : ∃ z e, HushEnded s p n behind z ∧
    Machine.exec .faultActionApplied s = .next (finish e).toState ∧ drain agendaBound e = drain 9997 (beginHead p z) := by
  obtain ⟨z, e, ended, -, applied, drained⟩ := h.exec (x := Event.of s.taken) (queue := behind) (considerProbe_none (.inl rfl))
    (by change s.ports.get p = _; rw [← h.queue]) rfl rfl rfl rfl
  exact ⟨z, e, ended, applied, drained⟩

theorem considerProbe_taken (hs : s.cell.sheet ≠ none) (hc : (s.ports.get p).faults.cooldownAt = none)
    (hq : QEntry.probe ∉ (s.ports.get p).queue) : considerProbe p .linkLost true (Event.of s.taken) =
      if (s.ports.get p).queue.length < 8 then appendProbe p (Event.of s.taken)
      else writeHeader (Event.of { s.taken with faults := { s.taken.faults with dropped := s.faults.dropped + 1 } }) :=
  considerProbe_free rfl hs hc hq

/-- An internal probe with no room is dropped and counted. -/
theorem FailedHush.exec_dropped (h : FailedHush p true r n behind s) (hs : s.cell.sheet ≠ none)
    (hc : (s.ports.get p).faults.cooldownAt = none) (hq : QEntry.probe ∉ behind) (hlen : behind.length = 7) :
    ∃ z e, HushEnded s p n behind z ∧ z.faults.dropped = s.faults.dropped + 1 ∧
    Machine.exec .faultActionApplied s = .next (finish e).toState ∧ drain agendaBound e = drain 9997 (beginHead p z) := by
  have considered := considerProbe_taken (p := p) hs hc (by rw [h.queue]; simpa using hq)
  rw [if_neg (by rw [h.queue, List.length_cons, hlen]; decide)] at considered
  obtain ⟨page, traffic, eq⟩ := writeHeader_eq
    (Event.of { s.taken with faults := { s.taken.faults with dropped := s.faults.dropped + 1 } })
  obtain ⟨z, e, ended, faults, applied, drained⟩ := h.exec (queue := behind) (considered.trans eq)
    (by change s.ports.get p = _; rw [← h.queue]) rfl rfl rfl rfl
  exact ⟨z, e, ended, by rw [faults]; rfl, applied, drained⟩

/-- An internal probe joins the tail behind the probe that ends. -/
theorem FailedHush.exec_appended (h : FailedHush p true r n behind s) (hs : s.cell.sheet ≠ none)
    (hc : (s.ports.get p).faults.cooldownAt = none) (hq : QEntry.probe ∉ behind) (hlen : behind.length < 7) :
    ∃ z e, HushEnded s p n (behind ++ [QEntry.probe]) z ∧ z.faults.dropped = s.faults.dropped ∧
    Machine.exec .faultActionApplied s = .next (finish e).toState ∧ drain agendaBound e = drain 9997 (beginHead p z) := by
  have considered := considerProbe_taken (p := p) hs hc (by rw [h.queue]; simpa using hq)
  rw [if_pos (by rw [h.queue, List.length_cons]; exact Nat.succ_lt_succ hlen),
    appendProbe_behind (by change (s.ports.get p).queue ≠ []; rw [h.queue]; exact List.cons_ne_nil _ _)] at considered
  obtain ⟨z, e, ended, faults, applied, drained⟩ := h.exec (queue := behind ++ [QEntry.probe]) considered
    (by
      rw [port_modPort, if_pos rfl]
      change { s.ports.get p with queue := (s.ports.get p).queue ++ [QEntry.probe] } = _
      rw [h.queue]
      rfl) rfl rfl rfl rfl
  exact ⟨z, e, ended, by rw [faults]; rfl, applied, drained⟩

end

end Sys2Proof.Machine

namespace Sys2Proof.Machine

section
variable {p : Port} {on : Bool} {r : ProbeRun} {n : SlotNo} {behind queue : List QEntry} {s : State}

/-- The state after an event worked off to y, with slot n as the probe's end left it. -/
theorem finished_slot {e y : Event} (h : drain agendaBound e = y) {k : SlotNo} {x : Slot} (hy : y.slots.get k = x) :
    (finish e).slots.get k = x := by
  rw [slots_of_bare (bare_finish_of_drain h)]
  exact hy

theorem finished_port {e y : Event} (h : drain agendaBound e = y) (q : Port) :
    ((finish e).ports.get q).queue = (y.port q).queue ∧ ((finish e).ports.get q).probe = (y.port q).probe ∧
    ((finish e).ports.get q).skips = (y.port q).skips := by
  obtain ⟨c, port⟩ := port_of_bare (bare_finish_of_drain h) q
  rw [port]
  exact ⟨rfl, rfl, rfl⟩

theorem finished_faults {e y : Event} (h : drain agendaBound e = y) : (finish e).faults = y.faults :=
  (congrArg State.faults (bare_finish_of_drain h) :)

/-- Nothing stands behind the probe that ends. -/
theorem FailedHush.ends (h : FailedHush p false r n [] s) : ∃ t, Machine.exec .faultActionApplied s = .next t ∧
    (t.slots.get n).state = .aborted ∧ (t.slots.get n).reason = .linkLost ∧ (t.ports.get p).queue = [] ∧
    (t.ports.get p).probe = none := by
  obtain ⟨z, e, ended, applied, drained⟩ := h.exec_off
  have idle : beginHead p z = z := perform_begin_idle (by rw [ended.port])
  rw [idle, drain_empty ended.untold] at drained
  obtain ⟨queue, probe, -⟩ := finished_port drained p
  have slot := finished_slot drained (k := n) rfl
  refine ⟨_, applied, ?_, ?_, ?_, ?_⟩
  · rw [slot]; exact ended.aborted
  · rw [slot]; exact ended.reason
  · rw [queue]; exact congrArg PortState.queue ended.port
  · rw [probe]; exact congrArg PortState.probe ended.port

/-- The internal probe that joins the empty queue begins. -/
theorem FailedHush.probes (h : FailedHush p true r n [] s) (hs : s.cell.sheet ≠ none)
    (hc : (s.ports.get p).faults.cooldownAt = none) (hst : s.cell.standing = true) (hl : loadRuns p s = false) :
    ∃ t r', Machine.exec .faultActionApplied s = .next t ∧ (t.slots.get n).state = .aborted ∧ (t.slots.get n).reason = .linkLost ∧
      (t.ports.get p).queue = [.probe] ∧ (t.ports.get p).probe = some r' ∧ r'.job = .auto ∧ t.faults.dropped = s.faults.dropped := by
  obtain ⟨z, e, ended, dropped, applied, drained⟩ := h.exec_appended hs hc (List.not_mem_nil) (by decide)
  obtain ⟨c, sheet⟩ := Option.ne_none_iff_exists'.mp hs
  have probing : AutoProbing p z.slots z.faults (beginHead p z) := autoProbing_beginHead (c := c) (by rw [ended.port]; rfl)
    (by rw [ended.port]) (by rw [ended.loadRuns h.loads]; exact hl) (by rw [ended.cell]; exact hst) (by rw [ended.cell]; exact sheet)
    (by simp [ended.untold])
  obtain ⟨r', probe, job, queue, slots, faults⟩ := autoProbing_finished drained probing
  exact ⟨_, r', applied, by rw [slots]; exact ended.aborted, by rw [slots]; exact ended.reason, queue, probe, job,
    by rw [faults]; exact dropped⟩

/-- The head behind the probe that ends stays: its order has ended, is a CYCLE, or waits for a CABLE_LOAD. -/
theorem FailedHush.stays (h : FailedHush p true r n behind s) (hs : s.cell.sheet ≠ none)
    (hc : (s.ports.get p).faults.cooldownAt = none) (hq : QEntry.probe ∉ behind) (hlen : behind.length = 7) {m : SlotNo} {o : Order}
    (hm : behind.head? = some (.order m)) (hqueued : (s.slots.get m).state = .queued) (ho : (s.slots.get m).order = some o)
    (hkind : o = .cycle p ∨ (loadRuns p s = true ∧ ((∃ asked ref, o = .probe p asked ref) ∨ ∃ force, o = .learn p force))) :
    ∃ t, Machine.exec .faultActionApplied s = .next t ∧ (t.slots.get n).state = .aborted ∧ (t.slots.get n).reason = .linkLost ∧
      (t.ports.get p).queue = behind ∧ (t.ports.get p).probe = none ∧ t.faults.dropped = s.faults.dropped + 1 := by
  obtain ⟨z, e, ended, dropped, applied, drained⟩ := h.exec_dropped hs hc hq hlen
  obtain ⟨y, hy, slot, queue, probe, faults⟩ : ∃ y : Event, drain 9997 (beginHead p z) = y ∧ y.slots.get n = z.slots.get n ∧
      (y.port p).queue = behind ∧ (y.port p).probe = none ∧ y.faults = z.faults := by
    have unbegun (same : beginHead p z = z) : ∃ y : Event, drain 9997 (beginHead p z) = y ∧ y.slots.get n = z.slots.get n ∧
        (y.port p).queue = behind ∧ (y.port p).probe = none ∧ y.faults = z.faults := by
      rw [same, drain_empty ended.untold]
      exact ⟨_, rfl, rfl, congrArg PortState.queue ended.port, congrArg PortState.probe ended.port, rfl⟩
    obtain ⟨rest, hrest⟩ : ∃ rest, behind = .order m :: rest := by
      cases behind with
      | nil => cases hm
      | cons x rest => exact ⟨rest, by rw [List.head?_cons] at hm; rw [Option.some.inj hm]⟩
    have head : (z.port p).queue = .order m :: rest := by rw [ended.port]; exact hrest
    by_cases hmn : m = n
    · exact unbegun (beginHead_stands head (by rw [hmn, ended.aborted]; decide))
    have queued : (z.slots.get m).state = .queued := by rw [ended.others m hmn]; exact hqueued
    have order : (z.slots.get m).order = some o := by rw [ended.others m hmn]; exact ho
    have begins := beginHead_order head queued order
    obtain rfl | ⟨loads, kind⟩ := hkind
    · obtain ⟨slots, traffic, touched, eq, others⟩ := touch_runSlot_eq p m z
      have cycles : beginHead p z = beginCycle p m { z with slots := slots, traffic := traffic, touched := touched } := by
        rw [begins, ← eq]
        rfl
      have begun := cycleBegun_beginCycle (e := { z with slots := slots, traffic := traffic, touched := touched })
        (by change z.budget.waitList = []; rw [ended.budget]; exact h.waits)
        (by change (z.port p).probe = none; rw [ended.port])
        (by change (z.port p).sweep = none; rw [ended.port]; exact h.sweep)
        (by change (z.port p).lens.state ≠ .staged; rw [ended.port]; exact h.lens) m
      rw [← cycles] at begun
      generalize beginHead p z = y at begun
      have told : ∀ t ∈ y.agenda, t = .gap p := fun t ht => (begun.tells t ht).resolve_left (by
        change t ∉ z.agenda
        rw [ended.untold]
        simp)
      refine ⟨_, drain_gaps begun.lens begun.probe told 9997, ?_, ?_, begun.probe, begun.faults⟩
      · change y.slots.get n = _
        rw [begun.slots]
        exact others n (Ne.symm hmn)
      · exact begun.queue.trans (congrArg PortState.queue ended.port)
    · have loading : loadRuns p z.toState = true := by rw [ended.loadRuns h.loads]; exact loads
      refine unbegun (begins.trans ?_)
      obtain ⟨asked, ref, rfl⟩ | ⟨force, rfl⟩ := kind
      · exact if_pos loading
      · exact if_pos loading
  have worked := drained.trans hy
  obtain ⟨queue', probe', -⟩ := finished_port worked p
  have slot' := finished_slot worked slot
  refine ⟨_, applied, ?_, ?_, queue'.trans queue, probe'.trans probe, ?_⟩
  · rw [slot']; exact ended.aborted
  · rw [slot']; exact ended.reason
  · rw [finished_faults worked, faults]; exact dropped

/-- A SNAP behind the probe that ends is skipped NOT_READY on the fallen link. -/
theorem FailedHush.skips {m : SlotNo} {v : Nat} (h : FailedHush p false r n [.order m] s) (hmn : m ≠ n)
    (hqueued : (s.slots.get m).state = .queued) (ho : (s.slots.get m).order = some (.snap p v))
    (hl : (s.ports.get p).link.state = .wake ∨ (s.ports.get p).link.state = .dark) :
    ∃ t, Machine.exec .faultActionApplied s = .next t ∧ (t.slots.get n).state = .aborted ∧ (t.slots.get n).reason = .linkLost ∧
      (t.slots.get m).state = .aborted ∧ (t.slots.get m).reason = .linkLost ∧ (t.ports.get p).queue = [] ∧
      (t.ports.get p).probe = none ∧ (t.ports.get p).skips = modAt (s.ports.get p).skips 0 (· + 1) := by
  obtain ⟨z, e, ended, applied, drained⟩ := h.exec_off
  have begins := beginHead_order (by rw [ended.port]) (by rw [ended.others m hmn]; exact hqueued)
    (by rw [ended.others m hmn]; exact ho)
  obtain ⟨slots₁, traffic₁, touched₁, eq₁, others₁⟩ := touch_runSlot_eq p m z
  obtain ⟨x, hx⟩ : ∃ x : Event, x = { z with slots := slots₁, traffic := traffic₁, touched := touched₁ } := ⟨_, rfl⟩
  have port : x.port p = { s.ports.get p with probe := none, queue := [.order m] } := by rw [hx]; exact ended.port
  have slot : x.slots.get n = z.slots.get n := by rw [hx]; exact others₁ n (Ne.symm hmn)
  have untold : x.agenda = [] := by rw [hx]; exact ended.untold
  have snaps : beginHead p z = beginSnap p m v x := by
    rw [begins, hx, ← eq₁]
    rfl
  obtain ⟨slots, page, traffic, touched, agenda, eq, state, reason, others, tells⟩ :=
    beginSnap_notReady (p := p) (e := x) (by rw [port]; exact hl) m v
  rw [← snaps] at eq
  obtain ⟨y, hy⟩ : ∃ y, y = beginHead p z := ⟨_, rfl⟩
  rw [← hy] at eq drained
  have left : y.port p = { s.ports.get p with
      probe := none, queue := [], snap := none, skips := modAt (s.ports.get p).skips 0 (· + 1) } := by
    rw [eq]
    change (modPort p (fun q => { q with snap := none, skips := modAt q.skips 0 (· + 1), queue := q.queue.tail }) x).port p = _
    rw [port_modPort, if_pos rfl, port]
    rfl
  have slots_y : y.slots = slots := by rw [eq]
  have agenda_y : y.agenda = agenda := by rw [eq]
  clear eq hx hy snaps
  have idle : drain 9997 y = { y with agenda := [] } := by
    refine drain_idle (fun t ht w hw => ?_) 9997
    have same : w.port p = y.port p := congrArg (fun s : State => s.ports.get p) hw
    rw [agenda_y] at ht
    obtain ht | rfl | rfl := tells t ht
    · rw [untold] at ht
      cases ht
    · exact perform_begin_idle (by rw [same, left])
    · exact perform_gap_idle (by rw [same, left]; exact h.lens) (by rw [same, left])
  have worked := drained.trans idle
  obtain ⟨queue, probe, skips⟩ := finished_port worked p
  have slot_n : (finish e).slots.get n = z.slots.get n :=
    finished_slot worked (by change y.slots.get n = _; rw [slots_y, others n (Ne.symm hmn), slot])
  have slot_m : (finish e).slots.get m = slots.get m := finished_slot worked (by change y.slots.get m = _; rw [slots_y])
  refine ⟨_, applied, ?_, ?_, ?_, ?_, queue.trans (congrArg PortState.queue left), probe.trans (congrArg PortState.probe left),
    skips.trans (congrArg PortState.skips left)⟩
  · rw [slot_n]; exact ended.aborted
  · rw [slot_n]; exact ended.reason
  · rw [slot_m]; exact state
  · rw [slot_m]; exact reason

end

end Sys2Proof.Machine

namespace Sys2Proof.Machine

/-- The judgement of the ports in ascending number (R70). -/
theorem forPorts_judgeCurrent (e : Event) : forPorts allPorts judgeCurrent e = judgeCurrent 7 (judgeCurrent 6 (judgeCurrent 5
    (judgeCurrent 4 (judgeCurrent 3 (judgeCurrent 2 (judgeCurrent 1 (judgeCurrent 0 e))))))) := by
  unfold forPorts
  generalize judgeCurrent = f
  rfl

theorem exec_currentMeasurement_ascending {readings : Vector Reading 8} {s : State} (h : live s = true) {u : State}
    (hu : u = { s with ports := Vector.ofFn fun p => { s.ports.get p with power := (s.ports.get p).power.measure (readings.get p) } }) :
    exec (.currentMeasurement readings) s = .next (after (fun e => judgeCurrent 7 (judgeCurrent 6 (judgeCurrent 5 (judgeCurrent 4
      (judgeCurrent 3 (judgeCurrent 2 (judgeCurrent 1 (judgeCurrent 0 e)))))))) u) := by
  rw [exec_currentMeasurement h hu, forPorts_judgeCurrent]
  unfold after
  rfl

/-- Settles O35: port by port for the judgement, by the port's power state for the action applied, by the queue met for auto-probe, and by
what stands behind it for the probe whose hush failed. -/
theorem measurementJudged : Obligations.MeasurementJudged := by
  unfold Obligations.MeasurementJudged
  refine ⟨⟨fun readings s h u hu => ⟨exec_currentMeasurement_ascending h hu, exec_currentMeasurement_fine h hu⟩, fun p e w hw => ?_⟩,
    fun p k a rest s h sent hp w hw u hu goes hg => ?_, fun p k rest c s h hs hc hk u hu hr => ⟨?_, fun hcool hq => ⟨?_, ?_, ?_⟩⟩,
    fun p on r n behind s h hs hr hf hj ht hl hq _ hsweep ho hlens hloads hb => ?_⟩
  · subst hw
    exact ⟨judgeCurrent_short, judgeCurrent_limit_toState, judgeCurrent_on_toState, judgeCurrent_fine⟩
  · obtain ⟨on, hs, hk⟩ := sent
    have goes' : goes = actionGoes a w.state w.retry := hg
    refine ⟨fun left => ?_, fun ha hl hh hn => exec_faultActionApplied_unpowered h hs hu hk hp ha hw hl hh hn goes',
      fun ha hn hb hsnap hsweep => exec_faultActionApplied_powered h hs hu hk hp ha hw hn hb hsnap hsweep goes'⟩
    have kept : applyAction p a (Event.of u) = Event.of u := applyAction_left (by rw [hw] at left; rw [hu]; exact left)
    rw [exec_faultActionApplied_alone h hs hu hk (by rw [kept, hu]; exact hp), kept, finish_of]
  · exact exec_faultActionApplied_held h hs hu hr
  · exact exec_faultActionApplied_dropped h hs hc hk hu hr hcool hq
  · exact exec_faultActionApplied_appended h hs hc hk hu hr hcool hq
  · exact fun hq hp hst hl => exec_faultActionApplied_begins h hs hc hk hu hcool hq hp hst hl
  · have failed : FailedHush p on r n behind s := ⟨h, hs, hr, hf, hj, ht, hl, hq, hsweep, ho, hlens, hloads, hb⟩
    refine ⟨fun hon hsheet hcool hprobe => ⟨fun hlen m o hm hqueued horder hkind => ?_, fun hbehind hst hload => ?_⟩,
      fun hon hbehind => ?_, fun m v hon hbehind hmn hqueued horder hlink => ?_⟩
    · subst hon
      exact failed.stays hsheet hcool hprobe hlen hm hqueued horder hkind
    · subst hon hbehind
      exact failed.probes hsheet hcool hst hload
    · subst hon hbehind
      exact failed.ends
    · subst hon hbehind
      exact failed.skips hmn hqueued horder hlink

end Sys2Proof.Machine

namespace Sys2Proof.Machine

/-! ## Lens moves that a frame gap starts (R139 to R141, R62, R63)

A SNAP that ends with no buffer in flight reports a gap, and a STAGED lens of its port then claims motion. The claim's arrival starts a
walk, which may grant a claim of another port and so tell that port's probe to go on. Stated of every state, the two statements below meet
one in which that probe takes a buffer. -/

/-- A probe at rest in CLAIMING, its trace claim not yet made. -/
def unclaimedProbe : ProbeRun where
  job := .order 2 true
  phase := .claiming
  window := 256
  echoThreshold := 20
  openLevel := 96
  shortLevel := 96
  velocity := 660
  length := none
  joints := []
  baseline := []
  beganPowered := false
  readyBy := none
  trace := .unasked
  path := some .dark
  sets := []

/-- Port 0 is in TALK with its lens STAGED and the staging timer expired; port 1 has a probe, and a WAKE claim that waits. -/
def gapWakes : State := { State.reset with
  cell := { CellCtl.reset with mode := .configure }
  handed := some 0
  ports := putAt (putAt State.reset.ports 0 { PortState.reset CableRec.absent with
      link := { PortLink.reset with state := .talk }, lens := { LensRec.reset with state := .staged, stagingMark := true } })
    1 { PortState.reset CableRec.absent with probe := some unclaimedProbe }
  budget := { Budget.reset with waitList := [{ port := 1, kind := .wake, amount := 0, rating := 0 }] } }

/-- A SNAP of port 0, which is not ON, is the head of its queue. -/
def skippedSnap : State := { gapWakes with
  slots := putAt gapWakes.slots 0 { Slot.reset with state := .queued, order := some (.snap 0 0) }
  ports := modAt gapWakes.ports 0 fun q => { q with queue := [.order 0] } }

/-- A buffer that only port 1 may claim, RESERVED for port 0. -/
def lentBuffer : Entry := { Entry.fresh with
  state := .reserved, loaded := true, owner := some 0, settings := some { addr := 0, length := 4096, dedication := some 1 }
  stamp := some { port := 0, tag := 0, step := none, time := 0, exposure := 10, lens := Axes.none, moving := false, sweepStep := none } }

/-- A CANCEL in slot 0 of a SNAP of port 0 that waits for its frame in that buffer. -/
def cancelledSnap : State := { gapWakes with
  slots := putAt (putAt gapWakes.slots 0 { Slot.reset with order := some (.cancel 1) })
    1 { Slot.reset with state := .running, order := some (.snap 0 0) }
  ports := modAt gapWakes.ports 0 fun q => { q with
    queue := [.order 1], snap := some { slot := 1, shot := some (0, 0), opened := false } }
  pool := { Pool.reset with entries := [lentBuffer] } }

/-- The probe told by the walk of the gap makes its trace claim. -/
theorem claims_of_skippedSnap {t : State} (h : exec (.snap 0) skippedSnap = .next t) : t.pool.claims.length = 1 := by
  have claimed : (match exec (.snap 0) skippedSnap with | .next u => u.pool.claims.length | _ => 0) = 1 := by decide +kernel
  rwa [h] at claimed

/-- The probe told by the walk of the gap takes the buffer that the SNAP gave back. -/
theorem entries_of_cancelledSnap {u : State} (h : exec (.cancel 0) cancelledSnap = .next u) :
    u.pool.entries.map (·.state) = [.filling] := by
  have taken : (match exec (.cancel 0) cancelledSnap with | .next v => v.pool.entries.map (·.state) | _ => []) = [.filling] := by
    decide +kernel
  rwa [h] at taken

/-- Refutes O28: the SNAP of a port that is not ON leaves the pool as it is only where nothing but the port acts. The STAGED lens of
the port in TALK claims motion at the gap, the walk grants the WAKE claim of another port, and the probe there makes its trace claim. -/
theorem not_snapAtTheHead : ¬ Obligations.SnapAtTheHead := by
  unfold Obligations.SnapAtTheHead
  rintro ⟨-, skips, -⟩
  obtain ⟨t, answered, -, -, -, -, -, pool, -⟩ := skips 0 0 0 skippedSnap (by decide +kernel) (by decide +kernel) (by decide +kernel)
    (by decide +kernel) (.inl (by decide +kernel)) (by decide +kernel) (by decide +kernel)
  have claimed := claims_of_skippedSnap answered
  rw [pool] at claimed
  exact absurd claimed (by decide)

/-- Refutes O22 at the CANCEL of a SNAP whose buffer is RESERVED: the buffer is GIVEN, but the gap then told moves the STAGED lens of the
port, the walk of its claim grants the WAKE claim of another port, and the probe there takes the buffer for its trace. -/
theorem not_cancelTable : ¬ Obligations.CancelTable := by
  unfold Obligations.CancelTable
  intro h
  obtain ⟨-, -, -, -, running, -⟩ :=
    (h 0 1 cancelledSnap (by decide +kernel) (by decide +kernel) (by decide +kernel)).2 0 (by decide) (by decide +kernel)
  obtain ⟨-, -, reserved, -⟩ := running (by decide +kernel) (by decide +kernel) (by decide +kernel)
  obtain ⟨u, answered, -, -, given, -⟩ := reserved { slot := 1, shot := some (0, 0), opened := false } (by decide +kernel)
    (by decide +kernel) rfl (0, 0) rfl 0 0 rfl rfl
  obtain ⟨⟨y, hy, eq⟩, -⟩ := given lentBuffer rfl (by decide +kernel)
  have state : y.state = .given := by rw [eq]
  have taken := entries_of_cancelledSnap answered
  have first : (u.pool.entries.map (·.state))[0]? = some BufState.given := by rw [List.getElem?_map, hy, Option.map_some, state]
  rw [taken] at first
  exact absurd first (by decide)

end Sys2Proof.Machine

namespace Sys2Proof.Machine

/-! ## Orders carried out (R43)

An event is its state with an agenda and marks. Carrying on the ORDERS sweep acts on the state alone, so an order's command answers the
state its work makes, carried on, once its agenda is worked off and the marked port reports are rewritten. -/

theorem nextRecord_resting {a : Area} {e : Event} (h : areaState a e.toState = .idle ∨ areaState a e.toState = .pending) :
    nextRecord a e = e := by
  unfold nextRecord
  obtain h | h := h <;> rw [h]

theorem carriedOn_eq (e : Event) : carriedOn e = { toState := e.toState.carried, agenda := e.agenda, touched := e.touched } := by
  unfold State.carried State.nextRead carriedOn
  cases h : areaState .orders e.toState with
  | idle =>
    rw [nextRecord_resting (.inl (by exact h)), nextRecord_resting (.inl (by exact h))]
    rfl
  | pending =>
    rw [nextRecord_resting (.inr (by exact h)), nextRecord_resting (.inr (by exact h))]
    rfl
  | sweeping again n d =>
    by_cases hn : n + 1 < areaCount .orders e.toState
    · rw [nextRecord_more (by exact h) (by exact hn), nextRecord_more (by exact h) (by exact hn)]
      rfl
    · have last := Nat.le_of_not_lt hn
      rw [nextRecord_last (by exact h) (by exact last), nextRecord_last (by exact h) (by exact last)]
      rfl

/-- The ORDERS sweep that goes on moves its own area's state, its reads and what is issued. -/
theorem nextRead_orders_eq (s : State) : ∃ areas reads traffic, s.nextRead .orders =
    { s with page := { s.page with areas := areas }, reads := reads, traffic := traffic } := by
  unfold State.nextRead
  cases h : areaState .orders s with
  | idle => rw [nextRecord_resting (.inl (by exact h))]; exact ⟨_, _, _, rfl⟩
  | pending => rw [nextRecord_resting (.inr (by exact h))]; exact ⟨_, _, _, rfl⟩
  | sweeping again n d =>
    by_cases hn : n + 1 < areaCount .orders s
    · rw [nextRecord_more (by exact h) (by exact hn)]; exact ⟨_, _, _, rfl⟩
    · have last := Nat.le_of_not_lt hn
      rw [nextRecord_last (by exact h) (by exact last)]; exact ⟨_, _, _, rfl⟩

/-- The sweep that goes on behind an order carried out also ends its hand-over. -/
theorem carried_eq (s : State) : ∃ areas reads traffic, s.carried =
    { s with page := { s.page with areas := areas }, reads := reads, traffic := traffic, handed := none } :=
  nextRead_orders_eq { s with handed := none }

/-- An order handed over stands in its slot. -/
theorem order_of_handed {n : SlotNo} {o : Order} {s : State} (h : handedOrder n s = some o) : (s.slots.get n).order = some o := by
  unfold handedOrder at h
  split at h
  · exact h
  · cases h

/-- An order that runs at once and whose mode accepts it is carried out. -/
theorem act_carryOut {n : SlotNo} {o : Order} {s : State} {f g : Event → Event} (h : live s = true)
    (hg : g (Event.of s) = carryOut n o f (Event.of s)) (hm : o.acceptedIn s.cell.mode = true) :
    act g s = .next (finish (carriedOn (f (Event.of s)))).toState := by
  have accepted : carryOut n o f (Event.of s) = carriedOn (f (Event.of s)) := congrArg carriedOn (if_pos hm)
  rw [act_live h, after, hg, accepted]

/-- Its work tells nothing and marks nothing. -/
theorem act_carried {n : SlotNo} {o : Order} {s t : State} {f g : Event → Event} (h : live s = true)
    (hg : g (Event.of s) = carryOut n o f (Event.of s)) (hm : o.acceptedIn s.cell.mode = true) (hf : f (Event.of s) = Event.of t) :
    act g s = .next t.carried := by
  rw [act_carryOut h hg hm, hf, ← of_carried, finish_of]

/-- Its work tells nothing and marks port p. -/
theorem act_carried_port {n : SlotNo} {o : Order} {s t : State} {f g : Event → Event} {p : Port} (h : live s = true)
    (hg : g (Event.of s) = carryOut n o f (Event.of s)) (hm : o.acceptedIn s.cell.mode = true)
    (hf : f (Event.of s) = { Event.of t with touched := [p] }) : act g s = .next (t.carried.reported [p]) := by
  rw [act_carryOut h hg hm, hf, carriedOn_eq, finish_marked rfl]
  exact congrArg (fun ps => Host.Outcome.next (t.carried.reported ps)) (filter_contains_single p)

/-- A slot's final state, its port being marked. -/
theorem finishSlot_marked (n : SlotNo) (st : SlotState) (r : Reason) (field : Nat) (results : List Byte) (ps : List Port) (s : State) :
    finishSlot n st r field results { Event.of s with touched := ps } =
      { Event.of (s.finished n st r field results) with touched := ps } := by
  by_cases h : s.page.taken = .held
  · rw [of_finished, finishSlot_held (by exact h) n st r field results rfl, finishSlot_held (by exact h) n st r field results rfl]
  · rw [of_finished, finishSlot_absent (by exact h), finishSlot_absent (by exact h)]
    rfl

/-- Marking a port in an event that has marked none. -/
theorem touch_first {p : Port} {e : Event} (h : e.touched = []) : touch p e = { e with touched := [p] } := by
  rw [touch, if_neg (by simp [h]), h]
  rfl

/-- Outside SETUP a kind of both modes is accepted (R42). -/
theorem acceptedIn_of_both {o : Order} {m : Mode} (hm : m ≠ .setup) (hc : o.acceptedIn .configure = true)
    (hr : o.acceptedIn .run = true) : o.acceptedIn m = true := by
  cases m with
  | setup => exact absurd rfl hm
  | configure => exact hc
  | run => exact hr

/-! ## CLEAR_STOP (R47) -/

theorem clearStopLatch_set {s : State} (h : s.faults.stopLatch = true) : clearStopLatch (Event.of s) =
    Event.of (State.headerShown 0 { s with faults := { s.faults with stopLatch := false } }) := by
  rw [of_headerShown, attend_zero]
  exact if_pos h

theorem headerShown_zero (s : State) : ∃ count traffic, s.headerShown 0 =
    { s with page := { s.page with headerCount := count }, traffic := traffic } := by
  unfold State.headerShown
  rw [attend_zero]
  by_cases h : s.page.taken = .held
  · rw [writeHeader_held h]
    exact ⟨_, _, rfl⟩
  · rw [writeHeader_absent h]
    exact ⟨s.page.headerCount, s.traffic, rfl⟩

/-- Settles O26: by whether the latch is set. -/
theorem clearStopClears : Obligations.ClearStopClears := by
  unfold Obligations.ClearStopClears
  intro n s h hm ho
  have carried : ∀ t, doneSlot n (flagResult s.faults.stopLatch) (clearStopLatch (Event.of s)) = Event.of t →
      exec (.clearStop n) s = .next t.carried := fun t ht => by
    exact act_carried (n := n) (o := .clearStop) (f := fun x => doneSlot n (flagResult x.faults.stopLatch) (clearStopLatch x)) h
      (by rw [of_state, ho]) (acceptedIn_of_both hm rfl rfl) ht
  refine ⟨fun hl => ?_, fun hl => carried _ ?_⟩
  · obtain ⟨count, traffic, shown⟩ := headerShown_zero { s with faults := { s.faults with stopLatch := false } }
    refine ⟨_, rfl, by rw [shown]; rfl, by rw [shown], carried _ ?_⟩
    rw [clearStopLatch_set hl, hl, of_finished]
    rfl
  · have clear : clearStopLatch (Event.of s) = Event.of s := if_neg (by simp [Event.of, hl])
    rw [clear, hl, of_finished]
    rfl

/-! ## CLEAR_FAULTS and CLEAR_LOCKOUT (R46) -/

/-- DONE with its results, port p being marked. -/
theorem doneSlot_marked (n : SlotNo) (results : List Byte) (p : Port) (t : State) :
    doneSlot n results { Event.of t with touched := [p] } = { Event.of (t.finished n .done .none 0 results) with touched := [p] } :=
  finishSlot_marked n .done .none 0 results [p] t

/-- A LOCKED_OUT port without a probe is HELD with its retry count 0, and is marked. -/
theorem unlock_eq {p : Port} {s : State} (hp : (s.ports.get p).probe = none) (hl : (s.ports.get p).power.state = .lockedOut) :
    setPower p .held (modPower p (fun w => { w with retry := 0 }) (Event.of s)) = { Event.of { s with
      ports := modAt s.ports p fun q => { q with power := { q.power with state := .held, retry := 0 } } } with touched := [p] } := by
  have locked : ((modPower p (fun w => { w with retry := 0 }) (Event.of s)).port p).power.state = .lockedOut := by
    rw [port_modPower, if_pos rfl]
    exact hl
  unfold setPower
  rw [if_neg (by rw [locked]; decide), tellProbe_none, touch_first rfl]
  · simp only [modPower, modPort_modPort]
    rfl
  · rw [port_touch, port_modPower, if_pos rfl, port_modPower, if_pos rfl]
    exact hp

/-- Settles O25: CLEAR_FAULTS by whether the latched set is empty, CLEAR_LOCKOUT by whether the port is LOCKED_OUT. -/
theorem portClears : Obligations.PortClears := by
  unfold Obligations.PortClears
  refine ⟨fun n p s h hm ho => ⟨fun hl => ?_, fun hl => ?_⟩, fun n p s h hm ho hp => ⟨fun hl => ?_, fun hl => ?_⟩⟩
  · refine act_carried_port (n := n) (o := .clearFaults p) (f := carryClearFaults n p) h (by rw [of_state, ho])
      (acceptedIn_of_both hm rfl rfl) ?_
    unfold carryClearFaults
    dsimp only
    rw [if_pos (by exact hl), touch_first rfl, ← doneSlot_marked]
    rfl
  · refine act_carried (n := n) (o := .clearFaults p) (f := carryClearFaults n p) h (by rw [of_state, ho])
      (acceptedIn_of_both hm rfl rfl) ?_
    unfold carryClearFaults
    dsimp only
    rw [if_neg (by exact Bool.eq_false_iff.mp hl), of_finished]
    rfl
  · refine act_carried_port (n := n) (o := .clearLockout p) (f := carryClearLockout n p) h (by rw [of_state, ho])
      (acceptedIn_of_both hm rfl rfl) ?_
    unfold carryClearLockout
    rw [if_pos (by exact hl), unlock_eq hp hl, ← doneSlot_marked]
    rfl
  · refine act_carried (n := n) (o := .clearLockout p) (f := carryClearLockout n p) h (by rw [of_state, ho])
      (acceptedIn_of_both hm rfl rfl) ?_
    unfold carryClearLockout
    rw [if_neg (by exact hl), of_finished]
    rfl

end Sys2Proof.Machine

namespace Sys2Proof.Machine

/-! ## ARM and DISARM (R44, R105, R106) -/

theorem modAt_self {α : Type} {n : Nat} {v : Vector α n} {i : Fin n} {f : α → α} (h : f (v.get i) = v.get i) : modAt v i f = v :=
  vector_ext_get fun j => by
    rw [get_modAt]
    split
    · next same => rw [h, same]
    · rfl

theorem putAt_self {α : Type} {n : Nat} (v : Vector α n) (i : Fin n) : putAt v i (v.get i) = v :=
  modAt_self (f := fun _ => v.get i) rfl

/-- Program i's record is stored anew. -/
theorem modProgram_of (i : ProgNo) (f : Program → Program) (s : State) : modProgram i f (Event.of s) =
    Event.of { s with trigger := { s.trigger with programs := putAt s.trigger.programs i (f (s.trigger.programs.get i)) } } := rfl

/-- ARM takes the record of a DISARMED program from the copy, and leaves any other. -/
theorem armProgram_eq {i : ProgNo} {c : CellSheet} {s : State} (hs : s.cell.sheet = some c) {g : Program}
    (hg : g = if (s.trigger.programs.get i).state = .disarmed then
      (s.trigger.programs.get i).arm (c.programs.get i) s.clock s.trigger.encCount else s.trigger.programs.get i) :
    armProgram i (Event.of s) = Event.of { s with trigger := { s.trigger with programs := putAt s.trigger.programs i g } } := by
  unfold armProgram
  rw [of_state, hs]
  cases state : (s.trigger.programs.get i).state with
  | disarmed =>
    rw [if_pos state] at hg
    rw [hg]
    rfl
  | armed | running =>
    rw [if_neg (by rw [state]; decide)] at hg
    rw [hg, putAt_self]

/-- The answer to ARM and DISARM shows the program as its work leaves it. -/
theorem doneProgram_of (n : SlotNo) (i : ProgNo) (t : State) : doneProgram n i (Event.of t) =
    Event.of (t.finished n .done .none 0 (armResults (t.trigger.programs.get i))) := (of_finished n .done .none 0 _ t).symm

/-- DISARM of a program that is not DISARMED drops what it had pending and the decisions that wait. -/
theorem disarmOrder_eq {i : ProgNo} {s : State} (h : (s.trigger.programs.get i).state ≠ .disarmed) : disarmOrder i (Event.of s) =
    Event.of { s with
      trigger := { s.trigger with programs := putAt s.trigger.programs i (s.trigger.programs.get i).disarm }
      pool := { s.pool with
        claims := s.pool.claims.map fun x =>
          if Requester.isStep i x.requester = true ∧ x.status = .live then { x with status := .dropped } else x } } := by
  have dropped : (fun x : BufClaim =>
        if (Requester.isStep i x.requester && x.status == .live) = true then { x with status := ClaimStatus.dropped } else x) =
      fun x =>
        if Requester.isStep i x.requester = true ∧ x.status = .live then { x with status := ClaimStatus.dropped } else x := by
    funext x
    simp only [Bool.and_eq_true, beq_iff_eq]
  refine (if_neg h).trans ?_
  unfold disarmProgram markClaims
  rw [dropped]
  rfl

/-- Settles O21: ARM and DISARM by whether the program is DISARMED. -/
theorem armAndDisarm : Obligations.ArmAndDisarm := by
  unfold Obligations.ArmAndDisarm
  intro n i c s h hm hs
  have mode {o : Order} (ho : o.acceptedIn .run = true) : o.acceptedIn s.cell.mode = true := by rw [hm]; exact ho
  have disarmed (ho : handedOrder n s = some (.disarm i)) {t : State} (ht : disarmOrder i (Event.of s) = Event.of t) :
      exec (.disarm n) s = .next (t.finished n .done .none 0 (armResults (t.trigger.programs.get i))).carried :=
    act_carried (n := n) (o := .disarm i) (f := fun x => doneProgram n i (disarmOrder i x)) h (by rw [of_state, ho]) (mode rfl)
      (by rw [ht, doneProgram_of])
  refine ⟨fun ho => ⟨_, rfl, ?_⟩, fun ho hd => ⟨_, rfl, ?_⟩, fun ho hd => disarmed ho (if_pos hd)⟩
  · refine act_carried (n := n) (o := .arm i) (f := fun x => doneProgram n i (armProgram i x)) h (by rw [of_state, ho]) (mode rfl) ?_
    rw [armProgram_eq hs rfl, doneProgram_of, get_putAt_self]
    rfl
  · rw [disarmed ho (disarmOrder_eq hd), get_putAt_self]
    rfl

/-! ## CABLE_LOAD and CABLE_SAVE (R49 to R52, R151, R152) -/

/-- An order that fails at its beginning is refused with field 0 and no results. -/
theorem refuseSlot_of (n : SlotNo) (r : Reason) (s : State) : refuseSlot n r (Event.of s) =
    Event.of (s.finished n .refused r 0 []) := (of_finished n .refused r 0 [] s).symm

/-- An order is DONE with its results. -/
theorem doneSlot_of (n : SlotNo) (results : List Byte) (s : State) : doneSlot n results (Event.of s) =
    Event.of (s.finished n .done .none 0 results) := (of_finished n .done .none 0 results s).symm

theorem cableResult_eq (c : CableRec) : cableResult c = [BitVec.ofNat 8 c.state.code] := rfl

section
variable {n : SlotNo} {p : Port} {a : Addr} {s : State}

/-- A load is refused while a probe runs on its port or another load for it does (R49). -/
theorem carryLoad_refused (h : (s.ports.get p).probe ≠ none ∨ loadRuns p s = true) : carryLoad n p a (Event.of s) =
    Event.of (s.finished n .refused .busyTarget 0 []) := by
  refine (if_pos ?_).trans (refuseSlot_of n .busyTarget s)
  rw [Bool.or_eq_true]
  exact h.imp_left Option.isSome_iff_ne_none.mpr

/-- Else it is RUNNING, its read issued with its limit (R49). -/
theorem carryLoad_begins (hp : (s.ports.get p).probe = none) (hl : loadRuns p s = false) {u : State}
    (hu : u = State.ran n { s with slots := modAt s.slots n fun x =>
      { x with loadBy := some (s.clock + 50000), reason := .none, field := 0, results := [] } }) :
    carryLoad n p a (Event.of s) =
      Event.of { u with reads := u.reads.issued (.load n), traffic := u.traffic ++ [.read u.reads.next a 128] } := by
  have idle : (probeRuns p (Event.of s) || loadRuns p (Event.of s).toState) = false := by
    rw [Bool.or_eq_false_iff]
    exact ⟨congrArg Option.isSome hp, hl⟩
  have stored : modSlot n (fun x => { x with reason := .none, field := 0, results := [] })
      (modSlot n (fun x => { x with loadBy := timer Config.readLimit (Event.of s) }) (Event.of s)) =
      Event.of { s with slots := modAt s.slots n fun x =>
        { x with loadBy := some (s.clock + 50000), reason := .none, field := 0, results := [] } } := by
    unfold modSlot
    dsimp only
    rw [modAt_modAt]
    rfl
  unfold carryLoad
  rw [idle, if_neg Bool.false_ne_true, startSlot, stored, ← of_ran, ← hu]
  rfl

/-- A save is refused while a load for the port runs (R50). -/
theorem carrySave_refused (h : loadRuns p s = true) : carrySave n p a (Event.of s) =
    Event.of (s.finished n .refused .busyTarget 0 []) := (if_pos h).trans (refuseSlot_of n .busyTarget s)

/-- Else the record is written as it stands (R50, R152). -/
theorem carrySave_writes (h : loadRuns p s = false) : carrySave n p a (Event.of s) = Event.of (State.finished n .done .none 0
    [BitVec.ofNat 8 (s.ports.get p).cable.state.code] { s with traffic := s.traffic ++ [.write a (s.ports.get p).cable.bytes] }) :=
  (if_neg (by exact Bool.eq_false_iff.mp h)).trans (doneSlot_of n _ _)

/-- The end of a load tells the head of its port's queue, which is empty: the command answers the state the end makes (R49, R52). -/
theorem act_load_end {g : Event → Event} {t : State} (h : live s = true) (hg : g (Event.of s) = tell (.begin p) (Event.of t))
    (hq : (t.ports.get p).queue = []) : act g s = .next t := by
  have worked : drain agendaBound (tell (.begin p) (Event.of t)) = Event.of t :=
    drain_idle (fun x hx w hw => by
      obtain rfl : x = .begin p := by simpa [tell] using hx
      exact perform_begin_idle (by rw [Event.port, hw]; exact hq)) agendaBound
  rw [act_live h, after, hg, finish, worked]
  rfl

theorem loadingPort_running (hr : (s.slots.get n).state = .running) (ho : (s.slots.get n).order = some (.cableLoad p a)) :
    loadingPort n s = some p := by
  unfold loadingPort
  dsimp only
  rw [hr, ho]

/-- The queues are not part of a slot's final state. -/
theorem finished_ports (n : SlotNo) (st : SlotState) (r : Reason) (field : Nat) (results : List Byte) (s : State) :
    (s.finished n st r field results).ports = s.ports := by
  obtain ⟨slots, page, traffic, eq⟩ := finishSlot_eq n st r field results (Event.of s)
  rw [State.finished, eq]
  rfl

/-- Settles O23: a load's beginning by what runs on its port, its ends by the completion met, and the save by whether a load runs. -/
theorem cableOrders : Obligations.CableOrders := by
  unfold Obligations.CableOrders
  refine ⟨fun n p a s h => ⟨fun ho hm => ?_, fun hr ho hq k hk => ?_⟩, fun n p a s h hm ho => ?_⟩
  · have carried {t : State} (ht : carryLoad n p a (Event.of s) = Event.of t) : exec (.cableLoad n) s = .next t.carried :=
      act_carried (n := n) (o := .cableLoad p a) (f := carryLoad n p a) h (by rw [of_state, ho]) (acceptedIn_of_both hm rfl rfl) ht
    exact ⟨fun busy => carried (carryLoad_refused busy), fun hp hl => ⟨_, rfl, carried (carryLoad_begins hp hl rfl)⟩⟩
  · have loading : loadingPort n s = some p := loadingPort_running hr ho
    have mine : answers (.load n) k s = true := by rw [hk]; exact answers_self _ _
    refine ⟨fun bytes c hc => act_load_end h (p := p) ?_ ?_, fun bytes r f hc => act_load_end h (p := p) ?_ ?_,
      fun error he => act_load_end h (p := p) ?_ ?_, fun j bytes hj => ⟨act_idle ?_, act_idle ?_⟩⟩
    · rw [of_state, loading, mine]
      unfold endLoad
      rw [hc, ← doneSlot_of]
      rfl
    · rw [finished_ports]
      exact (congrArg PortState.queue (get_modAt_self _ _ _)).trans hq
    · rw [of_state, loading, mine]
      unfold endLoad
      rw [hc, of_finished]
    · rw [finished_ports]
      exact hq
    · have failed : readFailed (.load n) error (s.slots.get n).loadBy s = true := by
        obtain rfl | ⟨rfl, due⟩ := he
        · exact mine
        · exact due
      rw [of_state, loading, of_finished]
      exact if_pos failed
    · rw [finished_ports]
      exact hq
    · rw [of_state, loading, answers_ne (hk ▸ hj)]
    · rw [of_state, loading]
      refine if_neg ?_
      rw [readFailed, answers_ne (hk ▸ hj)]
      exact Bool.false_ne_true
  · have carried {t : State} (ht : carrySave n p a (Event.of s) = Event.of t) : exec (.cableSave n) s = .next t.carried :=
      act_carried (n := n) (o := .cableSave p a) (f := carrySave n p a) h (by rw [of_state, ho]) (acceptedIn_of_both hm rfl rfl) ht
    exact ⟨fun busy => carried (carrySave_refused busy), fun hl => carried (carrySave_writes hl)⟩

end

end Sys2Proof.Machine

namespace Sys2Proof.Machine

/-! ## CLEAR_BREAKS (R48) -/

/-- Mirror records are rewritten while the page is HELD (R18). -/
theorem forNumbers_writeMirror_held (ns : List (Fin 16)) : ∀ {e : Event}, e.page.taken = .held → ∃ counts traffic,
    forNumbers ns writeMirror e = { e with page := { e.page with mirrorCounts := counts }, traffic := traffic } := by
  induction ns with
  | nil => exact fun {e} _ => ⟨e.page.mirrorCounts, e.traffic, rfl⟩
  | cons n ns ih =>
    intro e h
    obtain ⟨counts, traffic, one⟩ : ∃ counts traffic, writeMirror n e =
        { e with page := { e.page with mirrorCounts := counts }, traffic := traffic } :=
      ⟨_, _, if_pos (by simp [held, h])⟩
    obtain ⟨counts', traffic', rest⟩ := ih (e := writeMirror n e) (by rw [one]; exact h)
    exact ⟨counts', traffic', rest.trans (by rw [one])⟩

/-- An updated log with nothing unrecorded is taken while the page is HELD: ATTENTION.BREAKS is set when a record changed (R180). -/
theorem takeLog_held {e : Event} (h : e.page.taken = .held) {g : LogEvent} (hu : g.unrecorded = 0) : ∃ counts traffic,
    takeLog g e = { e with
      faults := { e.faults with log := g.log }
      page := { e.page with
        mirrorCounts := counts, attention := e.page.attention ||| (if g.changed = [] then 0 else flagBreaks) }
      traffic := traffic } := by
  obtain ⟨counts, traffic, mirrored⟩ := forNumbers_writeMirror_held (allNumbers.filter fun n => g.changed.contains n.val)
    (e := { e with faults := { e.faults with log := g.log } }) h
  unfold takeLog
  dsimp only
  rw [if_pos hu, mirrored]
  by_cases hc : g.changed = []
  · have unset : e.page.attention ||| (0 : BitVec 14) = e.page.attention := BitVec.or_zero
    rw [if_pos (by rw [hc]; rfl), if_pos hc, unset]
    exact ⟨_, _, rfl⟩
  · rw [if_neg (by rwa [List.isEmpty_iff]), if_neg hc, attend_held (by exact h), raiseFlags_eq]
    exact ⟨_, _, rfl⟩

/-- The records that are removed are those that are not kept. -/
theorem length_removed {α : Type} (f : α → Bool) (xs : List α) :
    (xs.filter f).length = xs.length - (xs.filter fun x => !f x).length :=
  Nat.eq_sub_of_add_eq (List.length_eq_length_filter_add f).symm

/-- Settles O24: the log that is kept is taken, and the slot is DONE. -/
theorem clearBreaksRemoves : Obligations.ClearBreaksRemoves := by
  unfold Obligations.ClearBreaksRemoves
  intro n port activeToo s h ht hm ho
  obtain ⟨kept, hk⟩ : ∃ kept, kept = s.faults.log.filter fun r => !r.clearedBy port activeToo := ⟨_, rfl⟩
  obtain ⟨removed, hr⟩ : ∃ removed, removed = s.faults.log.filter (BreakRec.clearedBy port activeToo) := ⟨_, rfl⟩
  have count : removed.length = s.faults.log.length - kept.length := by rw [hr, hk]; exact length_removed _ _
  have fewer : kept.length < s.faults.log.length ↔ removed ≠ [] := by
    have := List.length_filter_le (fun r => !BreakRec.clearedBy port activeToo r) s.faults.log
    rw [← hk] at this
    rw [← List.length_pos_iff_ne_nil]
    omega
  obtain ⟨counts, traffic, log⟩ := takeLog_held (e := Event.of s) ht
    (g := { LogEvent.begin kept with changed := removed.map (·.number) }) rfl
  have carried : exec (.clearBreaks n) s = .next (State.finished n .done .none 0 (putNum 1 removed.length [])
      (takeLog { LogEvent.begin kept with changed := removed.map (·.number) } (Event.of s)).toState).carried := by
    refine act_carried (n := n) (o := .clearBreaks port activeToo) (f := carryClearBreaks n port activeToo) h (by rw [of_state, ho])
      (acceptedIn_of_both hm rfl rfl) ?_
    unfold carryClearBreaks
    rw [of_state, ← hr, ← hk, ← doneSlot_of, of_toState (by simp) (by simp)]
  refine ⟨_, carried, ?_⟩
  obtain ⟨areas, reads, traffic', eq⟩ := carried_eq (State.finished n .done .none 0 (putNum 1 removed.length [])
    (takeLog { LogEvent.begin kept with changed := removed.map (·.number) } (Event.of s)).toState)
  rw [eq, State.finished, of_toState (by simp) (by simp), log, finishSlot_held (by exact ht) n .done .none 0 _ rfl]
  refine ⟨hk, ?_, ?_, ?_, rfl, rfl, rfl, fun k hne => get_putAt_ne _ _ _ _ hne⟩
  · exact congrArg Slot.state (get_putAt_self _ _ _)
  · refine (congrArg Slot.results (get_putAt_self _ _ _)).trans ?_
    change [BitVec.ofNat 8 removed.length] = _
    rw [count]
    rfl
  · change (s.page.attention ||| (if removed.map (·.number) = [] then 0 else flagBreaks)) ||| flagOrders =
      s.page.attention ||| flagOrders ||| (if kept.length < s.faults.log.length then flagBreaks else 0)
    rw [BitVec.or_assoc, BitVec.or_comm _ flagOrders, ← BitVec.or_assoc]
    by_cases hn : removed = []
    · rw [if_pos (by rw [hn]; rfl), if_neg (fun hl => fewer.mp hl hn)]
    · rw [if_neg (by rwa [List.map_eq_nil_iff]), if_pos (fewer.mpr hn)]

/-! ## A new order record (R39, R41) -/

/-- The answer part written moves the slot's report count and what is issued. -/
theorem writeAnswer_eq (n : SlotNo) (e : Event) : ∃ count traffic, writeAnswer n e =
    { e with slots := modAt e.slots n fun x => { x with answerCount := count }, traffic := traffic } := by
  by_cases h : e.page.taken = .held
  · rw [writeAnswer_held h]
    exact ⟨(e.slots.get n).answerCount + 2, _, rfl⟩
  · refine ⟨(e.slots.get n).answerCount, e.traffic, (writeAnswer_absent h n).trans ?_⟩
    rw [modAt_self rfl]

/-- The tests of an order that passes its check, spares and values (R41). -/
theorem orderRefusal_of {o : Order} {r : Reason} {s : State}
    (h : (o.serviceOnly = true ∧ s.page.service ≠ .opened ∧ r = .serviceOnly) ∨
      ((o.serviceOnly = true → s.page.service = .opened) ∧ o.acceptedIn s.cell.mode = false ∧ r = .wrongMode) ∨
      ((o.serviceOnly = true → s.page.service = .opened) ∧ o.acceptedIn s.cell.mode = true ∧ r = .queueFull ∧
        ∃ p, o.queuePort = some p ∧ 8 ≤ (s.ports.get p).queue.length)) : orderRefusal o s = some r := by
  have served (hs : o.serviceOnly = true → s.page.service = .opened) : (o.serviceOnly && s.page.service != .opened) = false := by
    cases hb : o.serviceOnly with
    | false => rfl
    | true => rw [hs hb]; rfl
  unfold orderRefusal
  obtain ⟨hs, hv, rfl⟩ | ⟨hs, hm, rfl⟩ | ⟨hs, hm, rfl, p, hp, hq⟩ := h
  · rw [if_pos (by simp [hs, hv])]
  · rw [served hs, if_neg Bool.false_ne_true, if_pos (by rw [hm]; rfl)]
  · rw [served hs, if_neg Bool.false_ne_true, if_neg (by rw [hm]; exact Bool.false_ne_true), hp]
    exact if_pos hq

theorem orderRefusal_none {o : Order} {s : State} (hs : o.serviceOnly = true → s.page.service = .opened)
    (hm : o.acceptedIn s.cell.mode = true) (hq : ∀ p, o.queuePort = some p → (s.ports.get p).queue.length < 8) :
    orderRefusal o s = none := by
  have served : (o.serviceOnly && s.page.service != .opened) = false := by
    cases hb : o.serviceOnly with
    | false => rfl
    | true => rw [hs hb]; rfl
  unfold orderRefusal
  rw [served, if_neg Bool.false_ne_true, if_neg (by rw [hm]; exact Bool.false_ne_true)]
  cases hp : o.queuePort with
  | none => rfl
  | some p => exact if_neg (Nat.not_le.mpr (hq p hp))

section
variable {n : SlotNo} {bytes : List Byte} {s : State}

/-- A slot with the order read and its hand. -/
def Slot.ordered (o : Order) (hand : Byte) (x : Slot) : Slot := { x with takenHand := hand, offerPending := false, order := some o }

theorem storeOrder_eq (n : SlotNo) (o : Order) (hand : Byte) (s : State) : modSlot n (fun x => { x with order := some o })
      (modSlot n (fun x => { x with takenHand := hand, offerPending := false }) (Event.of s)) =
    Event.of { s with slots := putAt s.slots n ((s.slots.get n).ordered o hand) } := by
  unfold modSlot
  dsimp only
  rw [modAt_modAt]
  rfl

/-- A record that fails a test ends its slot REFUSED, the hand taken and no offer left (R39, R41). -/
theorem takeOrder_refused {r : Reason} {f : Nat} (h : judgeOrder bytes = .error (r, f) ∨
      ∃ o, judgeOrder bytes = .ok o ∧ f = 0 ∧ orderRefusal o s = some r) : ∃ x : Slot,
    x.takenHand = handOf 0x60 bytes ∧ x.offerPending = false ∧
    takeOrder n bytes (Event.of s) = finishSlot n .refused r f [] (Event.of { s with slots := putAt s.slots n x }) := by
  unfold takeOrder
  dsimp only
  obtain h | ⟨o, h, rfl, hr⟩ := h
  · rw [h]
    exact ⟨_, rfl, rfl, rfl⟩
  · rw [h]
    dsimp only
    have refused : ∀ x, orderRefusal o { s with slots := putAt s.slots n x } = some r := fun _ => hr
    rw [storeOrder_eq, of_state, refused]
    exact ⟨_, rfl, rfl, rfl⟩

/-- What an accepted order leaves: it stands in its slot and at the tail of its port's queue, and is handed over (R41, R43, R51). -/
structure OrderTaken (n : SlotNo) (o : Order) (hand : Byte) (s : State) (e : Event) : Prop where
  handed : e.handed = some n
  order : (e.slots.get n).order = some o
  hand : (e.slots.get n).takenHand = hand
  queue : ∀ p, (e.ports.get p).queue = (s.ports.get p).queue ++ (if o.queuePort = some p then [.order n] else [])
  queued : o.queuePort ≠ none → (e.slots.get n).state = .queued
  slots : ∀ k, k ≠ n → e.slots.get k = s.slots.get k
  areas : e.page.areas = s.page.areas
  untold : e.agenda = []

theorem joinQueue_eq (p : Port) (n : SlotNo) (e : Event) : ∃ count traffic touched, joinQueue p n e = { e with
    slots := modAt e.slots n fun x =>
      { x with state := .queued, reason := .none, field := 0, results := [], answerCount := count }
    ports := modAt e.ports p fun q => { q with queue := q.queue ++ [.order n] }
    traffic := traffic, touched := touched } := by
  obtain ⟨count, traffic, eq⟩ := writeAnswer_eq n
    (modSlot n (fun x => { x with state := .queued, reason := .none, field := 0, results := [] }) e)
  obtain ⟨touched, marked⟩ : ∃ touched, joinQueue p n e = { modPort p (fun q => { q with queue := q.queue ++ [.order n] })
      (writeAnswer n (modSlot n (fun x => { x with state := .queued, reason := .none, field := 0, results := [] }) e)) with
      touched := touched } := by
    unfold joinQueue touch
    dsimp only
    split
    · split <;> exact ⟨_, rfl⟩
    · exact ⟨_, rfl⟩
  refine ⟨count, traffic, touched, ?_⟩
  rw [marked, eq]
  unfold modPort modSlot
  dsimp only
  rw [modAt_modAt]

theorem takeOrder_taken {o : Order} (h : judgeOrder bytes = .ok o) (hr : orderRefusal o s = none) :
    OrderTaken n o (handOf 0x60 bytes) s (takeOrder n bytes (Event.of s)) := by
  obtain ⟨z, hz⟩ : ∃ z : State, z = { s with slots := putAt s.slots n ((s.slots.get n).ordered o (handOf 0x60 bytes)) } := ⟨_, rfl⟩
  have free : orderRefusal o z = none := by rw [hz]; exact hr
  have order : (z.slots.get n).order = some o := by
    rw [hz]
    exact congrArg Slot.order (get_putAt_self _ _ _)
  have hand : (z.slots.get n).takenHand = handOf 0x60 bytes := by
    rw [hz]
    exact congrArg Slot.takenHand (get_putAt_self _ _ _)
  have others : ∀ k, k ≠ n → z.slots.get k = s.slots.get k := fun k hk => by
    rw [hz]
    exact get_putAt_ne _ _ _ _ hk
  have ports : z.ports = s.ports := by rw [hz]
  have areas : z.page.areas = s.page.areas := by rw [hz]
  unfold takeOrder
  dsimp only
  rw [h]
  dsimp only
  rw [storeOrder_eq, ← hz, of_state, free]
  dsimp only
  clear hz
  cases hp : o.queuePort with
  | none =>
    exact {
      handed := rfl
      order := order
      hand := hand
      queue := fun p => by
        change (z.ports.get p).queue = _
        rw [ports, hp, if_neg (by simp), List.append_nil]
      queued := fun hne => absurd hp hne
      slots := others
      areas := areas
      untold := rfl }
  | some p =>
    obtain ⟨count, traffic, touched, eq⟩ := joinQueue_eq p n (Event.of z)
    dsimp only
    rw [eq]
    exact {
      handed := rfl
      order := (congrArg Slot.order (get_modAt_self _ _ _)).trans order
      hand := (congrArg Slot.takenHand (get_modAt_self _ _ _)).trans hand
      queue := fun q => by
        change ((modAt z.ports p fun q => { q with queue := q.queue ++ [.order n] }).get q).queue = _
        rw [hp, get_modAt, ports]
        by_cases hq : q = p
        · rw [if_pos hq, if_pos (by rw [hq]), hq]
        · rw [if_neg hq, if_neg (fun hs => hq (Option.some.inj hs).symm), List.append_nil]
      queued := fun _ => congrArg Slot.state (get_modAt_self _ _ _)
      slots := fun k hk => (get_modAt_ne _ _ _ _ hk).trans (others k hk)
      areas := areas
      untold := rfl }

/-- An order handed over holds the sweep back, with no read outstanding (R39, R43). -/
theorem afterRecord_handed {m : Nat} {e : Event} (hh : e.handed = some n) (ho : outstanding .orders e.toState = some m) :
    ∃ st, afterRecord .orders e = setArea .orders st e := by
  unfold afterRecord
  rw [hh]
  cases ha : areaState .orders e.toState with
  | idle | pending => simp [outstanding, ha] at ho
  | sweeping again k d => exact ⟨_, rfl⟩

end

/-- Settles O17: by whether the slot is busy, and then by the judgement of the record. -/
theorem orderJudged : Obligations.OrderJudged := by
  unfold Obligations.OrderJudged
  intro bytes m s h ht hh ho n hn hnew k hk
  subst hk
  have ordered (e : Event) (he : dealOrder n bytes (Event.of s) = e) : exec (.sweepRecordRead .orders
      ⟨readNumber (.area .orders) s, bytes⟩) s = .next (finish (afterRecord .orders e)).toState := by
    refine (act_live h).trans ?_
    rw [after, completes_recordRead ho, ← he, hn]
    rfl
  have swept {t : State} (ht : t.handed = none) (he : dealOrder n bytes (Event.of s) = Event.of t) :
      exec (.sweepRecordRead .orders ⟨readNumber (.area .orders) s, bytes⟩) s = .next (t.nextRead .orders) := by
    rw [ordered _ he, afterRecord_next ht, ← of_nextRead (by simp), finish_of]
  refine ⟨fun busy => swept hh ?_, fun hq hr => ⟨fun r f hj => ?_, fun o hj hs hm hroom => ?_⟩⟩
  · unfold dealOrder
    dsimp only
    rw [if_neg (by exact hnew), if_pos (by exact busy)]
    rfl
  all_goals
    have taken : dealOrder n bytes (Event.of s) = takeOrder n bytes (Event.of s) := by
      unfold dealOrder
      dsimp only
      rw [if_neg (by exact hnew), if_neg (by exact not_or.mpr ⟨hq, hr⟩)]
  · obtain ⟨x, hand, offer, refused⟩ := takeOrder_refused (n := n) (bytes := bytes) (s := s) (r := r) (f := f)
      (hj.imp_right fun ⟨o, ho, hf, tests⟩ => ⟨o, ho, hf, orderRefusal_of tests⟩)
    have answered := swept (t := State.finished n .refused r f [] { s with slots := putAt s.slots n x })
      (by rw [State.finished, finishSlot_held (by exact ht) n .refused r f [] rfl]; exact hh)
      (by rw [taken, refused, of_finished])
    obtain ⟨areas, reads, traffic, eq⟩ := nextRead_orders_eq (State.finished n .refused r f [] { s with slots := putAt s.slots n x })
    refine ⟨_, answered, ?_⟩
    rw [eq, State.finished, finishSlot_held (by exact ht) n .refused r f [] rfl]
    refine ⟨hh, ?_, ?_, ?_, ?_, rfl, rfl, fun k hne => (get_putAt_ne _ _ _ _ hne).trans (get_putAt_ne _ _ _ _ hne)⟩
    · exact congrArg Slot.state (get_putAt_self _ _ _)
    · exact (congrArg Slot.takenHand (get_putAt_self _ _ _)).trans ((congrArg Slot.takenHand (get_putAt_self _ _ _)).trans hand)
    · exact congrArg Slot.reason (get_putAt_self _ _ _)
    · exact congrArg Slot.field (get_putAt_self _ _ _)
  · have joined := takeOrder_taken (n := n) hj (orderRefusal_none hs hm hroom)
    obtain ⟨st, waits⟩ := afterRecord_handed (m := m) joined.handed (by
      rw [← ho]
      unfold outstanding areaState
      rw [joined.areas])
    have answered := ordered _ taken
    rw [waits] at answered
    have same : (finish (setArea .orders st (takeOrder n bytes (Event.of s)))).bare = (takeOrder n bytes (Event.of s)).bare :=
      bare_finish joined.untold
    have slots := slots_of_bare same
    refine ⟨_, answered, (congrArg State.handed same :).trans joined.handed, ?_, ?_, fun p => ?_, fun hp => ?_, fun k hne => ?_⟩
    · rw [slots]; exact joined.order
    · rw [slots]; exact joined.hand
    · obtain ⟨c, port⟩ := port_of_bare same p
      rw [port]
      exact joined.queue p
    · rw [slots]; exact joined.queued hp
    · rw [slots]; exact joined.slots k hne

end Sys2Proof.Machine

namespace Sys2Proof.Machine

section
variable {live : Bool} {pre : List Byte}

/-! ## The cable record (R9, R150, R151) -/

/-- An optional quantity is read as its presence flag and its value, which is zero where it is absent. -/
theorem optional_recovers (f n : Nat) {part : Read Nat} {P : Nat → Prop}
    (hp : ∀ l p, Recovers part l p fun v l' p' => (l' = l ∧ p' = putNum n v p) ∧ (l = false → v = 0) ∧ P v) :
    Recovers (optional f part) live pre fun x l p =>
      l = live ∧ (live = true → p = putOpt n x pre) ∧ ∀ v, x = some v → P v := by
  have marked : optional f part = (do
      let v ← ranged f 1 0 1
      let r ← get
      modify fun r' => { r' with live := r.live && v != 0 }
      let x ← part
      modify fun r' => { r' with live := r.live }
      pure (if v == 0 then none else some x)) := rfl
  rw [marked]
  refine (ranged_recovers f 1 0 1).bind fun v _ _ => .bind .get fun r _ _ => .bind (.setLive _) fun _ l _ =>
    (hp l _).bind fun x _ _ => .bind (.setLive r.live) fun _ _ _ => .pure ?_
  rintro ⟨rfl, rfl⟩ ⟨⟨rfl, rfl⟩, zero, holds⟩ ⟨rfl, rfl⟩ ⟨hr, rfl, rfl⟩ ⟨⟨rfl, rfl⟩, _, range⟩
  rw [hr] at zero ⊢
  refine ⟨rfl, fun hl => ?_, fun w hw => ?_⟩
  · have flag : v = 0 ∨ v = 1 := by have := range hl; omega
    obtain rfl | rfl := flag
    · rw [zero (by simp)]
      rfl
    · rfl
  · split at hw
    · cases hw
    · exact Option.some.inj hw ▸ holds

theorem ranged_optional (f n lo hi : Nat) : Recovers (optional f (ranged f n lo hi)) live pre fun x l p =>
    l = live ∧ (live = true → p = putOpt n x pre) :=
  (optional_recovers f n (P := fun _ => True) fun _ _ => (ranged_recovers f n lo hi).mono fun _ _ _ ⟨laid, zero, _⟩ =>
    ⟨laid, zero, trivial⟩).mono fun _ _ _ ⟨kept, laid, _⟩ => ⟨kept, laid⟩

theorem rawNum_optional (f n : Nat) : Recovers (optional f (rawNum n)) live pre fun x l p =>
    l = live ∧ (live = true → p = putOpt n x pre) ∧ ∀ v, x = some v → v < 256 ^ n :=
  optional_recovers f n fun _ _ => (rawNum_recovers n).mono fun _ _ _ ⟨laid, bound, zero⟩ => ⟨laid, zero, bound⟩

/-- The joint whose bytes are all zero. -/
def Joint.zero : Joint := { position := 0, kind := .connector }

theorem readJoint_recovers : Recovers readJoint live pre fun x l p =>
    l = live ∧ p = putJoint (if live then x else Joint.zero) pre := by
  refine (ranged_recovers 5 2 0 20000).bind fun position _ _ => (ranged_recovers 5 1 0 3).bind fun k l _ => .pure ?_
  rintro ⟨⟨rfl, rfl⟩, k0, hk⟩ ⟨⟨rfl, rfl⟩, p0, _⟩
  refine ⟨rfl, ?_⟩
  cases l with
  | true =>
    have kinds : k = 0 ∨ k = 1 ∨ k = 2 ∨ k = 3 := by have := hk rfl; omega
    obtain rfl | rfl | rfl | rfl := kinds <;> rfl
  | false => rw [k0 rfl, p0 rfl]; rfl

theorem readBaseEcho_recovers : Recovers readBaseEcho live pre fun x l p =>
    l = live ∧ p = putEcho (if live then x else Echo.zero) pre := by
  refine (ranged_recovers 6 2 8 8191).bind fun ticks _ _ => (ranged_recovers 6 1 0 1).bind fun pol _ _ =>
    (ranged_recovers 6 1 1 255).bind fun amplitude l _ => .pure ?_
  rintro ⟨⟨rfl, rfl⟩, a0, _⟩ ⟨⟨rfl, rfl⟩, p0, hp⟩ ⟨⟨rfl, rfl⟩, t0, _⟩
  refine ⟨rfl, ?_⟩
  cases l with
  | true =>
    have signs : pol = 0 ∨ pol = 1 := by have := hp rfl; omega
    obtain rfl | rfl := signs <;> rfl
  | false => rw [a0 rfl, p0 rfl, t0 rfl]; rfl

/-- The fields of a cable record one behind the other, as CABLE_SAVE lays them out (R152). -/
def CableRec.fields (c : CableRec) : List Byte :=
  putOpt 8 (c.learnTime.map (·.toNat)) (putOpt 4 (c.serial.map (·.toNat)) (putNum 1 (flagCode c.powered)
    (putList 8 Echo.zero putEcho c.baseline (putList 6 Joint.zero putJoint c.joints
      (putOpt 2 c.loop (putOpt 2 c.velocity (putOpt 2 c.length (putNum 1 c.state.code []))))))))

/-- The saved record is its fields in 125 bytes, their check, and a hand of 0 (R152). -/
theorem CableRec.bytes_eq (c : CableRec) :
    c.bytes = fit 0x7D c.fields ++ leBytes 2 (crc16 (fit 0x7D c.fields)).toNat ++ [0] := rfl

/-- A quantity that fits a word of w bits is the word's. -/
theorem toNat_ofNat_of_some {w : Nat} {x : Option Nat} (h : ∀ v, x = some v → v < 2 ^ w) :
    (x.map (BitVec.ofNat w)).map (·.toNat) = x := by
  cases x with
  | none => rfl
  | some v => simp [Nat.mod_eq_of_lt (h v rfl)]

/-- A cable record read without an error is laid out as the bytes it was read from (R9, R150). -/
theorem readCable_recovers : Recovers readCable true [] fun c _ p => p = c.fields := by
  refine (ranged_recovers 1 1 0 2).bind fun st _ _ => (ranged_optional 2 2 1 20000).bind fun length _ _ =>
    (demand_recovers 2 _).bind fun _ _ _ => (ranged_optional 3 2 500 990).bind fun velocity _ _ =>
    (demand_recovers 3 _).bind fun _ _ _ => (ranged_optional 4 2 0 10000).bind fun loop _ _ =>
    (demand_recovers 4 _).bind fun _ _ _ => (listOf_recovers 5 6 fun _ _ => readJoint_recovers).bind fun joints _ _ =>
    (demand_recovers 5 _).bind fun _ _ _ => (demand_recovers 5 _).bind fun _ _ _ => (demand_recovers 5 _).bind fun _ _ _ =>
    (demand_recovers 5 _).bind fun _ _ _ => (listOf_recovers 6 8 fun _ _ => readBaseEcho_recovers).bind fun baseline _ _ =>
    (demand_recovers 6 _).bind fun _ _ _ => (demand_recovers 6 _).bind fun _ _ _ => (demand_recovers 1 _).bind fun _ _ _ =>
    (demand_recovers 1 _).bind fun _ _ _ => (flagField_recovers 7).bind fun powered _ _ => (demand_recovers 7 _).bind fun _ _ _ =>
    (demand_recovers 7 _).bind fun _ _ _ => (rawNum_optional 8 4).bind fun serial _ _ => (demand_recovers 8 _).bind fun _ _ _ =>
    (rawNum_optional 9 8).bind fun learnTime _ _ => (demand_recovers 9 _).bind fun _ _ _ => .pure ?_
  rintro ⟨⟨rfl, rfl⟩, _⟩ ⟨rfl, hlearn, learns⟩ ⟨⟨rfl, rfl⟩, _⟩ ⟨rfl, hserial, serials⟩ ⟨⟨rfl, rfl⟩, _⟩ ⟨⟨rfl, rfl⟩, _⟩ ⟨rfl, hpowered⟩
    ⟨⟨rfl, rfl⟩, _⟩ ⟨⟨rfl, rfl⟩, _⟩ ⟨⟨rfl, rfl⟩, _⟩ ⟨⟨rfl, rfl⟩, _⟩ ⟨rfl, hbaseline⟩ ⟨⟨rfl, rfl⟩, _⟩ ⟨⟨rfl, rfl⟩, _⟩ ⟨⟨rfl, rfl⟩, _⟩
    ⟨⟨rfl, rfl⟩, _⟩ ⟨rfl, hjoints⟩ ⟨⟨rfl, rfl⟩, _⟩ ⟨rfl, hloop⟩ ⟨⟨rfl, rfl⟩, _⟩ ⟨rfl, hvelocity⟩ ⟨⟨rfl, rfl⟩, _⟩ ⟨rfl, hlength⟩
    ⟨⟨rfl, rfl⟩, _, hst⟩
  rw [CableRec.fields, hlearn rfl, hserial rfl, hpowered rfl, hbaseline rfl, hjoints rfl, hloop rfl, hvelocity rfl, hlength rfl]
  dsimp only
  rw [toNat_ofNat_of_some learns, toNat_ofNat_of_some serials]
  have states : st = 0 ∨ st = 1 ∨ st = 2 := by have := hst rfl; omega
  obtain rfl | rfl | rfl := states <;> rfl

end

/-! ## A saved record loads again (R50, R151, R152) -/

/-- A record whose check passes is judged by its body alone (R8). -/
theorem judge_of_body {α : Type} {k : Nat} {bytes bytes' : List Byte} {reader : Read α} {x : α} (h : judge k bytes reader = .ok x)
    (body : bytes'.take k = bytes.take k) (check : (crc16 (bytes'.take k)).toNat = leNat ((bytes'.drop k).take 2)) :
    judge k bytes' reader = .ok x := by
  have passed := (judge_ok h).1
  unfold judge at h ⊢
  dsimp only at h ⊢
  rw [if_neg (not_not.mpr passed)] at h
  rw [if_neg (not_not.mpr check), body]
  exact h

theorem length_fit (n : Nat) (bs : List Byte) : (fit n bs).length = n := by simp [fit]; omega

/-- Settles O53: the bytes judged are the saved ones, as far as the check goes. -/
theorem savedCableReloads : Obligations.SavedCableReloads := by
  unfold Obligations.SavedCableReloads
  intro bytes c hj
  obtain ⟨-, r, run, ok, zeros⟩ := judge_ok hj
  obtain ⟨l, pre, laid, at_⟩ := readCable_recovers.lays ((fit 0x80 bytes).take 0x7D)
    { pos := 0, rest := (fit 0x80 bytes).take 0x7D, sparesOk := true, bad := none, live := true }
    ⟨rfl, rfl, fun _ h => absurd h (Nat.not_lt_zero _), rfl⟩ (by rw [run]; exact ok)
  rw [run] at laid at_
  have whole := at_.fit_eq zeros
  rw [List.length_take, length_fit, laid] at whole
  have body : (fit 0x7D c.fields).length = 0x7D := length_fit _ _
  have long : c.bytes.length = 0x80 := by rw [CableRec.bytes_eq, List.length_append, List.length_append, body]; rfl
  have front : c.bytes.take 0x7D = fit 0x7D c.fields := by
    rw [CableRec.bytes_eq, List.append_assoc]
    exact List.take_left' body
  have back : c.bytes.drop 0x7D = leBytes 2 (crc16 (fit 0x7D c.fields)).toNat ++ [0] := by
    rw [CableRec.bytes_eq, List.append_assoc]
    exact List.drop_left' body
  refine ⟨long, ?_, ?_⟩
  · have last : c.bytes.drop 0x7F = (c.bytes.drop 0x7D).drop 2 := by rw [List.drop_drop]
    rw [handOf, last, back]
    rfl
  · have check : (crc16 (c.bytes.take 0x7D)).toNat = leNat ((c.bytes.drop 0x7D).take 2) := by
      rw [front, back]
      calc (crc16 (fit 0x7D c.fields)).toNat
          _ = (crc16 (fit 0x7D c.fields)).toNat % 256 ^ 2 := (Nat.mod_eq_of_lt (crc16 (fit 0x7D c.fields)).isLt).symm
          _ = _ := (leNat_leBytes 2 _).symm
    rw [judgeCable, fit_length long]
    exact judge_of_body hj (front.trans whole) check

end Sys2Proof.Machine

namespace Sys2Proof.Machine

/-! ## An event that marks one port (R28, R52) -/

/-- The event of state s that has told these tasks and marked port p. -/
def Event.marking (p : Port) (ts : List Task) (s : State) : Event := { toState := s, agenda := ts, touched := [p] }

/-- It ends with p's report, once its tasks find nothing to do. -/
theorem finish_marking {p : Port} {ts : List Task} {s : State}
    (h : ∀ t ∈ ts, ∀ x : Event, x.toState = s → perform t x = x) :
    (finish (.marking p ts s)).toState = s.reported [p] := by
  have worked : drain agendaBound (.marking p ts s) = .marking p [] s := drain_idle h agendaBound
  have same : finish (.marking p ts s) = finish (.marking p [] s) := by
    rw [finish, finish, worked, drain_empty rfl]
    rfl
  rw [same, finish_marked rfl]
  exact congrArg s.reported (filter_contains_single p)

/-- The head of an empty queue finds nothing to do. -/
theorem finish_marking_begin {p : Port} {s : State} (h : (s.ports.get p).queue = []) :
    (finish (.marking p [.begin p] s)).toState = s.reported [p] :=
  finish_marking fun t ht x hx => by
    rw [List.mem_singleton.mp ht]
    exact perform_begin_idle (by rw [Event.port, hx]; exact h)

section
variable {p : Port} {ts : List Task} {s : State}

theorem modPort_marking (f : PortState → PortState) :
    modPort p f (.marking p ts s) = .marking p ts { s with ports := modAt s.ports p f } := rfl

theorem touch_marking : touch p (.marking p ts s) = .marking p ts s := if_pos (List.mem_singleton_self p)

/-- A port without a probe moves to a power state, behind another change of its record. -/
theorem setPower_modPort_marking {f : PortState → PortState} (h : (f (s.ports.get p)).probe = none) (st : PowerState) :
    setPower p st (modPort p f (.marking p ts s)) = .marking p ts { s with
      ports := modAt s.ports p fun q => { f q with power := { (f q).power with state := st } } } := by
  have there : (modPort p f (.marking p ts s)).port p = f (s.ports.get p) := get_modAt_self _ _ _
  have moved : modPower p (fun w => { w with state := st }) (modPort p f (.marking p ts s)) = .marking p ts { s with
      ports := modAt s.ports p fun q => { f q with power := { (f q).power with state := st } } } :=
    modPort_modPort p _ f _
  unfold setPower
  split
  · next same =>
    rw [← moved]
    exact (modPort_self (by rw [← same])).symm
  · rw [moved, touch_marking, tellProbe_none]
    exact (congrArg PortState.probe (get_modAt_self _ _ _)).trans h

/-- The order at the head of p's queue ends (R52). -/
theorem endOrder_marked (n : SlotNo) (st : SlotState) (why : Reason) (results : List Byte) (s : State) :
    endOrder p n st why results (Event.of s) = .marking p [.begin p] { s.finished n st why 0 results with
      ports := modAt (s.finished n st why 0 results).ports p fun q => { q with queue := q.queue.tail } } := by
  rw [endOrder, ← of_finished, removeHead, touch_first rfl]
  rfl

end

/-! ## What a writing leaves (R12, R40) -/

/-- A slot's final state reads neither the ports nor the budget. -/
theorem finished_with (n : SlotNo) (st : SlotState) (why : Reason) (field : Nat) (results : List Byte) (s : State)
    (ports : Vector PortState 8) (budget : Budget) : State.finished n st why field results { s with ports := ports, budget := budget } =
      { s.finished n st why field results with ports := ports, budget := budget } := by
  unfold State.finished
  by_cases h : s.page.taken = .held
  · rw [finishSlot_held (by exact h) n st why field results rfl, finishSlot_held (by exact h) n st why field results rfl]
    rfl
  · rw [finishSlot_absent (by exact h), finishSlot_absent (by exact h)]
    rfl

theorem finished_budget (n : SlotNo) (st : SlotState) (r : Reason) (field : Nat) (results : List Byte) (s : State) :
    (s.finished n st r field results).budget = s.budget := by
  obtain ⟨slots, page, traffic, eq⟩ := finishSlot_eq n st r field results (Event.of s)
  rw [State.finished, eq]
  rfl

theorem finished_with_ports (n : SlotNo) (st : SlotState) (why : Reason) (field : Nat) (results : List Byte) (s : State)
    (ports : Vector PortState 8) : State.finished n st why field results { s with ports := ports } =
      { s.finished n st why field results with ports := ports } :=
  (finished_with n st why field results s ports s.budget).trans (by rw [← finished_budget n st why field results s])

theorem finished_with_budget (n : SlotNo) (st : SlotState) (why : Reason) (field : Nat) (results : List Byte) (s : State)
    (budget : Budget) : State.finished n st why field results { s with budget := budget } =
      { s.finished n st why field results with budget := budget } :=
  (finished_with n st why field results s s.ports budget).trans (by rw [← finished_ports n st why field results s])

theorem modAt_congr {α : Type} {n : Nat} {v : Vector α n} {i : Fin n} {f g : α → α} (h : f (v.get i) = g (v.get i)) :
    modAt v i f = modAt v i g :=
  vector_ext_get fun j => by
    rw [get_modAt, get_modAt]
    split
    · exact h
    · rfl

/-- The order alone in p's queue ends, behind another change of its record: the queue is empty (R52). -/
theorem endOrder_alone {p : Port} {n : SlotNo} {f : PortState → PortState} {s : State} (hq : (f (s.ports.get p)).queue = [.order n])
    (st : SlotState) (why : Reason) (results : List Byte) : endOrder p n st why results (modPort p f (Event.of s)) =
      .marking p [.begin p] (State.finished n st why 0 results { s with
        ports := modAt s.ports p fun q => { f q with queue := [] } }) := by
  obtain ⟨ports, hports⟩ : ∃ ports, ports = modAt s.ports p f := ⟨_, rfl⟩
  have changed : modPort p f (Event.of s) = Event.of { s with ports := ports } := by
    rw [hports]
    rfl
  have emptied : modAt ports p (fun q => { q with queue := q.queue.tail }) = modAt s.ports p fun q => { f q with queue := [] } := by
    rw [hports, modAt_modAt]
    exact modAt_congr (by rw [hq]; rfl)
  rw [changed, endOrder_marked, finished_ports, emptied]
  exact congrArg (Event.marking p [.begin p]) (finished_with_ports _ _ _ _ _ { s with ports := ports } _).symm

/-- An ORDERS sweep that goes on reads neither the ports nor the budget. -/
theorem carried_with (s : State) (ports : Vector PortState 8) (budget : Budget) :
    State.carried { s with ports := ports, budget := budget } = { s.carried with ports := ports, budget := budget } := by
  unfold State.carried State.nextRead
  cases h : areaState .orders s with
  | idle => rw [nextRecord_resting (.inl (by exact h)), nextRecord_resting (.inl (by exact h))]; rfl
  | pending => rw [nextRecord_resting (.inr (by exact h)), nextRecord_resting (.inr (by exact h))]; rfl
  | sweeping again n d =>
    by_cases hn : n + 1 < areaCount .orders s
    · rw [nextRecord_more (by exact h) (by exact hn), nextRecord_more (by exact h) (by exact hn)]; rfl
    · have last := Nat.le_of_not_lt hn
      rw [nextRecord_last (by exact h) (by exact last), nextRecord_last (by exact h) (by exact last)]; rfl

theorem carried_budget (s : State) : s.carried.budget = s.budget := by
  obtain ⟨areas, reads, traffic, eq⟩ := carried_eq s
  rw [eq]

/-- A slot that becomes RUNNING changes alone. -/
theorem ran_eq (n : SlotNo) (s : State) : ∃ slots traffic, s.ran n = { s with slots := slots, traffic := traffic } ∧
    (slots.get n).state = .running := by
  obtain ⟨count, traffic, eq⟩ := writeAnswer_eq n (modSlot n (fun x => { x with state := .running }) (Event.of s))
  rw [State.ran, runSlot, eq]
  refine ⟨_, _, rfl, ?_⟩
  rw [get_modAt_self]
  exact congrArg Slot.state (get_modAt_self _ _ _)

/-! ## CYCLE at its beginning (R57) -/

section
variable {n : SlotNo} {p : Port} {s : State}

/-- An order of a queue that is handed over at the head of it: it is RUNNING and begins, its port marked (R52). -/
theorem beginHead_of {o : Order} (ho : handedOrder n s = some o) (hq : (s.ports.get p).queue = [.order n])
    (hs : (s.slots.get n).state = .queued) : beginHead p (Event.of s) = beginOrder p n o (Event.of s) :=
  beginHead_order hq hs (order_of_handed ho)

theorem touch_ran (n : SlotNo) (p : Port) (s : State) : touch p (runSlot n (Event.of s)) = .marking p [] (s.ran n) := by
  rw [← of_ran, touch_first rfl]
  rfl

theorem act_cycle (h : live s = true) (ho : handedOrder n s = some (.cycle p)) (hq : (s.ports.get p).queue = [.order n])
    (hs : (s.slots.get n).state = .queued) :
    exec (.cycle n) s = .next (finish (carriedOn (beginCycle p n (.marking p [] (s.ran n))))).toState := by
  refine (act_live h).trans ?_
  rw [after, of_state, ho, ← touch_ran]
  exact congrArg (fun e => Host.Outcome.next (finish (carriedOn e)).toState) (beginHead_of ho hq hs)

/-- A CYCLE whose beginning tells nothing. -/
theorem act_cycle_marking (h : live s = true) (ho : handedOrder n s = some (.cycle p)) (hq : (s.ports.get p).queue = [.order n])
    (hs : (s.slots.get n).state = .queued) {ports : Vector PortState 8} {budget : Budget}
    (hc : beginCycle p n (.marking p [] (s.ran n)) = .marking p [] { s.ran n with ports := ports, budget := budget }) :
    exec (.cycle n) s = .next (State.reported [p] { (s.ran n).carried with ports := ports, budget := budget }) := by
  rw [act_cycle h ho hq hs, hc, carriedOn_eq, ← carried_with]
  exact congrArg Host.Outcome.next (finish_marking (fun _ ht => by cases ht))

/-- The record of a CYCLE is kept, and the power found decides what else happens. -/
theorem beginCycle_marking (hp : (s.ports.get p).probe = none) {run : CycleRun}
    (hr : run = { slot := n, found := (s.ports.get p).power.state, holdEnd := s.clock + 500000 }) :
    ((s.ports.get p).power.state = .off ∨ (s.ports.get p).power.state = .held ∨ (s.ports.get p).power.state = .lockedOut →
      beginCycle p n (.marking p [] s) = .marking p [] { s with ports := modAt s.ports p fun q => { q with cycle := some run } }) ∧
    ((s.ports.get p).power.state = .waiting → beginCycle p n (.marking p [] s) = .marking p [] { s with
      ports := modAt s.ports p fun q => { q with cycle := some run, power := { q.power with state := .off } }
      budget := { s.budget with
        waitList := s.budget.waitList.filter fun c => !(c.port == p && c.kind == .powerUp) } }) ∧
    ((s.ports.get p).power.state = .retryWait → beginCycle p n (.marking p [] s) = .marking p [] { s with
      ports := modAt s.ports p fun q => { q with
        cycle := some run, power := { q.power with state := .off, retryAt := none, retryEnded := false } } }) := by
  have found : ((Event.marking p [] s).port p).power.state = (s.ports.get p).power.state := rfl
  unfold beginCycle
  dsimp only
  rw [found]
  refine ⟨fun hs => ?_, fun hs => ?_, fun hs => ?_⟩
  · obtain hs | hs | hs := hs <;> rw [hs] at hr ⊢ <;> subst hr <;> rfl
  · rw [hs] at hr ⊢
    subst hr
    exact setPower_modPort_marking (s := { s with budget := { s.budget with
      waitList := s.budget.waitList.filter fun c => !(c.port == p && c.kind == .powerUp) } }) (by exact hp) .off
  · rw [hs] at hr ⊢
    subst hr
    refine (congrArg (setPower p .off) (modPort_modPort p _ _ _)).trans ?_
    exact setPower_modPort_marking (by exact hp) .off

/-- A CYCLE of a powered port: what is left when its power is removed. -/
theorem beginCycle_powered (hb : s.budget.waitList = []) (hp : (s.ports.get p).probe = none) (hw : (s.ports.get p).sweep = none)
    (hs : (s.ports.get p).power.state.powered = true) {run : CycleRun}
    (hr : run = { slot := n, found := (s.ports.get p).power.state, holdEnd := s.clock + 500000 }) : ∃ y : Event,
    beginCycle p n (.marking p [] s) = y ∧
    Removed p .off (.marking p [] { s with ports := modAt s.ports p fun q => { q with cycle := some run } }) y := by
  obtain ⟨x, hx⟩ : ∃ x, x = Event.marking p [] { s with ports := modAt s.ports p fun q => { q with cycle := some run } } := ⟨_, rfl⟩
  have port : x.port p = { s.ports.get p with cycle := some run } := by rw [hx]; exact get_modAt_self _ _ _
  have waits : x.budget.waitList = [] := by rw [hx]; exact hb
  have removed := removed_lensSevered waits (by rw [port]; exact hp) (by rw [port]; exact hw) .off
  rw [← removePower_cycle waits] at removed
  refine ⟨_, (if_pos hs).trans ?_, hx ▸ removed⟩
  rw [hr]
  rfl

/-- The end of an order's event that tells of a gap alone, on a port without a STAGED lens or a probe. -/
theorem bare_finish_carried {y : Event} (hl : (y.port p).lens.state ≠ .staged) (hp : (y.port p).probe = none)
    (ha : ∀ t ∈ y.agenda, t = .gap p) : (finish (carriedOn y)).bare = { y.bare with handed := none } := by
  have port : (carriedOn y).port p = y.port p := by
    obtain ⟨areas, reads, traffic, eq⟩ := carried_eq y.toState
    rw [carriedOn_eq, eq]
    rfl
  have drained := drain_gaps (e := carriedOn y) (port ▸ hl) (port ▸ hp) (by rw [carriedOn_eq]; exact ha) agendaBound
  rw [bare_finish_of_drain drained]
  exact bare_carriedOn y

/-- CYCLE begins on a powered port: it is OFF, its link DARK and its slot RUNNING (R57, R78). -/
theorem act_cycle_powered (h : live s = true) (ho : handedOrder n s = some (.cycle p)) (hq : (s.ports.get p).queue = [.order n])
    (hs : (s.slots.get n).state = .queued) (hp : (s.ports.get p).probe = none) (hw : (s.ports.get p).sweep = none)
    (hb : s.budget.waitList = []) (hpow : (s.ports.get p).power.state.powered = true) {run : CycleRun}
    (hr : run = { slot := n, found := (s.ports.get p).power.state, holdEnd := s.clock + 500000 }) : ∃ t,
    exec (.cycle n) s = .next t ∧ (t.slots.get n).state = .running ∧ (t.ports.get p).cycle = some run ∧
    (t.ports.get p).power = { (s.ports.get p).power.cut with state := .off } ∧ (t.ports.get p).link.state = .dark ∧
    ∀ q, q ≠ p → (t.ports.get q).power = (s.ports.get q).power := by
  obtain ⟨slots, traffic, ran, running⟩ := ran_eq n s
  obtain ⟨y, begun, removed⟩ := beginCycle_powered (n := n) (s := s.ran n) (by rw [ran]; exact hb) (by rw [ran]; exact hp)
    (by rw [ran]; exact hw) (by rw [ran]; exact hpow) (run := run) (by rw [ran]; exact hr)
  obtain ⟨x, hx⟩ : ∃ x, x = Event.marking p [] { s.ran n with
    ports := modAt (s.ran n).ports p fun q => { q with cycle := some run } } := ⟨_, rfl⟩
  rw [← hx] at removed
  have mine : x.port p = { s.ports.get p with cycle := some run } := by
    rw [hx, ran]
    exact get_modAt_self _ _ _
  have other : ∀ q, q ≠ p → x.port q = s.ports.get q := fun q hq => by
    rw [hx, ran]
    exact get_modAt_ne _ _ _ _ hq
  have bare := bare_finish_carried (y := y) (by rw [removed.lens]; decide)
    ((removed.spared.probe p).trans (by rw [mine]; exact hp))
    (fun t ht => (removed.spared.tells t ht).resolve_left (by rw [hx]; exact List.not_mem_nil))
  have port : ∀ q, ∃ c, (finish (carriedOn y)).ports.get q = { y.port q with reportCount := c } := fun q =>
    port_of_bare (t := { y.toState with handed := none }) bare q
  obtain ⟨c, reported⟩ := port p
  refine ⟨_, by rw [act_cycle h ho hq hs, begun], ?_, ?_, ?_, ?_, fun q hq => ?_⟩
  · have kept : (finish (carriedOn y)).slots = slots := by
      rw [slots_of_bare (t := { y.toState with handed := none }) bare]
      exact removed.spared.slots.trans (by rw [hx, ran]; rfl)
    rw [kept]
    exact running
  · have cycles : (y.port p).cycle = (x.port p).cycle := congrArg (fun r => (r p).2.1) removed.spared.runs
    rw [reported]
    exact cycles.trans (by rw [mine])
  · rw [reported]
    exact removed.power.trans (by rw [mine])
  · rw [reported]
    exact removed.link
  · obtain ⟨c', reported'⟩ := port q
    rw [reported']
    exact (removed.others q hq).trans (by rw [other q hq])

/-- CYCLE begins on a port that is not powered. -/
theorem act_cycle_unpowered (h : live s = true) (ho : handedOrder n s = some (.cycle p)) (hq : (s.ports.get p).queue = [.order n])
    (hs : (s.slots.get n).state = .queued) (hp : (s.ports.get p).probe = none) {run : CycleRun}
    (hr : run = { slot := n, found := (s.ports.get p).power.state, holdEnd := s.clock + 500000 }) :
    ((s.ports.get p).power.state = .off ∨ (s.ports.get p).power.state = .held ∨ (s.ports.get p).power.state = .lockedOut →
      exec (.cycle n) s = .next (State.reported [p] { (s.ran n).carried with
        ports := modAt s.ports p fun q => { q with cycle := some run } })) ∧
    ((s.ports.get p).power.state = .waiting →
      exec (.cycle n) s = .next (State.reported [p] { (s.ran n).carried with
        ports := modAt s.ports p fun q => { q with cycle := some run, power := { q.power with state := .off } }
        budget := { s.budget with
          waitList := s.budget.waitList.filter fun c => !(c.port == p && c.kind == .powerUp) } })) ∧
    ((s.ports.get p).power.state = .retryWait →
      exec (.cycle n) s = .next (State.reported [p] { (s.ran n).carried with
        ports := modAt s.ports p fun q => { q with
          cycle := some run, power := { q.power with state := .off, retryAt := none, retryEnded := false } } })) := by
  obtain ⟨slots, traffic, ran, -⟩ := ran_eq n s
  obtain ⟨resting, waiting, retrying⟩ := beginCycle_marking (n := n) (s := s.ran n) (p := p) (by rw [ran]; exact hp) (run := run)
    (by rw [ran]; exact hr)
  have budget : (s.ran n).carried.budget = s.budget := (carried_budget _).trans (by rw [ran])
  have begins {ports : Vector PortState 8} {b : Budget}
      (hc : beginCycle p n (.marking p [] (s.ran n)) = .marking p [] { s.ran n with ports := ports, budget := b }) :=
    act_cycle_marking h ho hq hs hc
  refine ⟨fun hx => ?_, fun hx => ?_, fun hx => ?_⟩
  · refine (begins (ports := modAt s.ports p fun q => { q with cycle := some run }) (b := s.budget) ?_).trans (by rw [← budget])
    rw [resting (by rw [ran]; exact hx), ran]
  · refine begins ?_
    rw [waiting (by rw [ran]; exact hx), ran]
  · refine (begins (b := s.budget) ?_).trans (by rw [← budget])
    rw [retrying (by rw [ran]; exact hx), ran]

end

/-! ## CYCLE_HOLD_END (R57) -/

section
variable {p : Port} {c : CycleRun} {s : State}

/-- The state in which the CYCLE alone in p's queue has ended: its port is changed by f and its queue is empty. -/
@[irreducible] def cycleEnded (p : Port) (c : CycleRun) (f : PortState → PortState) (b : Budget) (s : State) : State :=
  State.finished c.slot .done .none 0 [BitVec.ofNat 8 c.found.code] { s with
    ports := modAt s.ports p fun q => f { q with cycle := none, queue := [] }
    budget := b }

theorem cycleEnded_ports (f : PortState → PortState) (b : Budget) : (cycleEnded p c f b s).ports =
    modAt s.ports p fun q => f { q with cycle := none, queue := [] } := by
  unfold cycleEnded
  exact finished_ports _ _ _ _ _ _

theorem cycleEnded_port (f : PortState → PortState) (b : Budget) : (cycleEnded p c f b s).ports.get p =
    f { s.ports.get p with cycle := none, queue := [] } := by
  rw [cycleEnded_ports, get_modAt_self]

theorem cycleEnded_budget (f : PortState → PortState) (b : Budget) : (cycleEnded p c f b s).budget = b := by
  unfold cycleEnded
  exact finished_budget _ _ _ _ _ _

theorem cycleEnded_modPort (f g : PortState → PortState) (b : Budget) : { cycleEnded p c f b s with
    ports := modAt (cycleEnded p c f b s).ports p g } = cycleEnded p c (fun q => g (f q)) b s := by
  rw [cycleEnded_ports, modAt_modAt, cycleEnded, cycleEnded, ← finished_with_ports]

theorem cycleEnded_modBudget (f : PortState → PortState) (b b' : Budget) : { cycleEnded p c f b s with budget := b' } =
    cycleEnded p c f b' s := by
  rw [cycleEnded, cycleEnded, ← finished_with_budget]

/-- The order's end (R52, R57). -/
theorem endOrder_cycle (hq : (s.ports.get p).queue = [.order c.slot]) : endOrder p c.slot .done .none (cycleResults c.found)
    (modPort p (fun q => { q with cycle := none }) (Event.of s)) = .marking p [.begin p] (cycleEnded p c id s.budget s) := by
  unfold cycleEnded
  exact endOrder_alone (f := fun q => { q with cycle := none }) hq _ _ _

theorem act_cycleHoldEnd (h : live s = true) (hc : (s.ports.get p).cycle = some c) (hd : c.holdEnd ≤ s.clock) :
    exec (.cycleHoldEnd p) s = .next (finish (endCycle p .done .none (Event.of s))).toState := by
  refine (act_live h).trans ?_
  have cycle : ((Event.of s).port p).cycle = some c := hc
  rw [after, cycle]
  exact congrArg (fun e => Host.Outcome.next (finish e).toState) (if_pos (by exact hd))

/-- The hold ends and the OFF port acts on its want. -/
theorem endCycle_eq (hc : (s.ports.get p).cycle = some c) (hq : (s.ports.get p).queue = [.order c.slot]) :
    endCycle p .done .none (Event.of s) =
      if (s.ports.get p).power.state = .off then actOnWant p (.marking p [.begin p] (cycleEnded p c id s.budget s))
      else .marking p [.begin p] (cycleEnded p c id s.budget s) := by
  have cycle : ((Event.of s).port p).cycle = some c := hc
  have power : ((Event.marking p [.begin p] (cycleEnded p c id s.budget s)).port p).power = (s.ports.get p).power :=
    (congrArg PortState.power (cycleEnded_port (p := p) (c := c) (s := s) id s.budget) :)
  unfold endCycle
  rw [cycle]
  dsimp only
  rw [endOrder_cycle hq, power]

/-- What a hold's end reports, once its port has acted on its want. -/
theorem finish_cycleEnded {f : PortState → PortState} (hf : ∀ q, (f q).queue = q.queue) (b : Budget) :
    (finish (.marking p [.begin p] (cycleEnded p c f b s))).toState = (cycleEnded p c f b s).reported [p] :=
  finish_marking_begin (by rw [cycleEnded_port, hf])

/-! ### The power-up of the port that was held (R62, R63, R65 to R67) -/

/-- A claim that arrives alone is granted if it fits. -/
theorem arrive_alone {d : PowerClaim} {e : Event} (hb : e.budget.waitList = []) (hd : d.amount ≤ room e.toState) :
    arrive d e = grant d e := by
  have untouched : { e with budget := { e.budget with waitList := [] } } = e := by rw [← hb]
  have alone : ({ e with budget := { e.budget with waitList := e.budget.waitList ++ [d] } } : Event).budget.waitList = [d] := by
    rw [hb]
    rfl
  have fits : firstFit (room e.toState) [d] = some (d, []) := if_pos hd
  unfold arrive walk
  rw [if_neg (by simp [claimWaits, hb]), alone]
  change walkUpTo (0 + 1) _ = _
  rw [walkUpTo, alone]
  change (match firstFit (room e.toState) [d] with
    | none => _
    | some (c, rest) => walkUpTo 0 (grant c { e with budget := { e.budget with waitList := rest } })) = _
  rw [fits]
  dsimp only
  rw [untouched]
  rfl

/-- What is allotted does not move with a port's power state, its CYCLE or its queue. -/
theorem room_cycleEnded {f : PortState → PortState} (hf : ∀ q, (f q).power.held = q.power.held) : room (cycleEnded p c f s.budget s) =
    room s := by
  have held : ∀ q, ((cycleEnded p c f s.budget s).ports.get q).power.held = (s.ports.get q).power.held := fun q => by
    rw [cycleEnded_ports, get_modAt]
    split
    · next same => subst same; exact hf _
    · rfl
  rw [room, room, cycleEnded_budget, allotted_eq_sum, allotted_eq_sum, Finset.sum_congr rfl fun q _ => held q]

theorem setPower_cycleEnded {f : PortState → PortState} {b : Budget} (h : (f { s.ports.get p with cycle := none, queue := [] }).probe = none)
    (st : PowerState) : setPower p st (.marking p [.begin p] (cycleEnded p c f b s)) = .marking p [.begin p]
      (cycleEnded p c (fun q => { f q with power := { (f q).power with state := st } }) b s) := by
  have moved := setPower_modPort_marking (f := id) (ts := [.begin p]) (s := cycleEnded p c f b s) (by rw [cycleEnded_port]; exact h) st
  have still : modPort p id (.marking p [.begin p] (cycleEnded p c f b s)) = .marking p [.begin p] (cycleEnded p c f b s) :=
    modPort_self rfl
  rw [still] at moved
  rw [moved]
  exact congrArg (Event.marking p [.begin p]) (cycleEnded_modPort f (fun q => { q with power := { q.power with state := st } }) b)

theorem cycleEnded_cell (f : PortState → PortState) (b : Budget) : (cycleEnded p c f b s).cell = s.cell := by
  obtain ⟨slots, page, traffic, eq⟩ := finishSlot_eq c.slot .done .none 0 [BitVec.ofNat 8 c.found.code] (Event.of { s with
    ports := modAt s.ports p fun q => f { q with cycle := none, queue := [] }
    budget := b })
  rw [cycleEnded, State.finished, eq]
  rfl

/-- A port whose POWER_UP claim waits. -/
def PortState.awaiting (q : PortState) : PortState := { q with power := { q.power with state := .waiting } }

/-- A port whose POWER_UP claim is granted. -/
def PortState.queued (d : PowerClaim) (q : PortState) : PortState := { q with power := q.power.granted d }

/-- The claim is that of the port as the hold found it. -/
theorem powerUp_cycleEnded (hp : (s.ports.get p).probe = none) : powerUp p (.marking p [.begin p] (cycleEnded p c id s.budget s)) =
    arrive (powerUpClaim s p) (.marking p [.begin p]
      (cycleEnded p c PortState.awaiting s.budget s)) := by
  have port : (Event.marking p [.begin p] (cycleEnded p c id s.budget s)).port p =
      { s.ports.get p with cycle := none, queue := [] } := cycleEnded_port id s.budget
  have loop : loopOf p (cycleEnded p c id s.budget s) = loopOf p s := by
    unfold loopOf
    rw [cycleEnded_port, cycleEnded_cell]
    rfl
  have claim : ({ port := p, kind := .powerUp
                  amount := allotment p (declaredPower { s.ports.get p with cycle := none, queue := [] }) (cycleEnded p c id s.budget s)
                  rating := declaredPower { s.ports.get p with cycle := none, queue := [] } } : PowerClaim) = powerUpClaim s p := by
    unfold allotment
    rw [loop]
    rfl
  unfold powerUp
  rw [setPower_cycleEnded (by exact hp), port, ← claim]
  rfl

/-- An OFF port that wants ON or STANDBY powers up at the end of its hold (R57, R65). -/
theorem actOnWant_cycleEnded (hm : s.cell.mode = .run) (ho : (s.ports.get p).power.state = .off) (hw : wantOf (s.ports.get p) ≠ .off)
    (hp : (s.ports.get p).probe = none) : actOnWant p (.marking p [.begin p] (cycleEnded p c id s.budget s)) =
      powerUp p (.marking p [.begin p] (cycleEnded p c id s.budget s)) := by
  have port : (Event.marking p [.begin p] (cycleEnded p c id s.budget s)).port p =
      { s.ports.get p with cycle := none, queue := [] } := cycleEnded_port id s.budget
  have mode : (Event.marking p [.begin p] (cycleEnded p c id s.budget s)).cell.mode = .run :=
    (congrArg (·.mode) (cycleEnded_cell (p := p) (c := c) (s := s) id s.budget) :).trans hm
  have offers : actOnWant p (.marking p [.begin p] (cycleEnded p c id s.budget s)) =
      offerPowerUp p (.marking p [.begin p] (cycleEnded p c id s.budget s)) := by
    unfold actOnWant
    rw [port]
    dsimp only
    rw [ho]
  rw [offers, offerPowerUp, cycleRuns, probeRuns, port]
  dsimp only
  rw [if_pos ⟨ho, hw, mode, rfl⟩, hp]
  rfl

/-- One that does not want to stays OFF. -/
theorem actOnWant_off (ho : (s.ports.get p).power.state = .off) (hw : wantOf (s.ports.get p) = .off) :
    actOnWant p (.marking p [.begin p] (cycleEnded p c id s.budget s)) = .marking p [.begin p] (cycleEnded p c id s.budget s) := by
  have port : (Event.marking p [.begin p] (cycleEnded p c id s.budget s)).port p =
      { s.ports.get p with cycle := none, queue := [] } := cycleEnded_port id s.budget
  unfold actOnWant
  rw [port]
  dsimp only
  rw [ho]
  exact if_neg fun h => h.2.1 (by rw [port]; exact hw)

/-- A granted POWER_UP claim (R63, R66, R67). -/
theorem grant_cycleEnded {d : PowerClaim} (hd : d = powerUpClaim s p) (hp : (s.ports.get p).probe = none) :
    grant d (.marking p [.begin p] (cycleEnded p c PortState.awaiting s.budget s)) =
      .marking p [.begin p] (cycleEnded p c (PortState.queued d)
        { s.budget with
          inrush := s.budget.inrush ++ [p], stage := stageOf s.budget.stage (s.budget.inrush ++ [p]) } s) := by
  have port : d.port = p := by rw [hd]; rfl
  obtain ⟨x, hx, granted⟩ := grant_powerUp (c := d) (by rw [hd]; rfl)
    (.marking p [.begin p] (cycleEnded p c PortState.awaiting s.budget s))
  have moved : modPower p (fun w => { w with base := d.amount, rating := some d.rating }) (.marking p [.begin p]
      (cycleEnded p c PortState.awaiting s.budget s)) = .marking p [.begin p]
      (cycleEnded p c (fun q => { q with power := { q.power with state := .waiting, base := d.amount, rating := some d.rating } })
        s.budget s) := congrArg (Event.marking p [.begin p]) (cycleEnded_modPort _ (fun q => { q with
          power := { q.power with base := d.amount, rating := some d.rating } }) _)
  rw [port, moved, setPower_cycleEnded (by exact hp)] at hx
  rw [granted, hx, port]
  have budget : (Event.marking p [.begin p] (cycleEnded p c PortState.awaiting
    s.budget s)).budget = s.budget := cycleEnded_budget _ _
  rw [budget]
  exact congrArg (Event.marking p [.begin p]) (cycleEnded_modBudget _ _ _)

theorem waitList_awaiting (hb : s.budget.waitList = []) :
    (Event.marking p [.begin p] (cycleEnded p c PortState.awaiting s.budget s)).budget.waitList = [] :=
  (congrArg Budget.waitList (cycleEnded_budget (p := p) (c := c) (s := s) PortState.awaiting s.budget) :).trans hb

theorem room_awaiting : room (Event.marking p [.begin p] (cycleEnded p c PortState.awaiting s.budget s)).toState = room s :=
  room_cycleEnded (f := PortState.awaiting) fun _ => rfl

theorem arrive_awaiting_granted {d : PowerClaim} (hd : d = powerUpClaim s p) (hp : (s.ports.get p).probe = none)
    (hb : s.budget.waitList = []) (fits : d.amount ≤ room s) :
    arrive d (.marking p [.begin p] (cycleEnded p c PortState.awaiting s.budget s)) = .marking p [.begin p]
      (cycleEnded p c (PortState.queued d) { s.budget with
        inrush := s.budget.inrush ++ [p], stage := stageOf s.budget.stage (s.budget.inrush ++ [p]) } s) := by
  rw [arrive_alone (waitList_awaiting hb) (by rwa [room_awaiting]), grant_cycleEnded hd hp]

theorem arrive_awaiting_waits {d : PowerClaim} (hb : s.budget.waitList = []) (lacks : room s < d.amount) :
    arrive d (.marking p [.begin p] (cycleEnded p c PortState.awaiting s.budget s)) =
      .marking p [.begin p] (cycleEnded p c PortState.awaiting { s.budget with waitList := [d] } s) := by
  have none := waitList_awaiting (p := p) (c := c) hb
  have budget : (Event.marking p [.begin p] (cycleEnded p c PortState.awaiting s.budget s)).budget = s.budget := cycleEnded_budget _ _
  rw [arrive_waits (by simp [claimWaits, none]) (by simp [none]) (by rwa [room_awaiting]), budget, hb]
  exact congrArg (Event.marking p [.begin p]) (cycleEnded_modBudget _ _ _)

end

/-- Settles O29: the beginning by the power state found, the hold's end by the port's want. -/
theorem cycleRuns_holds : Obligations.CycleRuns := by
  unfold Obligations.CycleRuns
  refine ⟨fun n p s h ho hq hs hp run hr => ?_, fun p c s h hc hd hq hw => ?_, fun p c s h hm hc hd hq ho hw hp hb d hclaim => ?_⟩
  · obtain ⟨resting, waiting, retrying⟩ := act_cycle_unpowered h ho hq hs hp hr
    refine ⟨resting, waiting, retrying, fun hpow hb _ hsweep => ?_⟩
    obtain ⟨t, ht, running, cycle, power, link, others⟩ := act_cycle_powered h ho hq hs hp hsweep hb hpow hr
    exact ⟨t, ht, running, cycle, by rw [power], by rw [power]; rfl, by rw [power]; rfl, link, by rw [power]; rfl, others⟩
  · have ended : (finish (.marking p [.begin p] (cycleEnded p c id s.budget s))).toState = (cycleEnded p c id s.budget s).reported [p] :=
      finish_cycleEnded (fun _ => rfl) s.budget
    rw [act_cycleHoldEnd h hc hd, endCycle_eq hc hq]
    split
    · next off => rw [actOnWant_off off (hw.resolve_left (not_not.mpr off)), ended, cycleEnded]; rfl
    · rw [ended, cycleEnded]; rfl
  · have powers : exec (.cycleHoldEnd p) s = .next (finish (arrive d
        (.marking p [.begin p] (cycleEnded p c PortState.awaiting s.budget s)))).toState := by
      rw [act_cycleHoldEnd h hc hd, endCycle_eq hc hq, if_pos ho, actOnWant_cycleEnded hm ho hw hp, powerUp_cycleEnded hp, hclaim]
    refine ⟨fun fits => ?_, fun lacks => ?_⟩
    · rw [powers, arrive_awaiting_granted hclaim hp hb fits, finish_cycleEnded (f := PortState.queued d) fun _ => rfl, cycleEnded]
      rfl
    · rw [powers, arrive_awaiting_waits hb lacks, finish_cycleEnded (f := PortState.awaiting) fun _ => rfl, cycleEnded]
      rfl

end Sys2Proof.Machine

namespace Sys2Proof.Machine

/-! ## What reports and answers move (R28, R38 to R40) -/

/-- A rewritten port report moves its report count, the flags and what is issued. -/
theorem reported_eq (p : Port) (s : State) : ∃ count flags traffic, s.reported [p] = { s with
    ports := modAt s.ports p fun q => { q with reportCount := count }
    page := { s.page with attention := s.page.attention ||| flags }
    traffic := traffic } := by
  by_cases h : s.page.taken = .held
  · have counted : modAt s.ports p (fun q => { q with reportCount := q.reportCount + 2 }) =
        modAt s.ports p fun q => { q with reportCount := (s.ports.get p).reportCount + 2 } := modAt_congr rfl
    rw [reported_held h, counted]
    exact ⟨_, _, _, rfl⟩
  · refine ⟨(s.ports.get p).reportCount, 0, s.traffic, (reported_absent (by simpa [held] using h)).trans ?_⟩
    have flags : s.page.attention ||| (0 : BitVec 14) = s.page.attention := BitVec.or_zero
    rw [modAt_self rfl, flags]

/-- A slot's final state moves the slot, the flags, the ORDERS area and what is issued. -/
theorem finished_eq (n : SlotNo) (st : SlotState) (why : Reason) (field : Nat) (results : List Byte) (s : State) :
    ∃ slots areas flags traffic, s.finished n st why field results = { s with
      slots := slots, page := { s.page with areas := areas, attention := s.page.attention ||| flags }, traffic := traffic } := by
  unfold State.finished
  by_cases h : s.page.taken = .held
  · rw [finishSlot_held (by exact h) n st why field results rfl]
    exact ⟨_, _, flagOrders, _, rfl⟩
  · have flags : s.page.attention ||| (0 : BitVec 14) = s.page.attention := BitVec.or_zero
    have stored (f : Slot → Slot) : (modSlot n f (Event.of s)).toState = { s with
        slots := modAt s.slots n f, page := { s.page with areas := s.page.areas, attention := s.page.attention ||| 0 } } := by
      rw [flags]
      rfl
    rw [finishSlot_absent (by exact h), stored]
    exact ⟨_, s.page.areas, 0, s.traffic, rfl⟩

theorem finished_slot_self (n : SlotNo) (st : SlotState) (why : Reason) (field : Nat) (results : List Byte) (s : State) :
    ((s.finished n st why field results).slots.get n).state = st ∧ ((s.finished n st why field results).slots.get n).reason = why ∧
    ((s.finished n st why field results).slots.get n).results = results := by
  obtain ⟨c, eq⟩ := get_finishSlot_self n st why field results (Event.of s)
  have slot : (s.finished n st why field results).slots.get n = _ := eq
  exact ⟨by rw [slot], by rw [slot], by rw [slot]⟩

/-! ## A frame buffer has left flight (R55, R123, R129) -/

/-- A SNAP that the leaving of buffer b under a tag may meet on port p: none, or the one that fired it, alone in the queue. -/
def SnapFor (p : Port) (b : Nat) (tag : Half) (s : State) : Prop :=
  (s.ports.get p).snap = none ∨ ∃ r, (s.ports.get p).snap = some r ∧ r.shot = some (tag, b) ∧
    (s.ports.get p).queue = [.order r.slot] ∧ (s.slots.get r.slot).stopMark = false

/-- What follows a buffer's leaving flight: the SNAP on port p, if one runs, ends, and nothing else moves but reports. -/
structure Followed (p : Port) (st : SlotState) (why : Reason) (results : List Byte) (s t : State) : Prop where
  pool : t.pool = s.pool
  flags : ∃ flags, t.page.attention = s.page.attention ||| flags
  delivered : (t.ports.get p).delivered = (s.ports.get p).delivered
  others : ∀ q, q ≠ p → t.ports.get q = s.ports.get q
  unfired : (s.ports.get p).snap = none → t = s
  fired : ∀ r, (s.ports.get p).snap = some r → (t.slots.get r.slot).state = st ∧ (t.slots.get r.slot).reason = why ∧
    (t.slots.get r.slot).results = results ∧ (t.ports.get p).snap = none ∧ (t.ports.get p).queue = []

section
variable {p : Port} {b : Nat} {tag : Half} {s : State}

/-- The state in which the SNAP alone in p's queue has ended. -/
def snapEnded (p : Port) (n : SlotNo) (st : SlotState) (why : Reason) (results : List Byte) (s : State) : State :=
  State.finished n st why 0 results { s with ports := modAt s.ports p fun q => { q with snap := none, queue := [] } }

theorem followed_snapEnded {r : SnapRun} (hr : (s.ports.get p).snap = some r) (st : SlotState) (why : Reason) (results : List Byte) :
    Followed p st why results s ((snapEnded p r.slot st why results s).reported [p]) := by
  obtain ⟨v, hv⟩ : ∃ v, v = { s with ports := modAt s.ports p fun q => { q with snap := none, queue := [] } } := ⟨_, rfl⟩
  obtain ⟨slots, areas, flags, traffic, ended⟩ := finished_eq r.slot st why 0 results v
  obtain ⟨count, flags', traffic', shown⟩ := reported_eq p (snapEnded p r.slot st why results s)
  obtain ⟨state, reason, res⟩ := finished_slot_self r.slot st why 0 results v
  have same : snapEnded p r.slot st why results s = v.finished r.slot st why 0 results := by rw [hv]; rfl
  have ports : (snapEnded p r.slot st why results s).ports = modAt s.ports p fun q => { q with snap := none, queue := [] } := by
    rw [same, ended, hv]
  rw [shown]
  refine ⟨?_, ⟨flags ||| flags', ?_⟩, ?_, fun q hq => ?_, fun h => ?_, fun r' hr' => ?_⟩
  · dsimp only
    rw [same, ended, hv]
  · dsimp only
    rw [same, ended, hv, BitVec.or_assoc]
  · dsimp only
    rw [get_modAt_self, ports, get_modAt_self]
  · dsimp only
    rw [get_modAt_ne _ _ _ _ hq, ports, get_modAt_ne _ _ _ _ hq]
  · rw [hr] at h
    cases h
  · obtain rfl : r = r' := Option.some.inj (hr.symm.trans hr')
    dsimp only
    rw [get_modAt_self, ports, get_modAt_self, same]
    exact ⟨state, reason, res, rfl, rfl⟩

/-- Who fired the buffer is told of its end. -/
theorem told_fired {r : SnapRun} (hr : (s.ports.get p).snap = some r) (hs : r.shot = some (tag, b))
    (hq : (s.ports.get p).queue = [.order r.slot]) (hm : (s.slots.get r.slot).stopMark = false) (delivered : Bool) :
    (if delivered then snapDelivered p b tag (Event.of s) else snapReturned p b tag (Event.of s)) =
      .marking p [.begin p] (snapEnded p r.slot (if delivered then .done else .aborted) (if delivered then .none else .timeout)
        (snapResults (if delivered then some b else none) (some tag) none) s) := by
  have run : ((Event.of s).port p).snap = some r := hr
  have ends (st : SlotState) (why : Reason) (results : List Byte) : endSnap p st why results (Event.of s) =
      .marking p [.begin p] (snapEnded p r.slot st why results s) := by
    unfold endSnap
    rw [run]
    exact endOrder_alone (f := fun q => { q with snap := none }) hq st why results
  cases delivered with
  | true =>
    have unmarked : stopMarked r.slot (Event.of s) = false := hm
    rw [if_pos rfl, snapDelivered, run]
    dsimp only
    rw [if_pos hs, unmarked]
    exact ends _ _ _
  | false =>
    rw [if_neg Bool.false_ne_true, snapReturned, run]
    dsimp only
    rw [if_pos hs]
    exact ends _ _ _

theorem told_unfired (hr : (s.ports.get p).snap = none) (delivered : Bool) :
    (if delivered then snapDelivered p b tag (Event.of s) else snapReturned p b tag (Event.of s)) = Event.of s := by
  have run : ((Event.of s).port p).snap = none := hr
  rw [snapDelivered, snapReturned, run, ite_self]

/-- A sweep that does not run is not told. -/
theorem sweepFrame_none {e : Event} (h : (e.port p).sweep = none) (delivered : Bool) : sweepFrame p b tag delivered e = e := by
  unfold sweepFrame
  rw [h]

/-- A frame buffer has left flight, on a port on which nothing but its SNAP runs. -/
theorem followed_frameEnded {x : Entry} {stamp : Stamp} (hx : x.stamp = some stamp) (hw : (s.ports.get p).sweep = none)
    (hp : (s.ports.get p).probe = none) (hl : (s.ports.get p).lens.state ≠ .staged) (hs : SnapFor p b stamp.tag s) (delivered : Bool) :
    Followed p (if delivered then .done else .aborted) (if delivered then .none else .timeout)
      (snapResults (if delivered then some b else none) (some stamp.tag) none) s
      (finish (frameEnded p b x delivered (Event.of s))).toState := by
  unfold frameEnded
  rw [hx]
  dsimp only
  obtain hr | ⟨r, hr, shot, hq, hm⟩ := hs
  · obtain ⟨agenda, told, tasks⟩ := tellIfDrained_eq p (Event.of s)
    have gaps : ∀ t ∈ agenda, t = .gap p := fun t ht => (tasks t ht).resolve_left List.not_mem_nil
    have ends : (finish (tellIfDrained p (Event.of s))).toState = s := by
      have worked : drain agendaBound (tellIfDrained p (Event.of s)) = Event.of s := by
        rw [told]
        exact drain_gaps (by exact hl) (by exact hp) gaps agendaBound
      rw [finish, worked]
      rfl
    rw [told_unfired hr, sweepFrame_none (e := Event.of s) hw, ends]
    exact ⟨rfl, ⟨0, BitVec.or_zero.symm⟩, rfl, fun _ _ => rfl, fun _ => rfl, fun r hr' => by rw [hr] at hr'; cases hr'⟩
  · obtain ⟨st, hst⟩ : ∃ st : SlotState, st = if delivered then .done else .aborted := ⟨_, rfl⟩
    obtain ⟨why, hwhy⟩ : ∃ why : Reason, why = if delivered then .none else .timeout := ⟨_, rfl⟩
    rw [told_fired hr shot hq hm, ← hst, ← hwhy]
    generalize snapResults (if delivered then some b else none) (some stamp.tag) none = results
    have port : (snapEnded p r.slot st why results s).ports.get p = { s.ports.get p with snap := none, queue := [] } := by
      rw [snapEnded, finished_ports]
      exact get_modAt_self _ _ _
    obtain ⟨agenda, told, tasks⟩ := tellIfDrained_eq p (.marking p [.begin p] (snapEnded p r.slot st why results s))
    have ends : (finish (tellIfDrained p (.marking p [.begin p] (snapEnded p r.slot st why results s)))).toState =
        (snapEnded p r.slot st why results s).reported [p] := by
      rw [told]
      refine finish_marking fun t ht x hx => ?_
      have there : x.port p = { s.ports.get p with snap := none, queue := [] } := by
        rw [Event.port, hx]
        exact port
      obtain ht | rfl := tasks t ht
      · rw [List.mem_singleton.mp ht]
        exact perform_begin_idle (by rw [there])
      · exact perform_gap_idle (by rw [there]; exact hl) (by rw [there]; exact hp)
    rw [sweepFrame_none, ends]
    · exact followed_snapEnded hr st why results
    · exact (congrArg PortState.sweep port).trans hw

/-! ### The tracker (R116, R123, R129) -/

/-- A buffer changes, its record shown: no other buffer changes. -/
theorem writeBuffer_modEntry_of {f : Entry → Entry} {x : Entry} (hx : s.pool.entries[b]? = some x) : ∃ entries count traffic,
    writeBuffer b (modEntry b f (Event.of s)) = Event.of { s with pool := { s.pool with entries := entries }, traffic := traffic } ∧
    entries[b]? = some { f x with count := count } ∧ ∀ k, k ≠ b → entries[k]? = s.pool.entries[k]? := by
  cases hl : s.pool.layout with
  | none =>
    rw [writeBuffer_bare (by exact hl)]
    exact ⟨modNth s.pool.entries b f, (f x).count, s.traffic, rfl, by simp [getElem?_modNth, hx],
      fun k hk => by rw [getElem?_modNth, if_neg hk]⟩
  | some l =>
    rw [writeBuffer_modEntry (by exact hl) (by exact hx)]
    refine ⟨_, (f x).count + 2, _, rfl, by simp [getElem?_modNth, hx], fun k hk => ?_⟩
    rw [getElem?_modNth, if_neg hk, getElem?_modNth, if_neg hk]
    rfl

/-- A frame of port p is delivered (R129). -/
theorem deliver_of {x : Entry} {o : FrameOutcome} (hx : s.pool.entries[b]? = some x) (hk : x.kind = .frame) (ho : x.owner = some p) :
    ∃ entries count traffic, deliver b o (Event.of s) = Event.of { s with
      ports := modAt s.ports p fun q => { q with delivered := q.delivered + 1 }
      page := { s.page with attention := s.page.attention ||| flagPool }
      pool := { s.pool with entries := entries }
      traffic := traffic } ∧
    entries[b]? = some { x.deliver o with count := count } ∧ ∀ k, k ≠ b → entries[k]? = s.pool.entries[k]? := by
  obtain ⟨entries, count, traffic, shown, mine, others⟩ := writeBuffer_modEntry_of (f := Entry.deliver o) hx
  have there : (Event.of s).pool.entries[b]? = some x := hx
  unfold deliver countDelivery
  rw [there]
  dsimp only
  rw [shown, hk, ho, raiseFlags_eq]
  exact ⟨entries, count, _, rfl, mine, others⟩

/-- A RESERVED buffer is GIVEN again (R123). -/
theorem returnGiven_of {x : Entry} (hx : s.pool.entries[b]? = some x) (hs : x.state = .reserved) : ∃ entries count traffic,
    returnGiven b (Event.of s) = Event.of { s with pool := { s.pool with entries := entries }, traffic := traffic } ∧
    entries[b]? = some { x.giveBack with count := count } ∧ ∀ k, k ≠ b → entries[k]? = s.pool.entries[k]? := by
  have there : (Event.of s).pool.entries[b]? = some x := hx
  obtain ⟨entries, count, traffic, shown, mine, others⟩ := writeBuffer_modEntry_of (f := Entry.giveBack) hx
  refine ⟨entries, count, traffic, ?_, mine, others⟩
  unfold returnGiven
  rw [there]
  dsimp only
  rw [if_pos hs, shown]

/-! ### A frame delivered (R55, R129) -/

/-- What a delivery of port p's frame in buffer b makes of a state. -/
structure FrameOut (p : Port) (b : Nat) (x : Entry) (o : FrameOutcome) (tag : Half) (s t : State) : Prop where
  entry : ∃ count, t.pool.entries[b]? = some { x.deliver o with count := count }
  entries : ∀ k, k ≠ b → t.pool.entries[k]? = s.pool.entries[k]?
  delivered : (t.ports.get p).delivered = (s.ports.get p).delivered + 1
  flags : t.page.attention &&& flagPool = flagPool
  others : ∀ q, q ≠ p → t.ports.get q = s.ports.get q
  unfired : (s.ports.get p).snap = none → t.slots = s.slots ∧ (t.ports.get p).queue = (s.ports.get p).queue
  fired : ∀ r, (s.ports.get p).snap = some r → (t.slots.get r.slot).state = .done ∧
    (t.slots.get r.slot).results = snapResults (some b) (some tag) none ∧
    (t.ports.get p).snap = none ∧ (t.ports.get p).queue = []

theorem or_flag_and (a f m : BitVec 14) : (a ||| f ||| m) &&& f = f := by
  ext i h
  cases hf : f.getLsbD i <;> simp [← BitVec.getLsbD_eq_getElem, hf]

theorem frameOut_deliverFrame {x : Entry} {o : FrameOutcome} {stamp : Stamp} (hx : s.pool.entries[b]? = some x) (hk : x.kind = .frame)
    (ho : x.owner = some p) (hst : x.stamp = some stamp) (hw : (s.ports.get p).sweep = none) (hp : (s.ports.get p).probe = none)
    (hl : (s.ports.get p).lens.state ≠ .staged) (hs : SnapFor p b stamp.tag s) :
    FrameOut p b x o stamp.tag s (finish (deliverFrame p b o (Event.of s))).toState := by
  obtain ⟨entries, count, traffic, left, mine, rest⟩ := deliver_of (o := o) hx hk ho
  obtain ⟨v, hv⟩ : ∃ v, v = { s with
      ports := modAt s.ports p fun q => { q with delivered := q.delivered + 1 }
      page := { s.page with attention := s.page.attention ||| flagPool }
      pool := { s.pool with entries := entries }
      traffic := traffic } := ⟨_, rfl⟩
  have port : v.ports.get p = { s.ports.get p with delivered := (s.ports.get p).delivered + 1 } := by
    rw [hv]
    exact get_modAt_self _ _ _
  have follows : deliverFrame p b o (Event.of s) = frameEnded p b x true (Event.of v) := by
    have there : (Event.of s).pool.entries[b]? = some x := hx
    unfold deliverFrame
    rw [there]
    dsimp only
    rw [left, hv]
  have after := followed_frameEnded (s := v) (b := b) hst (by rw [port]; exact hw) (by rw [port]; exact hp) (by rw [port]; exact hl)
    (by rw [SnapFor, port, hv]; exact hs) true
  rw [follows]
  generalize (finish (frameEnded p b x true (Event.of v))).toState = t at after
  exact {
    entry := ⟨count, by rw [after.pool, hv]; exact mine⟩
    entries := fun k hk => by rw [after.pool, hv]; exact rest k hk
    delivered := by rw [after.delivered, port]
    flags := by
      obtain ⟨flags, eq⟩ := after.flags
      rw [eq, hv]
      exact or_flag_and _ _ _
    others := fun q hq => by rw [after.others q hq, hv]; exact get_modAt_ne _ _ _ _ hq
    unfired := fun h => by
      have same := after.unfired (by rw [port]; exact h)
      exact ⟨by rw [same, hv], by rw [same, port]⟩
    fired := fun r hr => by
      obtain ⟨state, -, results, snap, queue⟩ := after.fired r (by rw [port]; exact hr)
      exact ⟨state, results, snap, queue⟩ }

/-- The delivery seen from a state that differs in the link of port p and in the buffer itself. -/
theorem FrameOut.of_link {x : Entry} {o : FrameOutcome} {v t : State} (h : FrameOut p b x o tag v t) {l : PortLink}
    (hport : v.ports.get p = { s.ports.get p with link := l }) (hothers : ∀ q, q ≠ p → v.ports.get q = s.ports.get q)
    (hentries : ∀ k, k ≠ b → v.pool.entries[k]? = s.pool.entries[k]?) (hslots : v.slots = s.slots) : FrameOut p b x o tag s t where
  entry := h.entry
  entries := fun k hk => (h.entries k hk).trans (hentries k hk)
  delivered := h.delivered.trans (by rw [hport])
  flags := h.flags
  others := fun q hq => (h.others q hq).trans (hothers q hq)
  unfired := fun hn => by
    obtain ⟨slots, queue⟩ := h.unfired (by rw [hport]; exact hn)
    exact ⟨slots.trans hslots, queue.trans (by rw [hport])⟩
  fired := fun r hr => h.fired r (by rw [hport]; exact hr)

/-! ### FRAME_CLOSE and FILLING_SILENCE_EXPIRY (R126, R127) -/

/-- What a FRAME_CLOSE makes of the entry. -/
theorem Entry.close_eq (total : Word) (status : Byte) (x : Entry) : x.close total.toNat status.toNat = { x with
    pending :=
      if status ≠ 0 then .spoiled
      else if x.settings.any (fun g => decide (g.length < total.toNat)) = true then x.pending.worst .truncatedLong
      else x.pending } := by
  have zero : status.toNat = 0 ↔ status = 0 := BitVec.toNat_eq (x := status) (y := 0) |>.symm
  unfold Entry.close
  dsimp only
  by_cases h : status = 0
  · rw [if_pos (zero.mpr h), if_neg (not_not.mpr h)]
    cases x.settings <;> rfl
  · rw [if_neg (mt zero.mp h), if_pos h]

/-- In TALK a FRAME_CLOSE restarts the silence timer, is kept in its entry, and delivers it. -/
theorem act_frameClose {total : Word} {status : Byte} (h : live s = true) (ht : (s.ports.get p).link.state = .talk)
    (hj : joined p .filling tag s = some b) : ∃ l v, v = { s with
      ports := modAt s.ports p fun q => { q with link := l }
      pool := { s.pool with entries := modNth s.pool.entries b (Entry.close total.toNat status.toNat) } } ∧
    exec (.frameClose p tag total status) s = .next (finish (deliverFrame p b .complete (Event.of v))).toState := by
  obtain ⟨l, hl⟩ : ∃ l, l = { (s.ports.get p).link with silenceAt := timer Config.silenceTime (Event.of s) } := ⟨_, rfl⟩
  obtain ⟨u, hu⟩ : ∃ u, u = { s with ports := modAt s.ports p fun q => { q with link := l } } := ⟨_, rfl⟩
  have restarted : restartSilence p (Event.of s) = Event.of u := by
    have link : (modAt s.ports p fun q => { q with link := { q.link with silenceAt := timer Config.silenceTime (Event.of s) } }) =
        modAt s.ports p fun q => { q with link := l } := modAt_congr (by rw [hl])
    rw [hu, ← link]
    rfl
  have talk : ((Event.of s).port p).link.state = .talk := ht
  have joins : joined p .filling tag u = some b := by rw [hu]; exact hj
  refine ⟨l, _, rfl, (act_live h).trans ?_⟩
  have closes : uplink p true (closeFrame p tag total status) (Event.of s) = closeFrame p tag total status (Event.of u) := by
    unfold uplink
    rw [talk, ← restarted]
    rfl
  rw [after, closes, closeFrame, of_state, joins, hu]
  rfl

/-- A FILLING frame whose silence timer has ended is delivered TRUNCATED_LATE. -/
theorem act_fillingSilenceExpiry {b : BufNo} {x : Entry} (h : live s = true) (hx : s.pool.entries[b.val]? = some x)
    (hs : x.state = .filling) (ho : x.owner = some p) (hd : due x.silenceBy s = true) :
    exec (.fillingSilenceExpiry b) s = .next (finish (deliverFrame p b .truncatedLate (Event.of s))).toState := by
  have there : (Event.of s).pool.entries[b.val]? = some x := hx
  refine (act_live h).trans ?_
  rw [after, there]
  dsimp only
  rw [hs, ho, of_state, hd]

/-- A RESERVED frame whose timer has ended is GIVEN again, and who fired it is told. -/
theorem act_reservedTimeout {b : BufNo} {x : Entry} (h : live s = true) (hx : s.pool.entries[b.val]? = some x)
    (hs : x.state = .reserved) (ho : x.owner = some p) (hd : due x.reservedBy s = true) :
    exec (.reservedTimeout b) s = .next (finish (frameEnded p b x false (returnGiven b (Event.of s)))).toState := by
  have there : (Event.of s).pool.entries[b.val]? = some x := hx
  refine (act_live h).trans ?_
  rw [after, there]
  dsimp only
  rw [hs, ho, of_state, hd]

end

/-- Settles O39: a delivery by the command that makes it, a RESERVED buffer's return by its timer. -/
theorem framesEnd : Obligations.FramesEnd := by
  unfold Obligations.FramesEnd
  refine ⟨?_, ?_⟩
  · intro p b s h x hx hs hk ho stamp hst tag htag ht hw hp hl total status z o c hc hsnap
    subst htag
    have out : ∃ t, exec c s = .next t ∧ FrameOut p b z o stamp.tag s t := by
      obtain ⟨rfl, hj, rfl, hz⟩ | ⟨rfl, hd, rfl, rfl⟩ := hc
      · obtain ⟨l, v, hv, acts⟩ := act_frameClose (total := total) (status := status) h ht hj
        have port : v.ports.get p = { s.ports.get p with link := l } := by
          rw [hv]
          exact get_modAt_self _ _ _
        have closed : v.pool.entries[b.val]? = some z := by
          rw [hv]
          dsimp only
          rw [getElem?_modNth, if_pos rfl, hx, Option.map_some, Entry.close_eq, ← hz]
        refine ⟨_, acts, FrameOut.of_link (frameOut_deliverFrame (stamp := stamp) closed (by rw [hz]; exact hk) (by rw [hz]; exact ho)
          (by rw [hz]; exact hst) (by rw [port]; exact hw) (by rw [port]; exact hp) (by rw [port]; exact hl)
          (by rw [SnapFor, port, hv]; exact hsnap)) port (fun q hq => ?_) (fun k hk => ?_) (by rw [hv])⟩
        · rw [hv]
          exact get_modAt_ne _ _ _ _ hq
        · rw [hv]
          exact (getElem?_modNth _ _ _ _).trans (if_neg hk)
      · exact ⟨_, act_fillingSilenceExpiry h hx hs ho hd, frameOut_deliverFrame hx hk ho hst hw hp hl hsnap⟩
    obtain ⟨t, acts, out⟩ := out
    obtain ⟨count, entry⟩ := out.entry
    exact ⟨t, _, acts, entry, rfl, out.entries, out.delivered, out.flags, out.others, out.unfired, out.fired⟩
  · intro p b x stamp s h hx hs ho hst hw hp hl
    refine ⟨fun hd => act_idle ?_, fun hd hsnap => ?_⟩
    · have there : (Event.of s).pool.entries[b.val]? = some x := hx
      rw [there]
      dsimp only
      rw [hs, ho, of_state, hd]
    · obtain ⟨entries, count, traffic, left, mine, rest⟩ := returnGiven_of hx hs
      obtain ⟨v, hv⟩ : ∃ v, v = { s with pool := { s.pool with entries := entries }, traffic := traffic } := ⟨_, rfl⟩
      rw [← hv] at left
      have acts := act_reservedTimeout h hx hs ho hd
      have after := followed_frameEnded (s := v) (b := b) hst (by rw [hv]; exact hw) (by rw [hv]; exact hp) (by rw [hv]; exact hl)
        (by rw [SnapFor, hv]; exact hsnap) false
      rw [left] at acts
      generalize (finish (frameEnded p b x false (Event.of v))).toState = t at acts after
      refine ⟨t, _, acts, by rw [after.pool, hv]; exact mine, rfl, fun k hk => by rw [after.pool, hv]; exact rest k hk,
        fun q hq => by rw [after.others q hq, hv], fun hn => ?_, fun r hr => after.fired r (by rw [hv]; exact hr)⟩
      rw [after.unfired (by rw [hv]; exact hn), hv]

end Sys2Proof.Machine

namespace Sys2Proof.Machine

/-! ## The books of the cell

`Budgeted` and `Queued` speak of the power, link and lens of every port, of the budget, and of the cell's mode and sheet. What keeps them
is a law about more: a sweep that goes on while its lens moves would stage a target over the move, and that no sweep does so rests on the
work queues, the order slots and the fire claims that wait. `books` gathers all this, and `Books.Sound` is a law that every operation of
an event keeps (R51, R52, R60 to R67, R73 to R75, R88, R94, R121, R141, R144, R145). -/

/-- What the books hold of a port's work: its queue, and the orders or the probe that run. -/
structure Work where
  queue : List QEntry
  snap : Option SlotNo
  cycle : Option SlotNo
  sweep : Option SweepRun
  probe : Option ProbeJob

/-- What the books hold of a port. -/
structure Account where
  power : PortPower
  link : LinkState
  lens : LensRec
  sheet : Option PortSheet
  work : Work

def PortState.work (q : PortState) : Work where
  queue := q.queue
  snap := q.snap.map SnapRun.slot
  cycle := q.cycle.map CycleRun.slot
  sweep := q.sweep
  probe := q.probe.map ProbeRun.job

def PortState.account (q : PortState) : Account where
  power := q.power
  link := q.link.state
  lens := q.lens
  sheet := q.sheet
  work := q.work

/-- The port and slot of a focus sweep whose fire claim waits. -/
def BufClaim.ask (c : BufClaim) : Option (Port × SlotNo) :=
  match c.requester, c.status with
  | .sweep n _, .live => some (c.port, n)
  | _, _ => none

/-- What the law speaks of. -/
structure Books where
  account : Port → Account
  budget : Budget
  mode : Mode
  copy : Option CellSheet
  slot : SlotNo → SlotState × Option Order
  asks : List (Port × SlotNo)

def books (s : State) : Books where
  account p := (s.ports.get p).account
  budget := s.budget
  mode := s.cell.mode
  copy := s.cell.sheet
  slot n := ((s.slots.get n).state, (s.slots.get n).order)
  asks := s.pool.claims.filterMap BufClaim.ask

/-- A change of one port's account. -/
def Books.put (p : Port) (f : Account → Account) (b : Books) : Books :=
  { b with account := Function.update b.account p (f (b.account p)) }

/-- The accounts on another budget. -/
def Books.onBudget (g : Budget) (b : Books) : Books := { b with budget := g }

@[simp] theorem Books.onBudget_account (g : Budget) (b : Books) : (b.onBudget g).account = b.account := rfl
@[simp] theorem Books.onBudget_budget (g : Budget) (b : Books) : (b.onBudget g).budget = g := rfl

@[simp] theorem Books.put_budget (p : Port) (f : Account → Account) (b : Books) : (b.put p f).budget = b.budget := rfl
@[simp] theorem Books.put_mode (p : Port) (f : Account → Account) (b : Books) : (b.put p f).mode = b.mode := rfl
@[simp] theorem Books.put_copy (p : Port) (f : Account → Account) (b : Books) : (b.put p f).copy = b.copy := rfl
@[simp] theorem Books.put_slot (p : Port) (f : Account → Account) (b : Books) : (b.put p f).slot = b.slot := rfl
@[simp] theorem Books.put_asks (p : Port) (f : Account → Account) (b : Books) : (b.put p f).asks = b.asks := rfl
@[simp] theorem Books.put_self (p : Port) (f : Account → Account) (b : Books) : (b.put p f).account p = f (b.account p) := by
  simp [Books.put]

theorem Books.put_other {p q : Port} (h : q ≠ p) (f : Account → Account) (b : Books) : (b.put p f).account q = b.account q := by
  simp [Books.put, h]

theorem Books.put_id (p : Port) (b : Books) : b.put p id = b := by simp [Books.put]

theorem Books.put_put (p : Port) (f g : Account → Account) (b : Books) : (b.put p f).put p g = b.put p (g ∘ f) := by
  simp [Books.put]

/-- What the accounts hold together (R61). -/
def Books.allotted (b : Books) : Nat := ∑ p, (b.account p).power.held

@[simp] theorem Books.onBudget_allotted (g : Budget) (b : Books) : (b.onBudget g).allotted = b.allotted := rfl

theorem allotted_books (s : State) : allotted s = (books s).allotted := allotted_eq_sum s

theorem Books.allotted_put (p : Port) (f : Account → Account) (b : Books) :
    (b.put p f).allotted + (b.account p).power.held = b.allotted + (f (b.account p)).power.held := by
  have split : ∀ c : Books, c.allotted = (c.account p).power.held + ∑ q ∈ Finset.univ.erase p, (c.account q).power.held :=
    fun c => (Finset.add_sum_erase _ (fun q => (c.account q).power.held) (Finset.mem_univ p)).symm
  have rest : ∑ q ∈ Finset.univ.erase p, ((b.put p f).account q).power.held = ∑ q ∈ Finset.univ.erase p, (b.account q).power.held :=
    Finset.sum_congr rfl fun q hq => by rw [Books.put_other (Finset.ne_of_mem_erase hq)]
  rw [split (b.put p f), split b, rest, Books.put_self]
  omega

/-! ### The law of the power and the lens -/

/-- A waiting claim stands on the state of its port: POWER_UP on WAITING, WAKE on STANDBY with the raise to the full allotment,
LENS_MOTION on a lens in WAIT_POWER, which a focus sweep has staged when one runs (R62, R65, R75, R141, R144). -/
def PowerClaim.StandsOn (loose : Prop) (a : Account) (c : PowerClaim) : Prop :=
  match c.kind with
  | .powerUp => a.power.state = .waiting ∧ c.amount ≠ 0
  | .wake => a.power.state = .standby ∧ a.power.full ≤ a.power.base + c.amount
  | .lensMotion => ¬ loose ∧ c.amount ≠ 0 ∧ a.lens.state = .waitPower ∧ (a.work.sweep.isSome = true → a.lens.stagedBy = .sweep)

/-- A running sweep makes a move of its own. -/
def SweepRun.Moves (w : SweepRun) : Prop := w.phase = .moving ∨ w.phase = .best

/-- The law of one port. `loose`: its lens is between two states, without a motion allotment or a claim; `lit`: its power is gone and
its link has yet to go DARK (R78). -/
structure Account.Sound (loose lit : Prop) (g : Budget) (p : Port) (a : Account) : Prop where
  base : a.power.base ≠ 0 ↔ a.power.state.powered = true
  powered : a.power.motion ≠ 0 → a.power.state.powered = true
  motion : ¬ loose → (a.power.motion ≠ 0 ↔ a.lens.state = .moving)
  still : loose → a.power.motion = 0
  dark : ¬ lit → a.link ≠ .dark → a.power.state.powered = true
  full : a.power.state = .on ∨ a.power.state = .limit ∨ a.power.state = .waking → a.power.full = a.power.base
  asleep : a.power.state = .standby → a.power.full ≠ 0
  queued : p ∈ g.inrush ↔ a.power.state = .queued
  charging : g.stage = .charging p ↔ a.power.state = .inrush
  trimming : g.stage = .trimming p → a.power.state = .queued
  claim : ∀ c ∈ g.waitList, c.port = p → c.StandsOn loose a
  declared : ∀ x, a.sheet = some x → x.declared ≠ 0
  idle : ¬ loose → a.lens.state = .idle → a.lens.stagedBy = .sheet
  served : ∀ w, a.work.sweep = some w → w.Moves ∨ a.lens.stagedBy = .sheet
  steady : ¬ loose → ∀ w, a.work.sweep = some w →
    w.Moves ∨ a.lens.state ≠ .waitPower ∧ (a.lens.state = .moving → w.phase = .choose ∧ w.steps = [])

/-! ### The law of the work -/

/-- The queue entry that a probe is. -/
def ProbeJob.entry : ProbeJob → QEntry
  | .auto => .probe
  | .order n _ | .learn n => .order n

/-- The queue entries that run. -/
def Work.jobs (w : Work) : List QEntry :=
  (w.snap.map .order).toList ++ (w.cycle.map .order).toList ++ (w.sweep.map fun r => .order r.slot).toList ++
    (w.probe.map ProbeJob.entry).toList

/-- The law of one port's work: the head of the queue alone runs, and a queue holds orders of its port, QUEUED or RUNNING (R51, R52). -/
structure Work.Sound (slot : SlotNo → SlotState × Option Order) (p : Port) (w : Work) : Prop where
  job : ∀ x ∈ w.jobs, w.jobs = [x] ∧ w.queue.head? = some x ∧ ∀ n, x = .order n → (slot n).1 = .running
  queued : ∀ n, .order n ∈ w.queue → ((slot n).1 = .queued ∨ (slot n).1 = .running) ∧ (slot n).2.bind Order.queuePort = some p
  once : ∀ n, w.queue.count (.order n) ≤ 1
  shot : ∀ r, w.sweep = some r → r.shot.isSome = true → r.phase = .frame

/-! ### The law of the books -/

/-- A port outside RUN is OFF, HELD or LOCKED_OUT (R65). -/
def PowerState.resting (st : PowerState) : Prop := st = .off ∨ st = .held ∨ st = .lockedOut

/-- The sweep of a claim that waits decides its fire. -/
def Account.Decides (a : Account) (n : SlotNo) : Prop := ∃ w, a.work.sweep = some w ∧ w.slot = n ∧ w.phase = .deciding

/-- The law of the books, where the lens of port `x` is loose and the link of port `y` still lit. -/
structure Books.Sound (x y : Option Port) (b : Books) : Prop where
  account : ∀ p, (b.account p).Sound (x = some p) (y = some p) b.budget p
  once : b.budget.inrush.Nodup
  claims : (b.budget.waitList.map fun c => (c.port, c.kind)).Nodup
  within : b.allotted ≤ b.budget.inForce
  inRun : b.mode = .run → b.budget.inForce = (match b.copy with
    | some c => c.budget
    | none => 0)
  outside : b.mode ≠ .run → b.budget.inForce = 0
  settled : b.mode ≠ .run → ∀ p, (b.account p).power.state.resting
  work : ∀ p, (b.account p).work.Sound b.slot p
  asked : ∀ x ∈ b.asks, (b.account x.1).Decides x.2
  single : (b.asks.map Prod.fst).Nodup

/-- An event whose books are sound. -/
abbrev Solvent (e : Event) : Prop := (books e.toState).Sound none none

theorem Books.Sound.budgeted {s : State} (h : (books s).Sound none none) : Budgeted s where
  base p := (h.account p).base
  motion p := (h.account p).motion (by simp)
  inRun hm := (h.inRun hm).trans rfl
  outside := h.outside
  within := by rw [allotted_books]; exact h.within
  settled := h.settled
  dark p := (h.account p).dark (by simp)

theorem Books.Sound.queued {s : State} (h : (books s).Sound none none) : Queued s where
  once := h.once
  exact p := (h.account p).queued
  claims := h.claims
  single p q hp hq := by
    have charged : InrushStage.charging p = .charging q :=
      ((h.account p).charging.mpr hp).symm.trans ((h.account q).charging.mpr hq)
    exact InrushStage.charging.inj charged

/-- Events with the same books are sound together. -/
theorem Books.Sound.of_eq {x y : Option Port} {b c : Books} (h : b.Sound x y) (hc : c = b) : c.Sound x y := hc ▸ h

/-! ### Changes of one account -/

/-- A change of port p's account that keeps its law, takes no more than the room, and leaves its work as it is. -/
theorem Books.Sound.put {x y x' y' : Option Port} {b : Books} (h : b.Sound x y) {p : Port} {f : Account → Account}
    (hx : ∀ q, q ≠ p → (x' = some q ↔ x = some q)) (hy : ∀ q, q ≠ p → (y' = some q ↔ y = some q))
    (sound : (f (b.account p)).Sound (x' = some p) (y' = some p) b.budget p)
    (held : (f (b.account p)).power.held ≤ (b.account p).power.held + (b.budget.inForce - b.allotted))
    (settled : b.mode ≠ .run → (f (b.account p)).power.state.resting)
    (work : (f (b.account p)).work = (b.account p).work := by rfl) : (b.put p f).Sound x' y' where
  account q := by
    by_cases hq : q = p
    · subst hq
      rw [Books.put_self]
      exact sound
    · rw [Books.put_other hq, Books.put_budget, hx q hq, hy q hq]
      exact h.account q
  once := h.once
  claims := h.claims
  within := by
    have sum := b.allotted_put p f
    have fits := h.within
    rw [Books.put_budget]
    omega
  inRun := h.inRun
  outside := h.outside
  settled hm q := by
    by_cases hq : q = p
    · subst hq
      rw [Books.put_self]
      exact settled hm
    · rw [Books.put_other hq]
      exact h.settled hm q
  work q := by
    by_cases hq : q = p
    · subst hq
      rw [Books.put_self, work]
      exact h.work q
    · rw [Books.put_other hq]
      exact h.work q
  asked a ha := by
    have decides := h.asked a ha
    by_cases hq : a.1 = p
    · unfold Account.Decides at decides ⊢
      rw [hq] at decides ⊢
      rwa [Books.put_self, work]
    · rwa [Books.put_other hq]
  single := h.single

/-- A change that leaves the power record, the work and both exemptions as they are. -/
theorem Books.Sound.put_unpowered {x y : Option Port} {b : Books} (h : b.Sound x y) {p : Port} {f : Account → Account}
    (power : (f (b.account p)).power = (b.account p).power)
    (sound : (f (b.account p)).Sound (x = some p) (y = some p) b.budget p)
    (work : (f (b.account p)).work = (b.account p).work := by rfl) : (b.put p f).Sound x y :=
  h.put (fun _ _ => .rfl) (fun _ _ => .rfl) sound (by rw [power]; omega) (fun hm => by rw [power]; exact h.settled hm p) work

/-! ### The account changed by an update of the event -/

theorem books_modPort {p : Port} {f : PortState → PortState} {g : Account → Account} (h : ∀ q, (f q).account = g q.account) (e : Event) :
    books (modPort p f e).toState = (books e.toState).put p g := by
  have accounts : (books (modPort p f e).toState).account = ((books e.toState).put p g).account := by
    funext q
    by_cases hq : q = p
    · subst hq
      simp [books, h]
    · rw [Books.put_other hq]
      simp [books, get_modAt_ne _ _ _ _ hq]
  exact congrArg (fun a => { books e.toState with account := a }) accounts

/-- A change of a port that its account does not show. -/
theorem books_modPort_same {p : Port} {f : PortState → PortState} (h : ∀ q, (f q).account = q.account) (e : Event) :
    books (modPort p f e).toState = books e.toState := (books_modPort (g := id) h e).trans (Books.put_id p _)

theorem books_modPower (p : Port) (f : PortPower → PortPower) (e : Event) :
    books (modPower p f e).toState = (books e.toState).put p fun a => { a with power := f a.power } := books_modPort (fun _ => rfl) e

theorem books_modLens (p : Port) (f : LensRec → LensRec) (e : Event) :
    books (modLens p f e).toState = (books e.toState).put p fun a => { a with lens := f a.lens } := books_modPort (fun _ => rfl) e

/-- A change of the link that keeps its state. -/
theorem books_modLink {p : Port} {f : PortLink → PortLink} (h : ∀ l, (f l).state = l.state) (e : Event) :
    books (modLink p f e).toState = books e.toState :=
  books_modPort_same (fun q => congrArg (fun st => { q.account with link := st }) (h q.link)) e

theorem books_modFaults (p : Port) (f : PortFaults → PortFaults) (e : Event) : books (modFaults p f e).toState = books e.toState :=
  books_modPort_same (by exact fun _ => rfl) e

/-- A change of a slot that keeps its state and its order. -/
theorem books_modSlot_same {n : SlotNo} {f : Slot → Slot} (h : ∀ x, (f x).state = x.state ∧ (f x).order = x.order) (e : Event) :
    books (modSlot n f e).toState = books e.toState := by
  have slots : (books (modSlot n f e).toState).slot = (books e.toState).slot := by
    funext k
    by_cases hk : k = n
    · subst hk
      simp [books, h]
    · simp [books, get_modAt_ne _ _ _ _ hk]
  exact congrArg (fun v => { books e.toState with slot := v }) slots

@[simp] theorem books_tell (t : Task) (e : Event) : books (tell t e).toState = books e.toState := rfl
@[simp] theorem books_modProgram (i : ProgNo) (f : Program → Program) (e : Event) :
    books (modProgram i f e).toState = books e.toState := rfl
@[simp] theorem books_modEntry (b : Nat) (f : Entry → Entry) (e : Event) : books (modEntry b f e).toState = books e.toState := rfl
@[simp] theorem books_issue (t : Traffic) (e : Event) : books (issue t e).toState = books e.toState := rfl
@[simp] theorem books_setArea (a : Area) (st : AreaState) (e : Event) : books (setArea a st e).toState = books e.toState := rfl
@[simp] theorem books_issueRead (c : Channel) (a : Addr) (size : Nat) (e : Event) :
    books (issueRead c a size e).toState = books e.toState := rfl

@[simp] theorem books_touch (p : Port) (e : Event) : books (touch p e).toState = books e.toState := by
  unfold touch
  split <;> rfl

@[simp] theorem books_tellProbe (p : Port) (e : Event) : books (tellProbe p e).toState = books e.toState := by
  unfold tellProbe
  split <;> rfl

theorem books_setPower (p : Port) (st : PowerState) (e : Event) :
    books (setPower p st e).toState = (books e.toState).put p fun a => { a with power := { a.power with state := st } } := by
  unfold setPower
  split
  · next h =>
    subst h
    exact (Books.put_id p _).symm.trans (by simp [Books.put, books, PortState.account, Event.port])
  · rw [books_tellProbe, books_touch, books_modPower]

theorem books_setLink (p : Port) (st : LinkState) (e : Event) :
    books (setLink p st e).toState = (books e.toState).put p fun a => { a with link := st } := by
  unfold setLink
  split
  · next h =>
    subst h
    exact (Books.put_id p _).symm.trans (by simp [Books.put, books, PortState.account, Event.port])
  · rw [books_tellProbe, books_touch, modLink, books_modPort (g := fun a => { a with link := st }) (fun _ => rfl)]

theorem books_setLens (p : Port) (st : LensState) (e : Event) :
    books (setLens p st e).toState = (books e.toState).put p fun a => { a with lens := { a.lens with state := st } } := by
  unfold setLens
  split
  · next h =>
    subst h
    exact (Books.put_id p _).symm.trans (by simp [Books.put, books, PortState.account, Event.port])
  · rw [books_touch, books_modLens]

end Sys2Proof.Machine

namespace Sys2Proof.Machine

/-! ## Operations that the books do not see -/

/-- The writings for the host are none of the books. -/
theorem books_of_bare {s t : State} (h : s.bare = t.bare) : books s = books t := by
  have bare : ∀ u : State, books u.bare = books u := fun u =>
    congrArg (fun a => { books u with account := a }) (funext fun p => (congrArg PortState.account (bare_port u p) :))
  rw [← bare s, ← bare t, h]

theorem books_foldl {α : Type} (xs : List α) (f : Event → α → Event) (e : Event)
    (h : ∀ x a, books (f x a).toState = books x.toState) : books (xs.foldl f e).toState = books e.toState := by
  induction xs generalizing e with
  | nil => rfl
  | cons a as ih => rw [List.foldl_cons, ih, h]

theorem books_forPorts (ps : List Port) (f : Port → Event → Event) (e : Event)
    (h : ∀ p x, books (f p x).toState = books x.toState) : books (forPorts ps f e).toState = books e.toState :=
  books_foldl _ _ e fun x p => h p x

theorem books_forEntries (f : Nat → Event → Event) (e : Event) (h : ∀ b x, books (f b x).toState = books x.toState) :
    books (forEntries f e).toState = books e.toState := books_foldl _ _ e fun x b => h b x

theorem books_forProgs (f : ProgNo → Event → Event) (e : Event) (h : ∀ i x, books (f i x).toState = books x.toState) :
    books (forProgs f e).toState = books e.toState := books_foldl _ _ e fun x i => h i x

theorem books_forNumbers (ns : List (Fin 16)) (f : Fin 16 → Event → Event) (e : Event)
    (h : ∀ n x, books (f n x).toState = books x.toState) : books (forNumbers ns f e).toState = books e.toState :=
  books_foldl _ _ e fun x n => h n x

/-! ### Reports, answers and the downlink -/

@[simp] theorem books_raiseFlags (bits : BitVec 14) (e : Event) : books (raiseFlags bits e).toState = books e.toState :=
  books_of_bare (bare_raiseFlags bits e)
@[simp] theorem books_attend (bits : BitVec 14) (e : Event) : books (attend bits e).toState = books e.toState :=
  books_of_bare (bare_attend bits e)
@[simp] theorem books_notice (a : Area) (e : Event) : books (notice a e).toState = books e.toState :=
  books_of_bare (bare_notice a e)
@[simp] theorem books_writeHeader (e : Event) : books (writeHeader e).toState = books e.toState :=
  books_of_bare (bare_writeHeader e)
@[simp] theorem books_writePortReport (p : Port) (e : Event) : books (writePortReport p e).toState = books e.toState :=
  books_of_bare (bare_writePortReport p e)
@[simp] theorem books_showMode (e : Event) : books (showMode e).toState = books e.toState := books_of_bare (bare_showMode e)
@[simp] theorem books_flush (e : Event) : books (flush e).toState = books e.toState := books_of_bare (bare_flush e)

@[simp] theorem books_setAttention (flags mask : BitVec 14) (e : Event) :
    books (setAttention flags mask e).toState = books e.toState := by
  rw [setAttention_eq]
  rfl

@[simp] theorem books_writeAnswer (n : SlotNo) (e : Event) : books (writeAnswer n e).toState = books e.toState := by
  unfold writeAnswer
  split
  · exact (books_modSlot_same (by exact fun _ => ⟨rfl, rfl⟩) _).trans rfl
  · rfl

@[simp] theorem books_writeMirror (n : Fin 16) (e : Event) : books (writeMirror n e).toState = books e.toState := by
  unfold writeMirror
  split <;> rfl

@[simp] theorem books_zeroMirror (n : Fin 16) (e : Event) : books (zeroMirror n e).toState = books e.toState := rfl

@[simp] theorem books_writeBuffer (b : Nat) (e : Event) : books (writeBuffer b e).toState = books e.toState := by
  unfold writeBuffer
  split <;> rfl

theorem enqueue_state (k : Packet) (l : PortLink) : (enqueue k l).state = l.state := by
  unfold enqueue
  split <;> rfl

@[simp] theorem books_give (p : Port) (k : Packet) (e : Event) : books (give p k e).toState = books e.toState := by
  unfold give
  split
  · exact books_modLink (enqueue_state k) e
  · rfl

/-! ### Buffers -/

@[simp] theorem books_reserve (b : Nat) (p : Port) (k : BufKind) (e : Event) : books (reserve b p k e).toState = books e.toState := by
  simp [reserve]

@[simp] theorem books_countDelivery (x : Entry) (e : Event) : books (countDelivery x e).toState = books e.toState := by
  unfold countDelivery
  split
  · exact books_modPort_same (by exact fun _ => rfl) e
  · rfl

@[simp] theorem books_tellIfDrained (p : Port) (e : Event) : books (tellIfDrained p e).toState = books e.toState := by
  unfold tellIfDrained
  split <;> rfl

@[simp] theorem books_deliver (b : Nat) (o : FrameOutcome) (e : Event) : books (deliver b o e).toState = books e.toState := by
  unfold deliver
  split <;> simp

@[simp] theorem books_returnGiven (b : Nat) (e : Event) : books (returnGiven b e).toState = books e.toState := by
  unfold returnGiven
  (repeat' split) <;> simp

@[simp] theorem books_loseFrame (p : Port) (b : Nat) (e : Event) : books (loseFrame p b e).toState = books e.toState := by
  unfold loseFrame
  (repeat' split) <;> simp

@[simp] theorem books_loseFrames (p : Port) (e : Event) : books (loseFrames p e).toState = books e.toState := by
  unfold loseFrames
  dsimp only
  split <;> simp [books_forEntries _ _ (books_loseFrame p)]

@[simp] theorem books_fillData (b o : Nat) (data : List Byte) (e : Event) : books (fillData b o data e).toState = books e.toState := by
  unfold fillData
  dsimp only
  (repeat' split) <;> simp

@[simp] theorem books_poolShare (b : Nat) (e : Event) : books (poolShare b e).toState = books e.toState := by
  unfold poolShare
  (repeat' split) <;> simp

/-! ### Faults and the break log -/

@[simp] theorem books_takeLog (g : LogEvent) (e : Event) : books (takeLog g e).toState = books e.toState := by
  have mirrored : ∀ x : Event, books (forNumbers (allNumbers.filter fun n => g.changed.contains n.val) writeMirror x).toState =
      books x.toState := fun x => books_forNumbers _ _ x books_writeMirror
  unfold takeLog
  extract_lets _ e1 e2 e3
  have logged : books e1.toState = books e.toState := rfl
  have signalled : books e3.toState = books e.toState := by
    unfold e3
    split
    · exact (mirrored e1).trans logged
    · exact (books_attend _ e2).trans ((mirrored e1).trans logged)
  split
  · exact signalled
  · exact (books_writeHeader _).trans signalled

@[simp] theorem books_setStop (e : Event) : books (setStop e).toState = books e.toState := by
  unfold setStop
  rw [books_attend]
  split
  · rfl
  · exact (books_writeHeader _).trans rfl

@[simp] theorem books_clearStopLatch (e : Event) : books (clearStopLatch e).toState = books e.toState := by
  unfold clearStopLatch
  split
  · exact (books_writeHeader _).trans rfl
  · rfl

@[simp] theorem books_startCooldown (p : Port) (e : Event) : books (startCooldown p e).toState = books e.toState :=
  books_modFaults p _ e

/-! ### The ends of orders and probes -/

@[simp] theorem books_pathField (path : Option ProbePath) (e : Event) : books (pathField path e).2.toState = books e.toState := by
  unfold pathField
  split <;> rfl

@[simp] theorem books_deliverTrace (t : TraceClaim) (completed : Bool) (e : Event) :
    books (deliverTrace t completed e).toState = books e.toState := by
  unfold deliverTrace
  (repeat' split) <;> simp

/-- A change of the probe that keeps its job. -/
theorem books_modProbe {p : Port} {f : ProbeRun → ProbeRun} (h : ∀ r, (f r).job = r.job) (e : Event) :
    books (modProbe p f e).toState = books e.toState :=
  books_modPort_same (fun q => congrArg (fun j => { q.account with work := { q.work with probe := j } })
    (by rw [Option.map_map]; exact congrArg (Option.map · q.probe) (funext h))) e

@[simp] theorem books_reclass (p : Port) (e : Event) : books (reclass p e).toState = books e.toState :=
  (books_tell _ _).trans (books_modProbe (by exact fun _ => rfl) e)

@[simp] theorem books_emptyHistories (p : Port) (e : Event) : books (emptyHistories p e).toState = books e.toState :=
  books_modPort_same (by exact fun _ => rfl) e

@[simp] theorem books_askCamera (p : Port) (e : Event) : books (askCamera p e).toState = books e.toState := by
  rw [askCamera, books_give]
  exact books_modLink (by exact fun _ => rfl) e

/-! ### Fire decisions and claims -/

@[simp] theorem books_skipReason (k : Skip) (e : Event) : books (skipReason k e).2.toState = books e.toState := by
  unfold skipReason
  split <;> rfl

theorem books_skips (p : Port) (f : Vector Word 5 → Vector Word 5) (e : Event) :
    books (modPort p (fun q => { q with skips := f q.skips }) e).toState = books e.toState := books_modPort_same (by exact fun _ => rfl) e

/-- A change of the pool that leaves the sweeps' claims that wait as they are. -/
theorem books_pool {e : Event} {u : Pool} (h : u.claims.filterMap BufClaim.ask = e.pool.claims.filterMap BufClaim.ask) :
    books ({ e with pool := u } : Event).toState = books e.toState := congrArg (fun l => { books e.toState with asks := l }) h

@[simp] theorem books_takeTrace (b : Nat) (p : Port) (e : Event) : books (takeTrace b p e).toState = books e.toState := by
  simp [takeTrace]

@[simp] theorem books_traceAnswer (p : Port) (t : TraceClaim) (e : Event) : books (traceAnswer p t e).toState = books e.toState :=
  (books_tell _ _).trans (books_modProbe (by exact fun _ => rfl) e)

@[simp] theorem books_claimTrace (p : Port) (e : Event) : books (claimTrace p e).toState = books e.toState := by
  unfold claimTrace
  split
  · exact books_traceAnswer ..
  · exact books_traceAnswer ..
  · rw [books_traceAnswer, books_takeTrace]
  · rw [books_notice, books_modProbe (by exact fun _ => rfl)]
    exact books_pool (by simp [BufClaim.ask])

/-! ### Programs and lines -/

@[simp] theorem books_lightStep (x : ProgStep) (e : Event) : books (lightStep x e).toState = books e.toState :=
  books_foldl _ _ _ fun _ _ => rfl

@[simp] theorem books_disarmAll (e : Event) : books (disarmAll e).toState = books e.toState :=
  books_forProgs _ _ fun i x => books_modProgram i _ x

@[simp] theorem books_armProgram (i : ProgNo) (e : Event) : books (armProgram i e).toState = books e.toState := by
  unfold armProgram
  split <;> rfl

theorem books_trigger (e : Event) (u : Trigger) : books ({ e with trigger := u } : Event).toState = books e.toState := rfl

/-! ### Sweeps, the rebuild and order records -/

@[simp] theorem books_countReadError (e : Event) : books (countReadError e).toState = books e.toState := by
  rw [countReadError, books_raiseFlags, books_writeHeader]
  rfl

@[simp] theorem books_readHand (l : Layout) (b : Nat) (e : Event) : books (readHand l b e).toState = books e.toState := rfl

@[simp] theorem books_startRebuild (l : Layout) (e : Event) : books (startRebuild l e).toState = books e.toState := by
  have lost : ∀ x : Event, books (forPorts allPorts loseTrace x).toState = books x.toState :=
    fun x => books_forPorts _ _ x fun _ y => books_modProbe (by exact fun _ => rfl) y
  unfold startRebuild
  dsimp only
  split
  · exact (lost _).trans rfl
  · exact (lost _).trans rfl

@[simp] theorem books_newLayout (l : Layout) (e : Event) : books (newLayout l e).toState = books e.toState := by
  unfold newLayout
  (repeat' split) <;> simp <;> rfl

@[simp] theorem books_nextHand (b : Nat) (e : Event) : books (nextHand b e).toState = books e.toState := by
  unfold nextHand
  (repeat' split) <;> simp <;> rfl

@[simp] theorem books_readRecord (a : Area) (again : Bool) (n : Nat) (e : Event) :
    books (readRecord a again n e).toState = books e.toState := by simp [readRecord]

@[simp] theorem books_dealBuffer (b : Nat) (bytes : List Byte) (e : Event) : books (dealBuffer b bytes e).toState = books e.toState := by
  unfold dealBuffer
  extract_lets hand
  split
  · rfl
  · split
    · rfl
    · split
      · rfl
      · split
        · split <;> simp
        · exact (books_writeHeader _).trans ((books_writeBuffer _ _).trans rfl)

/-! ### Frames and windows -/

@[simp] theorem books_restartSilence (p : Port) (e : Event) : books (restartSilence p e).toState = books e.toState :=
  books_modLink (by exact fun _ => rfl) e

@[simp] theorem books_takeBad (p : Port) (e : Event) : books (takeBad p e).toState = books e.toState := by
  unfold takeBad
  dsimp only
  split
  · rw [books_pool rfl]
    exact books_modLink (fun l => by unfold PortLink.countBad; split <;> rfl) e
  · rfl

@[simp] theorem books_countStray (p : Port) (e : Event) : books (countStray p e).toState = books e.toState :=
  books_modPort_same (by exact fun _ => rfl) e

@[simp] theorem books_dataFrame (p : Port) (tag : Half) (o : Word) (data : List Byte) (e : Event) :
    books (dataFrame p tag o data e).toState = books e.toState := by
  unfold dataFrame
  split <;> simp

@[simp] theorem books_zeroWindows (p : Port) (e : Event) : books (zeroWindows p e).toState = books e.toState :=
  books_modLink (by exact fun _ => rfl) e

theorem books_met (p : Port) (m : PortState → Bool) (n : PortState → Nat) (e : Event) :
    books (modPort p (fun q => { q with met := m q, quiet := n q }) e).toState = books e.toState := books_modPort_same (by exact fun _ => rfl) e

@[simp] theorem books_resolveQuiet (p : Port) (e : Event) : books (resolveQuiet p e).toState = books e.toState := by
  unfold resolveQuiet
  split
  · rw [books_takeLog]
    exact books_met p PortState.met (fun _ => 0) e
  · rfl

@[simp] theorem books_flickerFound (p : Port) (e : Event) : books (flickerFound p e).toState = books e.toState := by
  rw [flickerFound, books_takeLog]
  exact books_met p (fun _ => true) (fun _ => 0) e

@[simp] theorem books_detectFlicker (p : Port) (pushed : Option Nat) (e : Event) :
    books (detectFlicker p pushed e).toState = books e.toState := by
  have cleared : ∀ x : Event, books (modPort p (fun q => { q with met := false }) x).toState = books x.toState :=
    fun x => books_met p (fun _ => false) PortState.quiet x
  unfold detectFlicker
  extract_lets t e1 l holds e2
  have quieted : books e1.toState = books e.toState := by
    unfold e1
    split
    · exact books_met p PortState.met (fun q => quietAfter t _ q.quiet) e
    · rfl
  rw [books_resolveQuiet]
  unfold e2
  split
  · split
    · exact quieted
    · exact (books_flickerFound p e1).trans quieted
  · exact (cleared e1).trans quieted

@[simp] theorem books_endWindow (p : Port) (e : Event) : books (endWindow p e).toState = books e.toState := by
  unfold endWindow
  dsimp only
  split
  · rw [books_zeroWindows, books_detectFlicker]
    exact books_modLink (by exact fun _ => rfl) e
  · exact books_zeroWindows p e

/-! ### The work of a probe -/

theorem books_completeLearn (p : Port) (r : ProbeRun) (sets : List (List Echo)) (e : Event) :
    books (completeLearn p r sets e).2.2.2.toState = books e.toState := by
  unfold completeLearn
  dsimp only
  split
  · rfl
  · split
    · rfl
    · exact books_modPort_same (by exact fun _ => rfl) e

@[simp] theorem books_writeTrace (r : ProbeRun) (a : List Int) (e : Event) : books (writeTrace r a e).toState = books e.toState := by
  unfold writeTrace
  split <;> simp

end Sys2Proof.Machine

namespace Sys2Proof.Machine

/-! ## Changes of the work -/

/-- The accounts over other slots. -/
def Books.onSlots (v : SlotNo → SlotState × Option Order) (b : Books) : Books := { b with slot := v }

@[simp] theorem Books.onSlots_account (v : SlotNo → SlotState × Option Order) (b : Books) : (b.onSlots v).account = b.account := rfl
@[simp] theorem Books.onSlots_slot (v : SlotNo → SlotState × Option Order) (b : Books) : (b.onSlots v).slot = v := rfl

/-- The books with claims that have left the list and are yet to be judged again (R121). -/
def Books.owing (l : List (Port × SlotNo)) (b : Books) : Books := { b with asks := l ++ b.asks }

@[simp] theorem Books.owing_account (l : List (Port × SlotNo)) (b : Books) : (b.owing l).account = b.account := rfl
@[simp] theorem Books.owing_slot (l : List (Port × SlotNo)) (b : Books) : (b.owing l).slot = b.slot := rfl

theorem Books.owing_put (l : List (Port × SlotNo)) (p : Port) (f : Account → Account) (b : Books) :
    (b.put p f).owing l = (b.owing l).put p f := rfl

theorem Work.jobs_nil {w : Work} : w.jobs = [] ↔ w.snap = none ∧ w.cycle = none ∧ w.sweep = none ∧ w.probe = none := by
  unfold Work.jobs
  cases w.snap <;> cases w.cycle <;> cases w.sweep <;> cases w.probe <;> simp

/-- The account's law with other work, where no sweep runs or the same. -/
theorem Account.Sound.rework {loose lit : Prop} {g : Budget} {p : Port} {a : Account} (h : a.Sound loose lit g p) {w : Work}
    (hs : w.sweep = none ∨ w.sweep = a.work.sweep) : ({ a with work := w } : Account).Sound loose lit g p := by
  refine { h with
    claim := fun c hc hp => ?_
    served := fun r hr => ?_
    steady := fun hl r hr => ?_ }
  · have stands := h.claim c hc hp
    unfold PowerClaim.StandsOn at stands ⊢
    cases hk : c.kind with
    | powerUp | wake => simpa only [hk] using stands
    | lensMotion =>
      simp only [hk] at stands ⊢
      obtain ⟨tight, amount, waits, server⟩ := stands
      refine ⟨tight, amount, waits, fun hx => server ?_⟩
      obtain hs | hs := hs
      · rw [hs] at hx; cases hx
      · rwa [← hs]
  · obtain hs | hs := hs
    · cases hs.symm.trans hr
    · exact h.served r (hs.symm.trans hr)
  · obtain hs | hs := hs
    · cases hs.symm.trans hr
    · exact h.steady hl r (hs.symm.trans hr)

/-- The work of port p changes, and slots that no other queue holds. -/
theorem Books.Sound.rework {x y : Option Port} {b : Books} (h : b.Sound x y) {p : Port} {f : Account → Account}
    {v : SlotNo → SlotState × Option Order} (power : (f (b.account p)).power = (b.account p).power)
    (sound : (f (b.account p)).Sound (x = some p) (y = some p) b.budget p) (work : (f (b.account p)).work.Sound v p)
    (others : ∀ q, q ≠ p → ∀ n, .order n ∈ (b.account q).work.queue → v n = b.slot n)
    (asked : ∀ n, (p, n) ∈ b.asks → (f (b.account p)).Decides n) :
    ((b.put p f).onSlots v).Sound x y where
  account q := by
    by_cases hq : q = p
    · subst hq
      exact (Books.put_self (b := b) ..) ▸ sound
    · exact (Books.put_other hq f b) ▸ h.account q
  once := h.once
  claims := h.claims
  within := by
    have sum := b.allotted_put p f
    have fits := h.within
    rw [power] at sum
    change (b.put p f).allotted ≤ b.budget.inForce
    omega
  inRun := h.inRun
  outside := h.outside
  settled hm q := by
    by_cases hq : q = p
    · subst hq
      change ((b.put q f).account q).power.state.resting
      rw [Books.put_self, power]
      exact h.settled hm q
    · change ((b.put p f).account q).power.state.resting
      rw [Books.put_other hq]
      exact h.settled hm q
  work q := by
    by_cases hq : q = p
    · subst hq
      change ((b.put q f).account q).work.Sound v q
      rw [Books.put_self]
      exact work
    · change ((b.put p f).account q).work.Sound v q
      rw [Books.put_other hq]
      have law := h.work q
      have same := others q hq
      refine { law with
        job := fun e he => ?_
        queued := fun n hn => by rw [same n hn]; exact law.queued n hn }
      obtain ⟨alone, head, running⟩ := law.job e he
      refine ⟨alone, head, fun n hn => ?_⟩
      subst hn
      rw [same n (List.mem_of_head? head)]
      exact running n rfl
  asked a ha := by
    by_cases hq : a.1 = p
    · subst hq
      change ((b.put a.1 f).account a.1).Decides a.2
      rw [Books.put_self]
      exact asked a.2 ha
    · change ((b.put p f).account a.1).Decides a.2
      rw [Books.put_other hq]
      exact h.asked a ha
  single := h.single

/-- The work of port p changes alone. -/
theorem Books.Sound.putWork {x y : Option Port} {b : Books} (h : b.Sound x y) {p : Port} {f : Account → Account}
    (power : (f (b.account p)).power = (b.account p).power)
    (sound : (f (b.account p)).Sound (x = some p) (y = some p) b.budget p) (work : (f (b.account p)).work.Sound b.slot p)
    (asked : ∀ n, (p, n) ∈ b.asks → (f (b.account p)).Decides n) : (b.put p f).Sound x y :=
  h.rework power sound work (fun _ _ _ _ => rfl) asked

/-- No queue holds the order of slot n. -/
def Books.Unqueued (n : SlotNo) (b : Books) : Prop := ∀ p, .order n ∉ (b.account p).work.queue

/-- A slot that no queue holds may change. -/
theorem Books.Sound.reslot {x y : Option Port} {b : Books} (h : b.Sound x y) {n : SlotNo} {u : SlotState × Option Order}
    (hn : b.Unqueued n) :
    (b.onSlots (Function.update b.slot n u)).Sound x y :=
  { h with
    work := fun q => by
      have law := h.work q
      have same : ∀ m, .order m ∈ (b.account q).work.queue → Function.update b.slot n u m = b.slot m := fun m hm => by
        refine Function.update_of_ne (fun hmn => ?_) _ _
        exact hn q (hmn ▸ hm)
      refine { law with
        job := fun e he => ?_
        queued := fun m hm => by
          rw [Books.onSlots_slot, same m hm]
          exact law.queued m hm }
      obtain ⟨alone, head, running⟩ := law.job e he
      refine ⟨alone, head, fun m hm => ?_⟩
      subst hm
      rw [Books.onSlots_slot, same m (List.mem_of_head? head)]
      exact running m rfl }

/-! ### Slots -/

theorem books_modSlot {n : SlotNo} {f : Slot → Slot} {u : SlotState × Option Order} {e : Event}
    (h : u = ((f (e.slots.get n)).state, (f (e.slots.get n)).order)) :
    books (modSlot n f e).toState = (books e.toState).onSlots (Function.update (books e.toState).slot n u) := by
  have slots : (books (modSlot n f e).toState).slot = Function.update (books e.toState).slot n u := by
    funext k
    by_cases hk : k = n
    · subst hk
      simp [books, h]
    · simp [books, get_modAt_ne _ _ _ _ hk, hk]
  exact congrArg (fun v => { books e.toState with slot := v }) slots

theorem books_finishSlot (n : SlotNo) (st : SlotState) (r : Reason) (field : Nat) (results : List Byte) (e : Event) :
    books (finishSlot n st r field results e).toState =
      (books e.toState).onSlots (Function.update (books e.toState).slot n (st, (e.slots.get n).order)) := by
  have written : ∀ x : Event, books (if (e.slots.get n).offerPending then notice .orders x else x).toState = books x.toState := fun x => by
    split <;> simp
  rw [finishSlot, written, books_attend, books_writeAnswer]
  exact books_modSlot rfl

theorem Books.Sound.finishSlot {x y : Option Port} {n : SlotNo} {st : SlotState} {r : Reason} {field : Nat} {results : List Byte}
    {e : Event} (h : (books e.toState).Sound x y) (hn : (books e.toState).Unqueued n) :
    (books (Machine.finishSlot n st r field results e).toState).Sound x y := by
  rw [books_finishSlot]
  exact h.reslot hn

theorem Books.Sound.doneSlot {x y : Option Port} {n : SlotNo} {results : List Byte} {e : Event} (h : (books e.toState).Sound x y)
    (hn : (books e.toState).Unqueued n) : (books (Machine.doneSlot n results e).toState).Sound x y := h.finishSlot hn

theorem Books.Sound.refuseSlot {x y : Option Port} {n : SlotNo} {r : Reason} {e : Event} (h : (books e.toState).Sound x y)
    (hn : (books e.toState).Unqueued n) : (books (Machine.refuseSlot n r e).toState).Sound x y := h.finishSlot hn

theorem books_runSlot (n : SlotNo) (e : Event) : books (runSlot n e).toState =
    (books e.toState).onSlots (Function.update (books e.toState).slot n (.running, (e.slots.get n).order)) := by
  rw [runSlot, books_writeAnswer]
  exact books_modSlot rfl

/-- An order may begin to run wherever it stands. -/
theorem Books.Sound.runSlot {x y : Option Port} {n : SlotNo} {e : Event} (h : (books e.toState).Sound x y) :
    (books (Machine.runSlot n e).toState).Sound x y := by
  rw [books_runSlot]
  have slot : ∀ m, Function.update (books e.toState).slot n (.running, (e.slots.get n).order) m =
      if m = n then (.running, ((books e.toState).slot m).2) else (books e.toState).slot m := fun m => by
    by_cases hm : m = n
    · subst hm
      rw [Function.update_self, if_pos rfl]
      rfl
    · rw [Function.update_of_ne hm, if_neg hm]
  refine { h with
    work := fun p => { h.work p with job := fun x hx => ?_, queued := fun m hm => ?_ } }
  · obtain ⟨alone, head, running⟩ := (h.work p).job x hx
    refine ⟨alone, head, fun m hm => ?_⟩
    rw [Books.onSlots_slot, slot]
    split
    · rfl
    · exact running m hm
  · obtain ⟨state, port⟩ := (h.work p).queued m hm
    rw [Books.onSlots_slot, slot]
    split
    · exact ⟨.inr rfl, port⟩
    · exact ⟨state, port⟩

theorem Books.Sound.startSlot {x y : Option Port} {n : SlotNo} {e : Event} (h : (books e.toState).Sound x y) :
    (books (Machine.startSlot n e).toState).Sound x y := by
  have begun : Machine.startSlot n e =
      Machine.runSlot n (Machine.modSlot n (fun x => { x with reason := .none, field := 0, results := [] }) e) := rfl
  rw [begun]
  exact Books.Sound.runSlot (h.of_eq (books_modSlot_same (by exact fun _ => ⟨rfl, rfl⟩) e))

/-! ### Ends of what runs -/

/-- The work of a port whose head has left the queue, nothing running. -/
def Work.done (w : Work) : Work := { queue := w.queue.tail, snap := none, cycle := none, sweep := none, probe := none }

theorem Work.done_of_idle {w : Work} (h : w.jobs = []) : { w with queue := w.queue.tail } = w.done := by
  obtain ⟨snap, cycle, sweep, probe⟩ := Work.jobs_nil.mp h
  simp only [Work.done, snap, cycle, sweep, probe]

theorem Work.Sound.done {slot v : SlotNo → SlotState × Option Order} {p : Port} {w : Work} (h : w.Sound slot p)
    (same : ∀ n, w.queue.head? ≠ some (.order n) → v n = slot n) : w.done.Sound v p := by
  have behind : ∀ n, .order n ∈ w.queue.tail → .order n ∈ w.queue ∧ w.queue.head? ≠ some (.order n) := fun n hn => by
    refine ⟨List.mem_of_mem_tail hn, fun hh => ?_⟩
    have once := h.once n
    cases hq : w.queue with
    | nil => rw [hq] at hn; cases hn
    | cons x xs =>
      rw [hq] at hn hh once
      obtain rfl : x = .order n := by simpa using hh
      have := List.count_pos_iff.mpr hn
      rw [List.count_cons_self] at once
      simp only [List.tail_cons] at this
      omega
  refine ⟨fun x hx => absurd hx (by simp [Work.done, Work.jobs]), fun n hn => ?_, fun n => ?_, fun r hr => (by cases hr)⟩
  · obtain ⟨queued, head⟩ := behind n hn
    rw [same n head]
    exact h.queued n queued
  · exact (List.Sublist.count_le _ (List.tail_sublist _)).trans (h.once n)

theorem Books.Sound.elsewhere {x y : Option Port} {b : Books} (h : b.Sound x y) {p q : Port} {n : SlotNo} (hq : q ≠ p)
    (hp : .order n ∈ (b.account p).work.queue) : .order n ∉ (b.account q).work.queue := fun hm =>
  hq (Option.some.inj (((h.work q).queued n hm).2.symm.trans ((h.work p).queued n hp).2))

/-- The order at the head of a queue leaves it with a final state, nothing running. -/
theorem Books.Sound.endRun {x y : Option Port} {b : Books} (h : b.Sound x y) {p : Port} {n : SlotNo} (st : SlotState)
    (head : (b.account p).work.queue.head? = some (.order n)) (asks : ∀ m, (p, m) ∉ b.asks) :
    ((b.put p fun a => { a with work := a.work.done }).onSlots (Function.update b.slot n (st, (b.slot n).2))).Sound x y := by
  refine h.rework rfl ((h.account p).rework (.inl rfl)) ((h.work p).done fun m hm => ?_) (fun q hq m hm => ?_)
    fun m hm => absurd hm (asks m)
  · exact Function.update_of_ne (by rintro rfl; exact hm head) _ _
  · exact Function.update_of_ne (by rintro rfl; exact h.elsewhere hq (List.mem_of_head? head) hm) _ _

/-- An internal probe leaves the head of its queue, nothing running. -/
theorem Books.Sound.endAuto {x y : Option Port} {b : Books} (h : b.Sound x y) {p : Port}
    (asks : ∀ m, (p, m) ∉ b.asks) : (b.put p fun a => { a with work := a.work.done }).Sound x y :=
  h.putWork rfl ((h.account p).rework (.inl rfl)) ((h.work p).done fun _ _ => rfl) fun m hm => absurd hm (asks m)

theorem Books.Sound.unasked {x y : Option Port} {b : Books} (h : b.Sound x y) {p : Port}
    (hs : ∀ w, (b.account p).work.sweep = some w → w.phase ≠ .deciding) (n : SlotNo) : (p, n) ∉ b.asks := fun hm => by
  obtain ⟨w, hw, -, hd⟩ := h.asked _ hm
  exact hs w hw hd

theorem books_removeHead (p : Port) (e : Event) : books (removeHead p e).toState =
    (books e.toState).put p fun a => { a with work := { a.work with queue := a.work.queue.tail } } := by
  rw [removeHead, books_tell, books_touch]
  exact books_modPort (by exact fun _ => rfl) e

/-- The order at the head of a queue reaches a final state and leaves. -/
theorem books_leave (p : Port) (n : SlotNo) (st : SlotState) (r : Reason) (field : Nat) (results : List Byte) (e : Event) :
    books (removeHead p (finishSlot n st r field results e)).toState =
      ((books e.toState).put p fun a => { a with work := { a.work with queue := a.work.queue.tail } }).onSlots
        (Function.update (books e.toState).slot n (st, ((books e.toState).slot n).2)) := by
  rw [books_removeHead, books_finishSlot]
  rfl

theorem books_endOrder (p : Port) (n : SlotNo) (st : SlotState) (r : Reason) (results : List Byte) (e : Event) :
    books (endOrder p n st r results e).toState =
      ((books e.toState).put p fun a => { a with work := { a.work with queue := a.work.queue.tail } }).onSlots
        (Function.update (books e.toState).slot n (st, ((books e.toState).slot n).2)) := books_leave ..

/-- What runs on a port runs alone. -/
theorem Work.Sound.snap_alone {slot : SlotNo → SlotState × Option Order} {p : Port} {w : Work} (h : w.Sound slot p) {n : SlotNo}
    (hs : w.snap = some n) : w.queue.head? = some (.order n) ∧ w.cycle = none ∧ w.sweep = none ∧ w.probe = none := by
  obtain ⟨alone, head, -⟩ := h.job (.order n) (by simp [Work.jobs, hs])
  refine ⟨head, ?_⟩
  unfold Work.jobs at alone
  rw [hs] at alone
  cases hc : w.cycle <;> cases hw : w.sweep <;> cases hp : w.probe <;> simp_all

theorem Work.Sound.cycle_alone {slot : SlotNo → SlotState × Option Order} {p : Port} {w : Work} (h : w.Sound slot p) {n : SlotNo}
    (hs : w.cycle = some n) : w.queue.head? = some (.order n) ∧ w.snap = none ∧ w.sweep = none ∧ w.probe = none := by
  obtain ⟨alone, head, -⟩ := h.job (.order n) (by simp [Work.jobs, hs])
  refine ⟨head, ?_⟩
  unfold Work.jobs at alone
  rw [hs] at alone
  cases hc : w.snap <;> cases hw : w.sweep <;> cases hp : w.probe <;> simp_all

theorem Work.Sound.sweep_alone {slot : SlotNo → SlotState × Option Order} {p : Port} {w : Work} (h : w.Sound slot p) {r : SweepRun}
    (hs : w.sweep = some r) : w.queue.head? = some (.order r.slot) ∧ w.snap = none ∧ w.cycle = none ∧ w.probe = none := by
  obtain ⟨alone, head, -⟩ := h.job (.order r.slot) (by simp [Work.jobs, hs])
  refine ⟨head, ?_⟩
  unfold Work.jobs at alone
  rw [hs] at alone
  cases hc : w.snap <;> cases hw : w.cycle <;> cases hp : w.probe <;> simp_all

theorem Work.Sound.probe_alone {slot : SlotNo → SlotState × Option Order} {p : Port} {w : Work} (h : w.Sound slot p) {j : ProbeJob}
    (hs : w.probe = some j) : w.queue.head? = some j.entry ∧ w.snap = none ∧ w.cycle = none ∧ w.sweep = none := by
  obtain ⟨alone, head, -⟩ := h.job j.entry (by simp [Work.jobs, hs])
  refine ⟨head, ?_⟩
  unfold Work.jobs at alone
  rw [hs] at alone
  cases hc : w.snap <;> cases hw : w.cycle <;> cases hp : w.sweep <;> simp_all

end Sys2Proof.Machine

namespace Sys2Proof.Machine

/-! ## Faults (R53, R168, R171) -/

theorem Work.Sound.append_probe {slot : SlotNo → SlotState × Option Order} {p : Port} {w : Work} (h : w.Sound slot p) :
    ({ w with queue := w.queue ++ [.probe] } : Work).Sound slot p := by
  refine { h with
    job := fun x hx => ?_
    queued := fun n hn => h.queued n (by simpa using hn)
    once := fun n => by rw [List.count_append, List.count_singleton]; simpa using h.once n }
  obtain ⟨alone, head, running⟩ := h.job x hx
  refine ⟨alone, ?_, running⟩
  rw [List.head?_append, head]
  rfl

/-- An internal probe joins the queue of port p. -/
def Books.joinProbe (p : Port) (b : Books) : Books :=
  b.put p fun a => { a with work := { a.work with queue := a.work.queue ++ [.probe] } }

theorem Books.Sound.joinProbe {x y : Option Port} {b : Books} (h : b.Sound x y) (p : Port) : (b.joinProbe p).Sound x y :=
  h.putWork rfl ((h.account p).rework (.inr rfl)) (h.work p).append_probe fun _ hn => h.asked _ hn

theorem books_appendProbe (p : Port) (e : Event) : books (appendProbe p e).toState = (books e.toState).joinProbe p := by
  have joined : books (modPort p (fun q => { q with queue := q.queue ++ [.probe] }) e).toState = (books e.toState).joinProbe p :=
    books_modPort (by exact fun _ => rfl) e
  unfold appendProbe
  dsimp only
  split
  · rw [books_tell, books_touch, joined]
  · exact joined

theorem books_considerProbe (p : Port) (k : FaultKind) (enabled : Bool) (e : Event) :
    books (considerProbe p k enabled e).toState = books e.toState ∨
      books (considerProbe p k enabled e).toState = (books e.toState).joinProbe p := by
  unfold considerProbe
  dsimp only
  split
  · split
    · exact .inl rfl
    · split
      · exact .inr (books_appendProbe p e)
      · exact .inl ((books_writeHeader _).trans rfl)
  · exact .inl rfl

/-- What a fault moves of the books is the internal probe it may append (R168, R171). -/
theorem books_handleFault (p : Port) (k : FaultKind) (e : Event) : books (handleFault p k e).toState = books e.toState ∨
    books (handleFault p k e).toState = (books e.toState).joinProbe p := by
  unfold handleFault
  extract_lets row enabled e1 e2 _ e3 e4
  have noted : books e1.toState = books e.toState := books_modFaults p _ e
  have marked : books e2.toState = books e.toState := by
    unfold e2
    split
    · exact noted
    · rw [books_touch, noted]
  have sent : books e3.toState = books e.toState := by
    unfold e3
    split
    · exact marked
    · exact marked
  have routed : books e4.toState = books e.toState := by
    unfold e4
    split <;> simp [sent]
  have considered := books_considerProbe p k enabled e4
  rw [routed] at considered
  split
  · exact considered
  · exact considered
  all_goals exact .inl routed

theorem Books.Sound.considerProbe {x y : Option Port} {p : Port} {k : FaultKind} {enabled : Bool} {e : Event}
    (h : (books e.toState).Sound x y) : (books (Machine.considerProbe p k enabled e).toState).Sound x y := by
  obtain same | joined := books_considerProbe p k enabled e
  · exact h.of_eq same
  · exact (h.joinProbe p).of_eq joined

theorem Books.Sound.handleFault {x y : Option Port} {p : Port} {k : FaultKind} {e : Event} (h : (books e.toState).Sound x y) :
    (books (Machine.handleFault p k e).toState).Sound x y := by
  obtain same | joined := books_handleFault p k e
  · exact h.of_eq same
  · exact (h.joinProbe p).of_eq joined

/-- A fault leaves what runs as it is. -/
theorem probe_handleFault (p q : Port) (k : FaultKind) (e : Event) :
    ((books (handleFault p k e).toState).account q).work.probe = ((books e.toState).account q).work.probe := by
  obtain same | joined := books_handleFault p k e
  · rw [same]
  · rw [joined, Books.joinProbe]
    by_cases hq : q = p
    · subst hq
      rw [Books.put_self]
    · rw [Books.put_other hq]

theorem Books.Sound.raiseEach {x y : Option Port} {p : Port} {k : FaultKind} (n : Nat) : ∀ {e : Event}, (books e.toState).Sound x y →
    (books (Machine.raiseEach p k n e).toState).Sound x y := by
  induction n with
  | zero => exact fun h => h
  | succ n ih => exact fun h => ih h.handleFault

theorem probe_raiseEach (p q : Port) (k : FaultKind) (n : Nat) (e : Event) :
    ((books (raiseEach p k n e).toState).account q).work.probe = ((books e.toState).account q).work.probe := by
  induction n generalizing e with
  | zero => rfl
  | succ n ih => rw [raiseEach, ih, probe_handleFault]

/-! ## Claims (R111, R121) -/

/-- The claims that wait may become fewer, or change places. -/
theorem Books.Sound.asking {x y : Option Port} {b : Books} (h : b.Sound x y) {l : List (Port × SlotNo)} (sub : l ⊆ b.asks)
    (nodup : (l.map Prod.fst).Nodup) : ({ b with asks := l } : Books).Sound x y :=
  { h with asked := fun a ha => h.asked a (sub ha), single := nodup }

theorem filterMap_sublist {α β : Type} {f g : α → Option β} (h : ∀ a, g a = none ∨ g a = f a) (l : List α) :
    (l.filterMap g).Sublist (l.filterMap f) := by
  induction l with
  | nil => simp
  | cons a l ih =>
    rw [List.filterMap_cons, List.filterMap_cons]
    obtain ha | ha := h a
    · rw [ha]
      cases f a with
      | none => exact ih
      | some b => exact ih.cons b
    · rw [ha]
      cases f a with
      | none => exact ih
      | some b => exact ih.cons_cons b

theorem asks_markClaims (mine : Requester → Bool) {st : ClaimStatus} (hst : st ≠ .live) (e : Event) :
    (books (markClaims mine st e).toState).asks.Sublist (books e.toState).asks := by
  change List.Sublist (List.filterMap _ (List.map _ e.pool.claims)) (List.filterMap _ e.pool.claims)
  rw [List.filterMap_map]
  refine filterMap_sublist (fun c => ?_) _
  dsimp only [Function.comp]
  split
  · left
    unfold BufClaim.ask
    cases c.requester <;> cases st <;> simp_all
  · exact .inr rfl

theorem Books.Sound.markClaims {x y : Option Port} {mine : Requester → Bool} {st : ClaimStatus} (hst : st ≠ .live) {e : Event}
    (h : (books e.toState).Sound x y) : (books (Machine.markClaims mine st e).toState).Sound x y :=
  h.asking (asks_markClaims mine hst e).subset (h.single.sublist ((asks_markClaims mine hst e).map _))

/-! ## The ends of SNAP (R54 to R56) -/

theorem Books.put_congr {p : Port} {f g : Account → Account} {b : Books} (h : f (b.account p) = g (b.account p)) :
    b.put p f = b.put p g := by
  unfold Books.put
  rw [h]

theorem Books.Sound.endSnap {x y : Option Port} {l : List (Port × SlotNo)} {p : Port} {st : SlotState} {why : Reason} {results : List Byte}
    {e : Event} (h : ((books e.toState).owing l).Sound x y) :
    ((books (Machine.endSnap p st why results e).toState).owing l).Sound x y := by
  unfold Machine.endSnap
  split
  · exact h
  · next r hr =>
    have running : ((books e.toState).account p).work.snap = some r.slot := congrArg (Option.map SnapRun.slot) hr
    obtain ⟨head, cycle, sweep, probe⟩ := (h.work p).snap_alone running
    have cleared : books (modPort p (fun q => { q with snap := none }) e).toState =
        (books e.toState).put p fun a => { a with work := { a.work with snap := none } } := books_modPort (by exact fun _ => rfl) e
    have ended : ((books e.toState).put p fun a => { a with work := { a.work with snap := none, queue := a.work.queue.tail } }) =
        (books e.toState).put p fun a => { a with work := a.work.done } := Books.put_congr (by
      simp only [Work.done, Books.owing_account] at cycle sweep probe ⊢
      rw [cycle, sweep, probe])
    rw [books_endOrder, cleared, Books.put_put]
    exact ended ▸ h.endRun st head (h.unasked fun w hw => absurd (sweep.symm.trans hw) (by simp))

theorem Books.Sound.loseSnap {x y : Option Port} {p : Port} {why : Reason} {e : Event} (h : (books e.toState).Sound x y) :
    (books (Machine.loseSnap p why e).toState).Sound x y := by
  unfold Machine.loseSnap
  split
  · exact h
  · exact Books.Sound.endSnap (l := []) (h.markClaims (by decide))

/-! ## A sweep's steps (R145) -/

theorem books_modSweep (p : Port) (f : SweepRun → SweepRun) (e : Event) : books (modSweep p f e).toState =
    (books e.toState).put p fun a => { a with work := { a.work with sweep := a.work.sweep.map f } } :=
  books_modPort (by exact fun _ => rfl) e

/-- A change of the sweep that keeps its slot. -/
theorem Books.Sound.resweep {x y : Option Port} {b : Books} (h : b.Sound x y) {p : Port} {f : SweepRun → SweepRun}
    (kept : ∀ w, (f w).slot = w.slot)
    (shot : ∀ w, (b.account p).work.sweep = some w → (f w).shot.isSome = true → (f w).phase = .frame)
    (served : ∀ w, (b.account p).work.sweep = some w → (f w).Moves ∨ (b.account p).lens.stagedBy = .sheet)
    (steady : x ≠ some p → ∀ w, (b.account p).work.sweep = some w → (f w).Moves ∨
      (b.account p).lens.state ≠ .waitPower ∧ ((b.account p).lens.state = .moving → (f w).phase = .choose ∧ (f w).steps = []))
    (asked : ∀ n, (p, n) ∈ b.asks → ∀ w, (b.account p).work.sweep = some w → (f w).phase = .deciding) :
    (b.put p fun a => { a with work := { a.work with sweep := a.work.sweep.map f } }).Sound x y := by
  have law := h.account p
  have work := h.work p
  have jobs : ({ (b.account p).work with sweep := (b.account p).work.sweep.map f } : Work).jobs = (b.account p).work.jobs := by
    simp only [Work.jobs, Option.map_map]
    congr 4
    exact funext fun w => by simp [Function.comp, kept w]
  have source : ∀ w, (b.account p).work.sweep.map f = some w → ∃ v, (b.account p).work.sweep = some v ∧ f v = w := fun w hw =>
    Option.map_eq_some_iff.mp hw
  refine h.putWork rfl { law with
    claim := fun c hc hp => ?_
    served := fun w hw => ?_
    steady := fun hx w hw => ?_ } { work with
    job := fun e he => by
      rw [jobs] at he ⊢
      exact work.job e he
    shot := fun w hw => ?_ } fun n hn => ?_
  · have stands := law.claim c hc hp
    unfold PowerClaim.StandsOn at stands ⊢
    cases hk : c.kind <;> simp_all
  · obtain ⟨v, hv, rfl⟩ := source w hw
    exact served v hv
  · obtain ⟨v, hv, rfl⟩ := source w hw
    exact steady hx v hv
  · obtain ⟨v, hv, rfl⟩ := source w hw
    exact shot v hv
  · obtain ⟨w, hw, slot, -⟩ := h.asked _ hn
    exact ⟨f w, by simp [hw], (kept w).trans slot, asked n hn w hw⟩

/-- A sweep step ends while the sweep decides a fire or waits for its frame: its lens does not move. -/
theorem Books.Sound.recordStep {x y : Option Port} {l : List (Port × SlotNo)} {p : Port} {s : SweepStep} {e : Event}
    (h : ((books e.toState).owing l).Sound x y) (asks : ∀ n, (p, n) ∉ ((books e.toState).owing l).asks)
    (hs : ∀ w, (e.port p).sweep = some w → w.phase = .deciding ∨ w.phase = .frame) :
    ((books (Machine.recordStep p s e).toState).owing l).Sound x y := by
  have still : ∀ w, (e.port p).sweep = some w → ¬ w.Moves := fun w hw hm => by
    obtain hp | hp := hs w hw <;> simp [SweepRun.Moves, hp] at hm
  rw [Machine.recordStep, books_tell, books_modSweep]
  refine Books.Sound.resweep (b := (books e.toState).owing l) h (by exact fun _ => rfl) (fun w _ hx => by simp at hx)
    (fun w hw => ?_) (fun hx w hw => ?_) fun n hn => absurd hn (asks n)
  · exact .inr (((h.account p).served w hw).resolve_left (still w hw))
  · obtain ⟨wait, move⟩ := ((h.account p).steady hx w hw).resolve_left (still w hw)
    refine .inr ⟨wait, fun hm => ?_⟩
    obtain ⟨choose, -⟩ := move hm
    obtain hp | hp := hs w hw <;> simp [choose] at hp

/-- A decision's requester is a sweep that decides, its claim off the list, or no sweep. -/
def Books.Asker (p : Port) (r : Requester) (b : Books) : Prop :=
  ∀ n i, r = .sweep n i → (∀ m, (p, m) ∉ b.asks) ∧ (b.account p).Decides n

theorem Books.asker_of_none {p : Port} {r : Requester} {b : Books} (h : ∀ n i, r ≠ .sweep n i) : b.Asker p r := fun n i hr => absurd hr (h n i)

theorem Books.Asker.of_eq {p : Port} {r : Requester} {b c : Books} (h : b.Asker p r) (hc : c = b) : c.Asker p r := hc ▸ h

theorem Books.Sound.snapSkipped {x y : Option Port} {l : List (Port × SlotNo)} {p : Port} {n : SlotNo} {k : Skip} {e : Event}
    (h : ((books e.toState).owing l).Sound x y) : ((books (Machine.snapSkipped p n k e).toState).owing l).Sound x y := by
  unfold Machine.snapSkipped
  split
  · exact h
  · split
    · exact Books.Sound.endSnap (h.of_eq (congrArg (Books.owing l) (books_skipReason k e)))
    · exact h

theorem Books.Sound.sweepSkipped {x y : Option Port} {l : List (Port × SlotNo)} {p : Port} {n : SlotNo} {e : Event}
    (h : ((books e.toState).owing l).Sound x y) (asks : ∀ m, (p, m) ∉ ((books e.toState).owing l).asks)
    (hd : ((books e.toState).account p).Decides n) : ((books (Machine.sweepSkipped p n e).toState).owing l).Sound x y := by
  unfold Machine.sweepSkipped
  split
  · exact h
  · split
    · obtain ⟨v, hv, -, deciding⟩ := hd
      exact h.recordStep asks fun w hw => .inl (Option.some.inj (hv.symm.trans hw) ▸ deciding)
    · exact h

theorem Books.Sound.skip {x y : Option Port} {l : List (Port × SlotNo)} {p : Port} {r : Requester} {k : Skip} {e : Event}
    (h : ((books e.toState).owing l).Sound x y) (hr : ((books e.toState).owing l).Asker p r) :
    ((books (Machine.skip p r k e).toState).owing l).Sound x y := by
  have counted := books_skips p (fun v => modAt v k.index (· + 1)) e
  have sound := h.of_eq (congrArg (Books.owing l) counted)
  unfold Machine.skip
  dsimp only
  rw [books_tellIfDrained]
  cases r with
  | snap n => exact sound.snapSkipped
  | sweep n i =>
    obtain ⟨asks, decides⟩ := hr.of_eq (congrArg (Books.owing l) counted) n i rfl
    exact sound.sweepSkipped asks decides
  | step i j => exact sound
  | trace => exact sound

/-- A skip that no SNAP and no sweep asked for is counted alone. -/
theorem books_skip_trace (p : Port) (k : Skip) (e : Event) : books (skip p .trace k e).toState = books e.toState := by
  unfold skip
  dsimp only
  rw [books_tellIfDrained]
  exact books_skips p (fun v => modAt v k.index (· + 1)) e

theorem Books.Sound.fired {x y : Option Port} {l : List (Port × SlotNo)} {p : Port} {r : Requester} {tag : Half} {n : Nat} {e : Event}
    (h : ((books e.toState).owing l).Sound x y) (hr : ((books e.toState).owing l).Asker p r) :
    ((books (Machine.fired p r tag n e).toState).owing l).Sound x y := by
  unfold Machine.fired
  cases r with
  | snap m =>
    refine h.of_eq (congrArg (Books.owing l) (books_modPort_same (fun q => ?_) e))
    have slot : (q.snap.map fun r => { r with shot := some (tag, n) }).map SnapRun.slot = q.snap.map SnapRun.slot := by
      rw [Option.map_map]
      rfl
    exact congrArg (fun o => { q.account with work := { q.work with snap := o } }) slot
  | sweep m i =>
    obtain ⟨asks, v, hv, -, deciding⟩ := hr m i rfl
    have still : ∀ w, ((books e.toState).account p).work.sweep = some w → w.phase = .deciding := fun w hw =>
      Option.some.inj (hv.symm.trans hw) ▸ deciding
    have calm : ∀ w, ((books e.toState).account p).work.sweep = some w → ¬ w.Moves := fun w hw hm => by
      simp [SweepRun.Moves, still w hw] at hm
    rw [books_modSweep]
    refine Books.Sound.resweep (b := (books e.toState).owing l) h (by exact fun _ => rfl) (fun _ _ _ => rfl) (fun w hw => ?_)
      (fun hx w hw => ?_) fun k hk => absurd hk (asks k)
    · exact .inr (((h.account p).served w hw).resolve_left (calm w hw))
    · obtain ⟨wait, move⟩ := ((h.account p).steady hx w hw).resolve_left (calm w hw)
      exact .inr ⟨wait, fun hm => absurd (move hm).1 (by simp [still w hw])⟩
  | step i j => exact h
  | trace => exact h

theorem Books.Sound.fire {x y : Option Port} {l : List (Port × SlotNo)} {p : Port} {r : Requester} {exposure n : Nat} {e : Event}
    (h : ((books e.toState).owing l).Sound x y) (hr : ((books e.toState).owing l).Asker p r) :
    ((books (Machine.fire p r exposure n e).toState).owing l).Sound x y := by
  have fires : ∀ z : Event, books (modPort p (fun q => { q with fires := q.fires + 1 }) z).toState = books z.toState :=
    fun z => books_modPort_same (by exact fun _ => rfl) z
  unfold Machine.fire
  split
  · exact h.of_eq (congrArg (Books.owing l) ((books_tellIfDrained ..).trans (books_returnGiven ..)))
  · extract_lets tag src e1 k e2
    split
    · have given : books (modPort p (fun q => { q with fires := q.fires + 1 }) e2).toState = books e.toState :=
        (fires e2).trans ((books_modEntry ..).trans (books_give ..))
      exact Books.Sound.fired (h.of_eq (congrArg (Books.owing l) given)) (hr.of_eq (congrArg (Books.owing l) given))
    · exact Books.Sound.skip (e := e1) h hr

/-- A fire decision (R109 to R111, R121). -/
theorem Books.Sound.decideFire {x y : Option Port} {p : Port} {r : Requester} {exposure : Nat} {e : Event}
    (h : (books e.toState).Sound x y) (hr : (books e.toState).Asker p r) :
    (books (Machine.decideFire p r exposure e).toState).Sound x y := by
  unfold Machine.decideFire
  split
  · exact Books.Sound.skip (l := []) h hr
  · split
    · exact Books.Sound.skip (l := []) h hr
    · exact Books.Sound.skip (l := []) h hr
    · next n _ =>
      have reserved : books (reserve n p .frame e).toState = books e.toState := books_reserve ..
      exact Books.Sound.fire (l := []) (h.of_eq reserved) (hr.of_eq reserved)
    · rw [books_notice]
      have waits : (e.pool.claims ++ [({ port := p, requester := r, exposure, begun := false, status := .live } : BufClaim)]).filterMap BufClaim.ask =
          (books e.toState).asks ++ (BufClaim.ask { port := p, requester := r, exposure, begun := false, status := .live }).toList := by
        rw [List.filterMap_append]
        congr 1
      have asked : books ({ e with pool := { e.pool with
          claims := e.pool.claims ++ [{ port := p, requester := r, exposure, begun := false, status := .live }] } } : Event).toState =
          { books e.toState with asks := (books e.toState).asks ++
            (BufClaim.ask { port := p, requester := r, exposure, begun := false, status := .live }).toList } :=
        congrArg (fun a => { books e.toState with asks := a }) waits
      rw [asked]
      cases r with
      | sweep n i =>
        obtain ⟨asks, decides⟩ := hr n i rfl
        refine { h with asked := fun a ha => ?_, single := ?_ }
        · obtain ha | ha := List.mem_append.mp ha
          · exact h.asked a ha
          · have here : a = (p, n) := by simpa [BufClaim.ask] using ha
            rw [here]
            exact decides
        · change (((books e.toState).asks ++ [(p, n)]).map Prod.fst).Nodup
          rw [List.map_append, List.nodup_append]
          refine ⟨h.single, by simp, fun a ha b hb => ?_⟩
          obtain ⟨⟨a1, a2⟩, hm, rfl⟩ := List.mem_map.mp ha
          rw [List.map_singleton, List.mem_singleton] at hb
          subst hb
          rintro rfl
          exact asks a2 hm
      | snap n | step i j | trace => exact h.of_eq (by simp [BufClaim.ask])

/-! ## The second judgement (R121) -/

theorem books_rejudgeDropped (c : BufClaim) (k : BufKind) (e : Event) : books (rejudgeDropped c k e).toState = books e.toState := by
  have count : ∀ why (z : Event), books (if c.status = .orphan then skip c.port .trace why z else z).toState = books z.toState :=
    fun why z => by
      split
      · exact books_skip_trace ..
      · rfl
  unfold rejudgeDropped
  dsimp only
  split
  · simp
  · exact count _ e
  · exact count _ e
  · exact count _ e

/-- A claim that has left the list is judged again. -/
theorem Books.Sound.rejudgeClaim {x y : Option Port} {l : List (Port × SlotNo)} {c : BufClaim} {e : Event}
    (h : ((books e.toState).owing (c.ask.toList ++ l)).Sound x y) :
    ((books (Machine.rejudgeClaim c e).toState).owing l).Sound x y := by
  have less : ((books e.toState).owing l).Sound x y := by
    have sub : (l ++ (books e.toState).asks).Sublist (c.ask.toList ++ l ++ (books e.toState).asks) := by
      rw [List.append_assoc]
      exact List.sublist_append_right _ _
    exact h.asking (l := l ++ (books e.toState).asks) sub.subset (h.single.sublist (sub.map _))
  have same : ∀ {z : Event}, books z.toState = books e.toState → ((books z.toState).owing l).Sound x y := fun hz =>
    less.of_eq (congrArg (Books.owing l) hz)
  have judged : ∀ r, c.requester = r → c.status = .live → ((books e.toState).owing l).Asker c.port r := by
    intro r hr hl n i hn
    have ask : c.ask = some (c.port, n) := by simp [BufClaim.ask, hr, hl, hn]
    refine ⟨fun m hm => ?_, h.asked (c.port, n) (by simp [Books.owing, ask])⟩
    have distinct : (((c.port, n) :: (l ++ (books e.toState).asks)).map Prod.fst).Nodup := by
      have := h.single
      rwa [ask] at this
    rw [List.map_cons, List.nodup_cons] at distinct
    exact distinct.1 (List.mem_map.mpr ⟨_, hm, rfl⟩)
  unfold Machine.rejudgeClaim
  split
  · split
    · exact same (by rw [books_traceAnswer, books_takeTrace])
    all_goals exact same (books_traceAnswer ..)
  · exact same (books_rejudgeDropped ..)
  · next hst _ =>
    have asker := judged _ rfl hst
    split
    · next n _ =>
      have reserved : books (reserve n c.port .frame e).toState = books e.toState := books_reserve ..
      exact (same reserved).fire (asker.of_eq (congrArg (Books.owing l) reserved))
    all_goals exact less.skip asker
  · exact same (books_rejudgeDropped ..)

theorem Books.Sound.rejudgeAll {x y : Option Port} (cs : List BufClaim) : ∀ {e : Event},
    ((books e.toState).owing (cs.filterMap BufClaim.ask)).Sound x y →
    (books (cs.foldl (fun acc c => Machine.rejudgeClaim c acc) e).toState).Sound x y := by
  induction cs with
  | nil => exact fun h => h
  | cons c cs ih =>
    intro e h
    have split : (c :: cs).filterMap BufClaim.ask = c.ask.toList ++ cs.filterMap BufClaim.ask := by
      rw [List.filterMap_cons]
      cases c.ask <;> rfl
    rw [split] at h
    exact ih h.rejudgeClaim

theorem Books.Sound.rejudgeClaims {x y : Option Port} {e : Event} (h : (books e.toState).Sound x y) :
    (books (Machine.rejudgeClaims e).toState).Sound x y := by
  refine Books.Sound.rejudgeAll (e := { e with pool := { e.pool with claims := e.pool.claims.filter fun c => !c.begun } }) _ ?_
  have parts : ((e.pool.claims.filter (·.begun)).filterMap BufClaim.ask ++
      (e.pool.claims.filter fun c => !c.begun).filterMap BufClaim.ask).Perm (books e.toState).asks := by
    rw [← List.filterMap_append]
    exact (List.filter_append_perm _ _).filterMap _
  exact h.asking parts.subset ((parts.map _).nodup_iff.mpr h.single)

end Sys2Proof.Machine

namespace Sys2Proof.Machine

/-! ## Frames (R55, R124, R126, R128, R145) -/

theorem Books.Sound.foldl {x y : Option Port} {α : Type} {f : Event → α → Event}
    (hf : ∀ (a : α) {e : Event}, (books e.toState).Sound x y → (books (f e a).toState).Sound x y) (as : List α) :
    ∀ {e : Event}, (books e.toState).Sound x y → (books (as.foldl f e).toState).Sound x y := by
  induction as with
  | nil => exact fun h => h
  | cons a as ih => exact fun h => ih (hf a h)

theorem Books.Sound.forPorts {x y : Option Port} {f : Port → Event → Event}
    (hf : ∀ (p : Port) {e : Event}, (books e.toState).Sound x y → (books (f p e).toState).Sound x y) {ps : List Port} {e : Event}
    (h : (books e.toState).Sound x y) : (books (Machine.forPorts ps f e).toState).Sound x y := Books.Sound.foldl hf ps h

theorem Books.Sound.forProgs {x y : Option Port} {f : ProgNo → Event → Event}
    (hf : ∀ (i : ProgNo) {e : Event}, (books e.toState).Sound x y → (books (f i e).toState).Sound x y) {e : Event}
    (h : (books e.toState).Sound x y) : (books (Machine.forProgs f e).toState).Sound x y := Books.Sound.foldl hf _ h

/-- A sweep whose step has fired waits for its frame. -/
theorem Books.Sound.recordShot {x y : Option Port} {p : Port} {s : SweepStep} {e : Event} (h : (books e.toState).Sound x y)
    (hs : ∀ w, (e.port p).sweep = some w → w.shot.isSome = true) : (books (Machine.recordStep p s e).toState).Sound x y := by
  have framed : ∀ w, (e.port p).sweep = some w → w.phase = .frame := fun w hw => (h.work p).shot w hw (hs w hw)
  exact Books.Sound.recordStep (l := []) h (h.unasked fun w hw => by rw [framed w hw]; decide) fun w hw => .inr (framed w hw)

theorem Books.Sound.sweepSpoiled {x y : Option Port} {p : Port} {e : Event} (h : (books e.toState).Sound x y) :
    (books (Machine.sweepSpoiled p e).toState).Sound x y := by
  unfold Machine.sweepSpoiled
  split
  · exact h
  · next w hw =>
    split
    · exact h
    · next hs =>
      split
      · exact h.recordShot fun v hv => by rw [← Option.some.inj (hw.symm.trans hv), hs]; rfl
      · exact h

theorem Books.Sound.spoilFrames {x y : Option Port} {p : Port} {e : Event} (h : (books e.toState).Sound x y) :
    (books (Machine.spoilFrames p e).toState).Sound x y := h.sweepSpoiled.of_eq (books_loseFrames p _)

theorem Books.Sound.sweepFrame {x y : Option Port} {p : Port} {n : Nat} {tag : Half} {delivered : Bool} {e : Event}
    (h : (books e.toState).Sound x y) : (books (Machine.sweepFrame p n tag delivered e).toState).Sound x y := by
  unfold Machine.sweepFrame
  split
  · exact h
  · next w hw =>
    split
    · next hs => exact h.recordShot fun v hv => by rw [← Option.some.inj (hw.symm.trans hv), hs]; rfl
    · exact h

theorem Books.Sound.snapDelivered {x y : Option Port} {p : Port} {n : Nat} {tag : Half} {e : Event}
    (h : (books e.toState).Sound x y) : (books (Machine.snapDelivered p n tag e).toState).Sound x y := by
  unfold Machine.snapDelivered
  split
  · exact h
  · split
    · exact Books.Sound.endSnap (l := []) h
    · exact h

theorem Books.Sound.snapReturned {x y : Option Port} {p : Port} {n : Nat} {tag : Half} {e : Event}
    (h : (books e.toState).Sound x y) : (books (Machine.snapReturned p n tag e).toState).Sound x y := by
  unfold Machine.snapReturned
  split
  · exact h
  · split
    · exact Books.Sound.endSnap (l := []) h
    · exact h

theorem Books.Sound.frameEnded {x y : Option Port} {p : Port} {n : Nat} {z : Entry} {delivered : Bool} {e : Event}
    (h : (books e.toState).Sound x y) : (books (Machine.frameEnded p n z delivered e).toState).Sound x y := by
  unfold Machine.frameEnded
  dsimp only
  rw [books_tellIfDrained]
  split
  · exact h
  · refine Books.Sound.sweepFrame ?_
    split
    · exact h.snapDelivered
    · exact h.snapReturned

theorem Books.Sound.deliverFrame {x y : Option Port} {p : Port} {n : Nat} {o : FrameOutcome} {e : Event}
    (h : (books e.toState).Sound x y) : (books (Machine.deliverFrame p n o e).toState).Sound x y := by
  unfold Machine.deliverFrame
  split
  · exact h
  · exact Books.Sound.frameEnded (h.of_eq (books_deliver ..))

theorem books_snapOpened (p : Port) (n : Nat) (tag : Half) (e : Event) :
    books (snapOpened p n tag e).toState = books e.toState := by
  refine books_modPort_same (fun q => ?_) e
  have slot : (q.snap.map fun r => if r.shot = some (tag, n) then { r with opened := true } else r).map SnapRun.slot =
      q.snap.map SnapRun.slot := by
    rw [Option.map_map]
    congr 1
    funext r
    dsimp only [Function.comp]
    split <;> rfl
  exact congrArg (fun o => { q.account with work := { q.work with snap := o } }) slot

theorem Books.Sound.openFrame {x y : Option Port} {p : Port} {tag width height : Half} {d : Depth} {e : Event}
    (h : (books e.toState).Sound x y) : (books (Machine.openFrame p tag width height d e).toState).Sound x y := by
  unfold Machine.openFrame
  split
  · exact h.of_eq (books_countStray p e)
  · dsimp only
    rw [books_writeBuffer, books_snapOpened, books_modEntry]
    split
    · exact h.deliverFrame
    · exact h

theorem Books.Sound.closeFrame {x y : Option Port} {p : Port} {tag : Half} {total : Word} {status : Byte} {e : Event}
    (h : (books e.toState).Sound x y) : (books (Machine.closeFrame p tag total status e).toState).Sound x y := by
  unfold Machine.closeFrame
  split
  · exact h.of_eq (books_countStray p e)
  · exact Books.Sound.deliverFrame (h.of_eq (books_modEntry ..))

theorem Books.Sound.endWindows {x y : Option Port} {e : Event} (h : (books e.toState).Sound x y) :
    (books (Machine.endWindows e).toState).Sound x y :=
  Books.Sound.forPorts (fun _ _ hz => hz.handleFault) (h.of_eq (books_forPorts _ _ _ books_endWindow))

/-! ## Programs (R105 to R108, R112) -/

theorem Books.Sound.reachStep {x y : Option Port} {i : ProgNo} {n : Nat} {s : ProgStep} {e : Event} (h : (books e.toState).Sound x y) :
    (books (Machine.reachStep i n s e).toState).Sound x y := by
  unfold Machine.reachStep
  dsimp only
  rw [books_modProgram]
  exact Books.Sound.forPorts (fun _ _ hz => hz.decideFire (Books.asker_of_none fun _ _ => by simp)) (h.of_eq (books_lightStep ..))

theorem Books.Sound.reachFirst {x y : Option Port} {i : ProgNo} (ss : List ProgStep) : ∀ (n : Nat) {e : Event},
    (books e.toState).Sound x y → (books (Machine.reachFirst i ss n e).toState).Sound x y := by
  induction ss with
  | nil => exact fun _ _ h => h
  | cons s ss ih =>
    intro n e h
    unfold Machine.reachFirst
    split
    · exact ih _ h.reachStep
    · exact h

theorem Books.Sound.sourceEvent {x y : Option Port} {i : ProgNo} {e : Event} (h : (books e.toState).Sound x y) :
    (books (Machine.sourceEvent i e).toState).Sound x y := by
  unfold Machine.sourceEvent
  dsimp only
  split
  · exact h
  · exact h.of_eq (books_modProgram i _ e)
  · split
    · exact h
    · exact Books.Sound.reachFirst _ _ (h.of_eq (books_modProgram i _ e))

theorem Books.Sound.lineEvent {x y : Option Port} {rise : Bool} {i : ProgNo} {e : Event} (h : (books e.toState).Sound x y) :
    (books (Machine.lineEvent rise i e).toState).Sound x y := by
  unfold Machine.lineEvent
  dsimp only
  split
  · exact h.sourceEvent
  · exact h

theorem Books.Sound.encoderEvent {x y : Option Port} {i : ProgNo} {e : Event} (h : (books e.toState).Sound x y) :
    (books (Machine.encoderEvent i e).toState).Sound x y := by
  unfold Machine.encoderEvent
  dsimp only
  split
  · exact Books.Sound.sourceEvent (h.of_eq (books_modProgram ..))
  · exact h

theorem Books.Sound.countEdge {x y : Option Port} {divider : Nat} {e : Event} (h : (books e.toState).Sound x y) :
    (books (Machine.countEdge divider e).toState).Sound x y := by
  unfold Machine.countEdge
  split
  · exact h.of_eq (books_trigger ..)
  · exact Books.Sound.forProgs (fun _ _ hz => hz.encoderEvent) (h.of_eq (books_trigger ..))

theorem Books.Sound.disarmProgram {x y : Option Port} {i : ProgNo} {e : Event} (h : (books e.toState).Sound x y) :
    (books (Machine.disarmProgram i e).toState).Sound x y := Books.Sound.markClaims (by decide) (h.of_eq (books_modProgram ..))

theorem Books.Sound.disarmOrder {x y : Option Port} {i : ProgNo} {e : Event} (h : (books e.toState).Sound x y) :
    (books (Machine.disarmOrder i e).toState).Sound x y := by
  unfold Machine.disarmOrder
  split
  · exact h
  · exact h.disarmProgram

/-! ## Sweeps of areas (R11, R12, R121) -/

theorem Books.Sound.endPoolSweep {x y : Option Port} {e : Event} (h : (books e.toState).Sound x y) :
    (books (Machine.endPoolSweep e).toState).Sound x y := by
  unfold Machine.endPoolSweep
  dsimp only
  split
  · exact h.rejudgeClaims.of_eq (books_startRebuild ..)
  · exact h.rejudgeClaims

theorem Books.Sound.endArea {x y : Option Port} {a : Area} {again : Bool} {e : Event} (h : (books e.toState).Sound x y) :
    (books (Machine.endArea a again e).toState).Sound x y := by
  have set := h.of_eq (books_setArea a (if again then .pending else .idle) e)
  unfold Machine.endArea
  cases a with
  | pool => exact set.endPoolSweep
  | cellSheet | portSheet p | orders => exact set

theorem Books.Sound.nextRecord {x y : Option Port} {a : Area} {e : Event} (h : (books e.toState).Sound x y) :
    (books (Machine.nextRecord a e).toState).Sound x y := by
  unfold Machine.nextRecord
  split
  · split
    · exact h.of_eq (books_readRecord ..)
    · exact h.endArea
  all_goals exact h

theorem Books.Sound.beginArea {x y : Option Port} {a : Area} {e : Event} (h : (books e.toState).Sound x y) :
    (books (Machine.beginArea a e).toState).Sound x y := by
  have begun : books ({ e with pool := { e.pool with claims := e.pool.claims.map fun c => { c with begun := true } } } : Event).toState =
      books e.toState := books_pool (by
    rw [List.filterMap_map]
    rfl)
  unfold Machine.beginArea
  extract_lets waits src e1
  have same : (books e1.toState).Sound x y := by
    unfold e1
    cases a with
    | pool => exact h.of_eq begun
    | cellSheet | portSheet p | orders => exact h
  split
  · split
    · exact same.endArea
    · exact same.of_eq (books_readRecord ..)
  · exact h

theorem Books.Sound.failRecord {x y : Option Port} {a : Area} {e : Event} (h : (books e.toState).Sound x y) :
    (books (Machine.failRecord a e).toState).Sound x y := by
  unfold Machine.failRecord
  split
  · exact Books.Sound.nextRecord (h.of_eq (books_countReadError e))
  · exact h

theorem Books.Sound.afterRecord {x y : Option Port} {a : Area} {e : Event} (h : (books e.toState).Sound x y) :
    (books (Machine.afterRecord a e).toState).Sound x y := by
  unfold Machine.afterRecord
  split
  · exact h.of_eq (books_setArea ..)
  · exact h.nextRecord

theorem Books.Sound.carriedOn {x y : Option Port} {e : Event} (h : (books e.toState).Sound x y) :
    (books (Machine.carriedOn e).toState).Sound x y := Books.Sound.nextRecord (e := { e with handed := none }) h

end Sys2Proof.Machine

namespace Sys2Proof.Machine

/-! ## Order records (R39, R41, R51) -/

theorem Books.Sound.unqueued {x y : Option Port} {b : Books} (h : b.Sound x y) {n : SlotNo} (hq : (b.slot n).1 ≠ .queued)
    (hr : (b.slot n).1 ≠ .running) : b.Unqueued n := fun p hm => by
  obtain ⟨state, -⟩ := (h.work p).queued n hm
  exact state.elim hq hr

/-- A slot whose order is not for a queue stands in none. -/
theorem Books.Sound.unqueued_of_order {x y : Option Port} {b : Books} (h : b.Sound x y) {n : SlotNo}
    (ho : (b.slot n).2.bind Order.queuePort = none) : b.Unqueued n := fun p hm => by
  obtain ⟨-, port⟩ := (h.work p).queued n hm
  rw [ho] at port
  cases port

/-- An accepted order joins the queue of its port. -/
theorem Books.Sound.joinQueue {x y : Option Port} {p : Port} {n : SlotNo} {e : Event} (h : (books e.toState).Sound x y)
    (hn : (books e.toState).Unqueued n) (ho : ((books e.toState).slot n).2.bind Order.queuePort = some p) :
    (books (Machine.joinQueue p n e).toState).Sound x y := by
  have joined : ∀ z : Event, books (modPort p (fun q => { q with queue := q.queue ++ [.order n] }) z).toState =
      (books z.toState).put p fun a => { a with work := { a.work with queue := a.work.queue ++ [.order n] } } :=
    fun z => books_modPort (by exact fun _ => rfl) z
  have queued : books (modSlot n (fun x => { x with state := .queued, reason := .none, field := 0, results := [] }) e).toState =
      (books e.toState).onSlots (Function.update (books e.toState).slot n (.queued, (e.slots.get n).order)) := books_modSlot rfl
  have sound : (((books e.toState).put p fun a => { a with work := { a.work with queue := a.work.queue ++ [.order n] } }).onSlots
      (Function.update (books e.toState).slot n (.queued, (e.slots.get n).order))).Sound x y := by
    have work := h.work p
    have free : .order n ∉ ((books e.toState).account p).work.queue := hn p
    refine h.rework rfl ((h.account p).rework (.inr rfl)) ⟨fun e' he => ?_, fun m hm => ?_, fun m => ?_, work.shot⟩
      (fun q _ m hm => ?_) fun m hm => h.asked _ hm
    · obtain ⟨alone, head, running⟩ := work.job e' he
      refine ⟨alone, by rw [List.head?_append, head]; rfl, fun m hm => ?_⟩
      subst hm
      rw [Function.update_of_ne (by rintro rfl; exact free (List.mem_of_head? head))]
      exact running m rfl
    · obtain hq | hq := List.mem_append.mp hm
      · rw [Function.update_of_ne (by rintro rfl; exact free hq)]
        exact work.queued m hq
      · obtain rfl : m = n := by simpa using hq
        rw [Function.update_self]
        exact ⟨.inl rfl, ho⟩
    · rw [List.count_append, List.count_singleton]
      have once := work.once m
      by_cases hm : m = n
      · subst hm
        rw [List.count_eq_zero_of_not_mem free]
        split <;> omega
      · simpa [Ne.symm hm] using once
    · exact Function.update_of_ne (by rintro rfl; exact hn q hm) _ _
  unfold Machine.joinQueue
  dsimp only
  split
  · rw [books_touch, joined, books_writeAnswer, queued]
    exact sound
  · rw [joined, books_writeAnswer, queued]
    exact sound

theorem Books.Sound.takeOrder {x y : Option Port} {n : SlotNo} {bytes : List Byte} {e : Event} (h : (books e.toState).Sound x y)
    (hq : (e.slots.get n).state ≠ .queued) (hr : (e.slots.get n).state ≠ .running) :
    (books (Machine.takeOrder n bytes e).toState).Sound x y := by
  have free : (books e.toState).Unqueued n := h.unqueued hq hr
  unfold Machine.takeOrder
  extract_lets e1
  have read : books e1.toState = books e.toState := books_modSlot_same (by exact fun _ => ⟨rfl, rfl⟩) e
  split
  · exact Books.Sound.finishSlot (h.of_eq read) (read ▸ free)
  · next o _ =>
    extract_lets e2 e3
    have ordered : books e2.toState = (books e1.toState).onSlots
        (Function.update (books e1.toState).slot n ((e1.slots.get n).state, some o)) := books_modSlot rfl
    have sound : (books e2.toState).Sound x y := by
      rw [ordered]
      exact (h.of_eq read).reslot (read ▸ free)
    have free2 : (books e2.toState).Unqueued n := by
      rw [ordered, read]
      exact free
    split
    · exact sound.refuseSlot free2
    · change (books e3.toState).Sound x y
      unfold e3
      cases hp : o.queuePort with
      | none => exact sound
      | some p =>
        refine sound.joinQueue free2 ?_
        rw [ordered, Books.onSlots_slot, Function.update_self]
        exact hp

theorem Books.Sound.dealOrder {x y : Option Port} {n : SlotNo} {bytes : List Byte} {e : Event} (h : (books e.toState).Sound x y) :
    (books (Machine.dealOrder n bytes e).toState).Sound x y := by
  unfold Machine.dealOrder
  dsimp only
  split
  · exact h
  · split
    · exact h.of_eq (books_modSlot_same (by exact fun _ => ⟨rfl, rfl⟩) e)
    · next hs =>
      rw [not_or] at hs
      exact h.takeOrder hs.1 hs.2

end Sys2Proof.Machine

namespace Sys2Proof.Machine

/-! ## Claims and loose lenses -/

theorem Account.Sound.congr {l d l' d' : Prop} {g : Budget} {p : Port} {a : Account} (h : a.Sound l d g p) (hl : l' ↔ l)
    (hd : d' ↔ d) : a.Sound l' d' g p := by
  obtain rfl := propext hl
  obtain rfl := propext hd
  exact h

/-- No claim of one kind waits for port p. -/
def Books.Unclaimed (p : Port) (k : ClaimKind) (b : Books) : Prop := ∀ c ∈ b.budget.waitList, c.port = p → c.kind ≠ k

theorem Books.Sound.unclaimed {x y : Option Port} {b : Books} (h : b.Sound x y) {p : Port}
    (hw : (b.account p).lens.state ≠ .waitPower) : b.Unclaimed p .lensMotion := by
  intro c hc hp hk
  have stands := (h.account p).claim c hc hp
  simp only [PowerClaim.StandsOn, hk] at stands
  exact hw stands.2.2.1

/-- The wait list may lose claims. -/
theorem Books.Sound.lose {x y : Option Port} {b : Books} (h : b.Sound x y) {l : List PowerClaim} (hl : l.Sublist b.budget.waitList) :
    Books.Sound x y { b with budget := { b.budget with waitList := l } } :=
  { h with
    account := fun p => { h.account p with claim := fun c hc => (h.account p).claim c (hl.subset hc) }
    claims := h.claims.sublist (hl.map _) }

theorem Books.Sound.withdraw {x y : Option Port} {e : Event} (h : (books e.toState).Sound x y) (p : Port) (k : ClaimKind) :
    (books (Machine.withdraw p k e).toState).Sound x y := h.lose List.filter_sublist

theorem unclaimed_withdraw (p : Port) (k : ClaimKind) (e : Event) : (books (withdraw p k e).toState).Unclaimed p k := by
  intro c hc hp hk
  obtain ⟨-, hkept⟩ := List.mem_filter.mp hc
  simp [hp, hk] at hkept

/-- A lens that neither moves nor waits for power may go between two states. -/
theorem Books.Sound.loosen {y : Option Port} {b : Books} (h : b.Sound none y) {p : Port} (hm : (b.account p).lens.state ≠ .moving)
    (hc : b.Unclaimed p .lensMotion) : b.Sound (some p) y :=
  { h with
    account := fun q => by
      by_cases hq : q = p
      · subst hq
        have law := h.account q
        refine { law with
          motion := fun hl => absurd rfl hl
          still := fun _ => ?_
          claim := fun c hw hp => ?_
          idle := fun hl => absurd rfl hl
          steady := fun hl => absurd rfl hl }
        · by_contra hz
          exact hm ((law.motion (by simp)).mp hz)
        · have stands := law.claim c hw hp
          have other := hc c hw hp
          unfold PowerClaim.StandsOn at stands ⊢
          cases hk : c.kind <;> simp_all
      · exact (h.account q).congr (by simp [Ne.symm hq]) .rfl }

theorem Books.Sound.loosen_resting {y : Option Port} {b : Books} (h : b.Sound none y) {p : Port}
    (hm : (b.account p).lens.state ≠ .moving) (hw : (b.account p).lens.state ≠ .waitPower) : b.Sound (some p) y :=
  h.loosen hm (h.unclaimed hw)

/-- A loose lens that does not move is at rest again. -/
theorem Books.Sound.tighten {y : Option Port} {b : Books} {p : Port} (h : b.Sound (some p) y)
    (hm : (b.account p).lens.state ≠ .moving) (hi : (b.account p).lens.state = .idle → (b.account p).lens.stagedBy = .sheet)
    (hw : (b.account p).lens.state = .waitPower → ∀ w, (b.account p).work.sweep = some w → w.Moves) : b.Sound none y :=
  { h with
    account := fun q => by
      by_cases hq : q = p
      · subst hq
        have law := h.account q
        refine { law with
          motion := fun _ => ?_
          still := fun hl => (by cases hl)
          claim := fun c hw hp => ?_
          idle := fun _ => hi
          steady := fun _ w hsw => ?_ }
        · simp [law.still rfl, hm]
        · have stands := law.claim c hw hp
          unfold PowerClaim.StandsOn at stands ⊢
          cases hk : c.kind <;> simp_all
        · by_cases hs : (b.account q).lens.state = .waitPower
          · exact .inl (hw hs w hsw)
          · exact .inr ⟨hs, fun hmv => absurd hmv hm⟩
      · exact (h.account q).congr (by simp [Ne.symm hq]) .rfl }

/-- A loose lens may be changed at will, but for a server that its sweep does not move for. -/
theorem Books.Sound.modLens {y : Option Port} {p : Port} {e : Event} (h : (books e.toState).Sound (some p) y) {f : LensRec → LensRec}
    (hf : ∀ w, (e.port p).sweep = some w → w.Moves ∨ (f (e.port p).lens).stagedBy = .sheet) :
    (books (Machine.modLens p f e).toState).Sound (some p) y := by
  rw [books_modLens]
  have law := h.account p
  refine h.put_unpowered rfl { law with
    motion := fun hl => absurd rfl hl
    claim := fun c hw hp => ?_
    idle := fun hl => absurd rfl hl
    served := hf
    steady := fun hl => absurd rfl hl }
  have stands := law.claim c hw hp
  unfold PowerClaim.StandsOn at stands ⊢
  cases hk : c.kind <;> simp_all

/-- A change that keeps the server. -/
theorem Books.Sound.modLens_loose {y : Option Port} {p : Port} {e : Event} (h : (books e.toState).Sound (some p) y)
    {f : LensRec → LensRec} (hf : ∀ r, (f r).stagedBy = r.stagedBy ∨ (f r).stagedBy = .sheet) :
    (books (Machine.modLens p f e).toState).Sound (some p) y := by
  refine h.modLens fun w hw => ?_
  obtain hs | hs := hf (e.port p).lens
  · rw [hs]
    exact (h.account p).served w hw
  · exact .inr hs

theorem Books.Sound.setLens {y : Option Port} {p : Port} {e : Event} (h : (books e.toState).Sound (some p) y) (st : LensState) :
    (books (Machine.setLens p st e).toState).Sound (some p) y := by
  have moved := h.modLens_loose (f := fun r => { r with state := st }) fun _ => .inl rfl
  rwa [books_modLens, ← books_setLens] at moved

/-- A change of the lens record that keeps its state; the server stays, or is SHEET where no claim of a sweep waits. -/
theorem Books.Sound.modLens_kept {x y : Option Port} {p : Port} {e : Event} (h : (books e.toState).Sound x y) {f : LensRec → LensRec}
    (hs : (f (e.port p).lens).state = (e.port p).lens.state)
    (hb : (f (e.port p).lens).stagedBy = (e.port p).lens.stagedBy ∨ (f (e.port p).lens).stagedBy = .sheet ∧
      ((books e.toState).Unclaimed p .lensMotion ∨ (e.port p).sweep = none)) :
    (books (Machine.modLens p f e).toState).Sound x y := by
  rw [books_modLens]
  have law := h.account p
  refine h.put_unpowered rfl { law with
    motion := fun hl => (law.motion hl).trans (Eq.congr_left hs.symm)
    claim := fun c hw hp => ?_
    idle := fun hl hi => ?_
    served := fun w hw => ?_
    steady := fun hl w hw => ?_ }
  · have stands := law.claim c hw hp
    unfold PowerClaim.StandsOn at stands ⊢
    cases hk : c.kind with
    | powerUp | wake => simpa only [hk] using stands
    | lensMotion =>
      simp only [hk] at stands ⊢
      obtain ⟨hl, ha, hw', hswept⟩ := stands
      refine ⟨hl, ha, hs.trans hw', fun hx => ?_⟩
      obtain hb | ⟨-, none | none⟩ := hb
      · exact hb.trans (hswept hx)
      · exact absurd hk (none c hw hp)
      · change (e.port p).sweep.isSome = true at hx
        rw [none] at hx
        cases hx
  · obtain hb | ⟨hb, -⟩ := hb
    · exact hb.trans (law.idle hl (hs.symm.trans hi))
    · exact hb
  · obtain hb | ⟨hb, -⟩ := hb
    · exact (law.served w hw).imp id fun hm => hb.trans hm
    · exact .inr hb
  · have steady := law.steady hl w hw
    change w.Moves ∨ (f (e.port p).lens).state ≠ .waitPower ∧ ((f (e.port p).lens).state = .moving → _)
    rw [hs]
    exact steady

/-! ### Staging (R138, R139) -/

theorem books_lens (p : Port) (e : Event) : ((books e.toState).account p).lens = (e.port p).lens := rfl

theorem lens_modLens (p : Port) (f : LensRec → LensRec) (e : Event) :
    ((books (modLens p f e).toState).account p).lens = f (e.port p).lens := by
  rw [books_modLens, Books.put_self]
  rfl

theorem lens_setLens (p : Port) (st : LensState) (e : Event) :
    ((books (setLens p st e).toState).account p).lens = { (e.port p).lens with state := st } := by
  rw [books_setLens, Books.put_self]
  rfl

/-- A loose lens comes to rest. -/
theorem Books.Sound.rest {y : Option Port} {p : Port} {e : Event} (h : (books e.toState).Sound (some p) y) {st : LensState}
    (hm : st ≠ .moving) (hw : st ≠ .waitPower) (hi : st = .idle → (e.port p).lens.stagedBy = .sheet) :
    (books (Machine.setLens p st e).toState).Sound none y :=
  (h.setLens st).tighten (by rw [lens_setLens]; exact hm) (by rw [lens_setLens]; exact hi)
    (by rw [lens_setLens]; exact fun hs => absurd hs hw)

theorem Books.Sound.stage {y : Option Port} {p : Port} {e : Event} (h : (books e.toState).Sound (some p) y) (w : Axes) {s : Server}
    (hs : ∀ w, (e.port p).sweep = some w → w.Moves ∨ s = .sheet) : (books (Machine.stage p w s e).toState).Sound none y :=
  (h.modLens hs).rest (by decide) (by decide) fun hi => (by cases hi)

theorem Books.Sound.settleLens {y : Option Port} {p : Port} {e : Event} (h : (books e.toState).Sound (some p) y) :
    (books (Machine.settleLens p e).toState).Sound none y := by
  unfold Machine.settleLens
  dsimp only
  split
  · exact (h.modLens_loose fun _ => .inr rfl).rest (by decide) (by decide) fun _ => congrArg LensRec.stagedBy (lens_modLens p _ e)
  · exact h.stage _ (h.account p).served

end Sys2Proof.Machine

namespace Sys2Proof.Machine

/-! ## Grants, walks and arrivals (R62, R63) -/

/-- A port with a law outside RUN is none of those that hold or wait for an allotment. -/
theorem Books.Sound.running {x y : Option Port} {b : Books} (h : b.Sound x y) {p : Port}
    (hs : ¬ (b.account p).power.state.resting) : b.mode = .run := by
  by_contra hm
  exact hs (h.settled hm p)

theorem Books.work_put {p : Port} {f : Account → Account} {b : Books} (work : (f (b.account p)).work = (b.account p).work) (q : Port) :
    ((b.put p f).account q).work = (b.account q).work := by
  by_cases hq : q = p
  · subst hq
    rw [Books.put_self, work]
  · rw [Books.put_other hq]

/-- A change of an account that leaves the work as it is keeps the laws of the work. -/
theorem Books.Sound.put_work {x y : Option Port} {b : Books} (h : b.Sound x y) (p : Port) {f : Account → Account}
    (work : (f (b.account p)).work = (b.account p).work) :
    (∀ q, ((b.put p f).account q).work.Sound b.slot q) ∧ ∀ a ∈ b.asks, ((b.put p f).account a.1).Decides a.2 := by
  refine ⟨fun q => by rw [Books.work_put work]; exact h.work q, fun a ha => ?_⟩
  unfold Account.Decides
  rw [Books.work_put work]
  exact h.asked a ha

/-- A POWER_UP claim granted: its port is QUEUED at the tail of the inrush queue (R63, R66, R67). -/
theorem Books.Sound.grant_powerUp {x : Option Port} {e : Event} {c : PowerClaim} (hk : c.kind = .powerUp)
    (h : (books e.toState).Sound x none) (hc : c.StandsOn (x = some c.port) ((books e.toState).account c.port))
    (hn : (books e.toState).Unclaimed c.port .powerUp) (hr : c.amount ≤ room e.toState) :
    (books (grant c e).toState).Sound x none := by
  simp only [PowerClaim.StandsOn, hk] at hc
  obtain ⟨waiting, amount⟩ := hc
  have law := h.account c.port
  have unpowered : ((books e.toState).account c.port).power.base = 0 := by
    by_contra hz
    have := law.base.mp hz
    simp [waiting, PowerState.powered] at this
  have granted : books (grant c e).toState = ((books e.toState).put c.port fun a => { a with power := a.power.granted c }).onBudget
      { e.budget with
        inrush := e.budget.inrush ++ [c.port], stage := stageOf e.budget.stage (e.budget.inrush ++ [c.port]) } := by
    obtain ⟨z, hz, hg⟩ := Machine.grant_powerUp hk e
    have powered : books z.toState = (books e.toState).put c.port fun a => { a with power := a.power.granted c } := by
      rw [hz, books_setPower, books_modPower, Books.put_put]
      rfl
    rw [hg, ← powered]
    rfl
  rw [granted]
  have out : c.port ∉ e.budget.inrush := fun hm => by
    have := law.queued.mp hm
    simp [waiting] at this
  have stage : ∀ q, stageOf e.budget.stage (e.budget.inrush ++ [c.port]) = .charging q ↔ e.budget.stage = .charging q := by
    intro q
    unfold stageOf
    split <;> simp_all
  have trimming : ∀ q, stageOf e.budget.stage (e.budget.inrush ++ [c.port]) = .trimming q →
      e.budget.stage = .trimming q ∨ q ∈ e.budget.inrush ++ [c.port] := by
    intro q
    unfold stageOf
    split
    · next hl =>
      intro ht
      rw [← InrushStage.trimming.inj ht, hl]
      simp
    · exact .inl
  refine ⟨fun q => ?_, ?_, h.claims, ?_, h.inRun, h.outside, fun hm => ?_, ?_, ?_, h.single⟩
  · by_cases hq : q = c.port
    · subst hq
      simp only [Books.onBudget_account, Books.put_self]
      refine { law with
        base := by simp [PortPower.granted, PowerState.powered, amount]
        powered := fun _ => rfl
        dark := fun _ _ => rfl
        full := by simp [PortPower.granted]
        asleep := by simp [PortPower.granted]
        queued := by simp [PortPower.granted]
        charging := ?_
        trimming := fun _ => rfl
        claim := fun d hd hp => ?_ }
      · have charging : e.budget.stage = .charging c.port ↔ _ := law.charging
        rw [Books.onBudget_budget, stage, charging]
        simp [PortPower.granted, waiting]
      · have stands := law.claim d hd hp
        have other := hn d hd hp
        unfold PowerClaim.StandsOn at stands ⊢
        cases hdk : d.kind <;> simp_all
    · have rest := h.account q
      simp only [Books.onBudget_account, Books.put_other hq]
      refine { rest with queued := ?_, charging := ?_, trimming := fun ht => ?_ }
      · rw [Books.onBudget_budget, List.mem_append, List.mem_singleton, or_iff_left hq]
        exact rest.queued
      · rw [Books.onBudget_budget, stage]
        exact rest.charging
      · obtain ht | ht := trimming q ht
        · exact rest.trimming ht
        · rw [List.mem_append, List.mem_singleton, or_iff_left hq] at ht
          exact rest.queued.mp ht
  · refine List.nodup_append.mpr ⟨h.once, by simp, ?_⟩
    intro a ha b hb
    rw [List.mem_singleton.mp hb]
    rintro rfl
    exact out ha
  · have sum := (books e.toState).allotted_put c.port (fun a => { a with power := a.power.granted c })
    have fits := h.within
    have free : c.amount ≤ (books e.toState).budget.inForce - (books e.toState).allotted := by
      rw [← allotted_books]
      exact hr
    rw [Books.onBudget_allotted]
    change _ ≤ (books e.toState).budget.inForce
    simp only [PortPower.held, PortPower.granted, unpowered] at sum ⊢
    have pos : 0 < c.amount := Nat.pos_of_ne_zero amount
    omega
  · have run := h.running (p := c.port) (by rw [waiting]; simp [PowerState.resting])
    exact absurd run hm
  · exact (h.put_work c.port (f := fun a => { a with power := a.power.granted c }) rfl).1
  · exact (h.put_work c.port (f := fun a => { a with power := a.power.granted c }) rfl).2

/-- A WAKE claim granted: its port is WAKING with its full allotment (R75). -/
theorem Books.Sound.grant_wake {x : Option Port} {e : Event} {c : PowerClaim} (hk : c.kind = .wake)
    (h : (books e.toState).Sound x none) (hc : c.StandsOn (x = some c.port) ((books e.toState).account c.port))
    (hn : (books e.toState).Unclaimed c.port .wake) (hr : c.amount ≤ room e.toState) :
    (books (grant c e).toState).Sound x none := by
  simp only [PowerClaim.StandsOn, hk] at hc
  obtain ⟨standby, amount⟩ := hc
  have law := h.account c.port
  have room : c.amount ≤ (books e.toState).budget.inForce - (books e.toState).allotted := by
    rw [← allotted_books]
    exact hr
  unfold grant
  rw [hk]
  dsimp only
  rw [books_give, books_setPower, books_modPower, Books.put_put]
  refine h.put (fun _ _ => .rfl) (fun _ _ => .rfl) ?_ ?_ fun hm => ?_
  · refine { law with
      base := by simpa [PowerState.powered] using law.asleep standby
      powered := fun _ => rfl
      dark := fun _ _ => rfl
      full := fun _ => rfl
      asleep := by simp
      queued := by simpa [standby] using law.queued
      charging := by simpa [standby] using law.charging
      trimming := fun ht => by have := law.trimming ht; simp [standby] at this
      claim := fun d hd hp => ?_ }
    have stands := law.claim d hd hp
    have other := hn d hd hp
    unfold PowerClaim.StandsOn at stands ⊢
    cases hdk : d.kind <;> simp_all
  · simp only [Function.comp, PortPower.held]
    omega
  · exact absurd (h.running (p := c.port) (by rw [standby]; simp [PowerState.resting])) hm

/-- A LENS_MOTION claim granted: the lens moves on its allotment, or gives it back (R141). -/
theorem Books.Sound.grant_lens {x : Option Port} {e : Event} {c : PowerClaim} (hk : c.kind = .lensMotion)
    (h : (books e.toState).Sound x none) (hc : c.StandsOn (x = some c.port) ((books e.toState).account c.port))
    (hn : (books e.toState).Unclaimed c.port .lensMotion) (hr : c.amount ≤ room e.toState) :
    (books (grant c e).toState).Sound x none := by
  simp only [PowerClaim.StandsOn, hk] at hc
  obtain ⟨tight, amount, waits, -⟩ := hc
  have law := h.account c.port
  have room : c.amount ≤ (books e.toState).budget.inForce - (books e.toState).allotted := by
    rw [← allotted_books]
    exact hr
  have motionless : ((books e.toState).account c.port).power.motion = 0 := by
    by_contra hz
    have := (law.motion tight).mp hz
    simp [waits] at this
  have moves : ∀ w, ((books e.toState).account c.port).work.sweep = some w → w.Moves := fun w hw =>
    (law.steady tight w hw).resolve_right fun hs => hs.1 waits
  unfold grant lensGranted
  rw [hk]
  dsimp only
  split
  · next accepted =>
    have talks : ((books e.toState).account c.port).link = .talk := by
      have link : ∀ f : PortPower → PortPower, ((modPower c.port f e).port c.port).link = (e.port c.port).link :=
        fun f => by simp [port_modPower]
      simp only [accepts, link] at accepted
      exact of_decide_eq_true accepted
    have powered := law.dark (by simp) (by rw [talks]; decide)
    rw [books_setLens, books_modLens, books_give, books_modLens, books_modPower, Books.put_put, Books.put_put, Books.put_put]
    refine h.put (fun _ _ => .rfl) (fun _ _ => .rfl) ?_ ?_ fun hm => h.settled hm c.port
    · refine { law with
        powered := fun _ => powered
        motion := fun _ => by simp [amount]
        still := fun hl => absurd hl tight
        claim := fun d hd hp => ?_
        idle := fun _ hi => by simp at hi
        served := fun _ _ => .inr rfl
        steady := fun _ w hw => .inl (moves w hw) }
      have stands := law.claim d hd hp
      have other := hn d hd hp
      unfold PowerClaim.StandsOn at stands ⊢
      cases hdk : d.kind <;> simp_all
    · simp only [Function.comp, PortPower.held]
      omega
  · rw [Machine.stage, books_tell, books_setLens, books_modLens, books_modPower, books_modLens, books_modLens, books_modPower,
      Books.put_put, Books.put_put, Books.put_put, Books.put_put, Books.put_put]
    refine h.put (fun _ _ => .rfl) (fun _ _ => .rfl) ?_ ?_ fun hm => h.settled hm c.port
    · refine { law with
        powered := fun hz => absurd rfl hz
        motion := fun _ => by simp
        still := fun hl => absurd hl tight
        claim := fun d hd hp => ?_
        idle := fun _ hi => by simp at hi
        served := fun w hw => .inl (moves w hw)
        steady := fun _ w hw => .inl (moves w hw) }
      have stands := law.claim d hd hp
      have other := hn d hd hp
      unfold PowerClaim.StandsOn at stands ⊢
      cases hdk : d.kind <;> simp_all
    · simp only [Function.comp, PortPower.held]
      omega

/-- A walk grants one of the waiting claims; those left stand in the order they had (R63). -/
theorem firstFit_splits {room : Nat} {xs : List PowerClaim} {c : PowerClaim} {rest : List PowerClaim}
    (h : firstFit room xs = some (c, rest)) : c.amount ≤ room ∧ ∃ older newer, xs = older ++ c :: newer ∧ rest = older ++ newer := by
  induction xs generalizing rest with
  | nil => simp [firstFit] at h
  | cons x xs ih =>
    unfold firstFit at h
    split at h
    · next fits =>
      obtain ⟨rfl, rfl⟩ : x = c ∧ xs = rest := by simpa using h
      exact ⟨fits, [], xs, rfl, rfl⟩
    · split at h
      · next d ds hd =>
        obtain ⟨rfl, rfl⟩ : d = c ∧ x :: ds = rest := by simpa using h
        obtain ⟨fits, older, newer, hx, hr⟩ := ih hd
        exact ⟨fits, x :: older, newer, by rw [hx]; rfl, by rw [hr]; rfl⟩
      · simp at h

theorem Books.Sound.grant {x : Option Port} {e : Event} {c : PowerClaim} (h : (books e.toState).Sound x none)
    (hc : c.StandsOn (x = some c.port) ((books e.toState).account c.port)) (hn : (books e.toState).Unclaimed c.port c.kind)
    (hr : c.amount ≤ room e.toState) : (books (Machine.grant c e).toState).Sound x none := by
  cases hk : c.kind with
  | powerUp => exact h.grant_powerUp hk hc (hk ▸ hn) hr
  | wake => exact h.grant_wake hk hc (hk ▸ hn) hr
  | lensMotion => exact h.grant_lens hk hc (hk ▸ hn) hr

theorem Books.Sound.walkUpTo {x : Option Port} (n : Nat) : ∀ {e : Event}, (books e.toState).Sound x none →
    (books (Machine.walkUpTo n e).toState).Sound x none := by
  induction n with
  | zero => exact fun h => h
  | succ n ih =>
    intro e h
    unfold Machine.walkUpTo
    split
    · exact h
    · next c rest hf =>
      obtain ⟨fits, older, newer, hl, rfl⟩ := firstFit_splits hf
      have waits : c ∈ e.budget.waitList := by simp [hl]
      have shorter := h.lose (l := older ++ newer) (by
        change List.Sublist _ e.budget.waitList
        rw [hl]
        exact (List.sublist_cons_self c newer).append_left older)
      refine ih (Books.Sound.grant (e := { e with budget := { e.budget with waitList := older ++ newer } }) shorter
        ((h.account c.port).claim c waits rfl) (fun d hd hp hk => ?_) fits)
      have distinct : (e.budget.waitList.map fun c => (c.port, c.kind)).Nodup := h.claims
      rw [hl, List.map_append, List.map_cons, List.nodup_middle, List.nodup_cons, ← List.map_append] at distinct
      exact distinct.1 (List.mem_map.mpr ⟨d, hd, by rw [hp, hk]⟩)

theorem Books.Sound.walk {x : Option Port} {e : Event} (h : (books e.toState).Sound x none) :
    (books (Machine.walk e).toState).Sound x none := h.walkUpTo _

/-- A claim that stands on its port's state arrives (R62). -/
theorem Books.Sound.arrive {x : Option Port} {e : Event} {c : PowerClaim} (h : (books e.toState).Sound x none)
    (hc : c.StandsOn (x = some c.port) ((books e.toState).account c.port)) : (books (Machine.arrive c e).toState).Sound x none := by
  unfold Machine.arrive
  split
  · exact h
  · next hw =>
    refine Books.Sound.walk (e := { e with budget := { e.budget with waitList := e.budget.waitList ++ [c] } }) { h with
      account := fun p => { h.account p with claim := fun d hd hp => ?_ }
      claims := ?_ }
    · obtain hd | hd := List.mem_append.mp hd
      · exact (h.account p).claim d hd hp
      · rw [List.mem_singleton.mp hd] at hp ⊢
        subst hp
        exact hc
    · change ((e.budget.waitList ++ [c]).map fun c => (c.port, c.kind)).Nodup
      rw [List.map_append, List.nodup_append]
      refine ⟨h.claims, by simp, ?_⟩
      intro a ha b hb
      obtain ⟨d, hd, rfl⟩ := List.mem_map.mp ha
      rw [List.mem_singleton.mp hb]
      intro heq
      injection heq with hport hkind
      exact hw (List.any_eq_true.mpr ⟨d, hd, by simp [hport, hkind]⟩)

/-- The motion allotment is released, and what was freed is walked with; the lens is then between two states (R142). -/
theorem Books.Sound.releaseMotion {p : Port} {e : Event} (h : (books e.toState).Sound none none)
    (hc : (books e.toState).Unclaimed p .lensMotion) : (books (Machine.releaseMotion p e).toState).Sound (some p) none := by
  have law := h.account p
  unfold Machine.releaseMotion
  split
  · next hz =>
    refine h.loosen (fun hm => ?_) hc
    exact (law.motion (by simp)).mpr hm hz
  · refine Books.Sound.walk ?_
    rw [books_modPower]
    refine h.put (fun q hq => by simp [Ne.symm hq]) (fun _ _ => .rfl) { law with
      powered := fun hz => absurd rfl hz
      motion := fun hl => absurd rfl hl
      still := fun _ => rfl
      claim := fun c hw hp => ?_
      idle := fun hl => absurd rfl hl
      steady := fun hl => absurd rfl hl } ?_ fun hm => h.settled hm p
    · have stands := law.claim c hw hp
      have other := hc c hw hp
      unfold PowerClaim.StandsOn at stands ⊢
      cases hk : c.kind <;> simp_all
    · simp only [PortPower.held]
      omega

end Sys2Proof.Machine

namespace Sys2Proof.Machine

/-! ## Operations of the Lens Controller (R138 to R144, R147) -/

/-- The lens claim of port p arrives for a lens in WAIT_POWER, which a focus sweep has staged when one runs. -/
theorem Books.Sound.arrive_lensClaim {p : Port} {d e : Event} (h : Solvent e) (hw : (e.port p).lens.state = .waitPower)
    (hs : (e.port p).sweep.isSome = true → (e.port p).lens.stagedBy = .sweep) : Solvent (Machine.arrive (lensClaim p d) e) := by
  refine h.arrive ?_
  have amount : (lensClaim p d).amount ≠ 0 := by
    unfold lensClaim
    dsimp only
    split <;> omega
  exact ⟨by simp, amount, hw, hs⟩

/-- A STAGED lens that the sweep does not hold back. -/
structure Claimable (p : Port) (e : Event) : Prop where
  staged : (e.port p).lens.state = .staged
  own : (e.port p).sweep.isSome = true → (e.port p).lens.stagedBy = .sweep

theorem port_setLens (p q : Port) (st : LensState) (e : Event) :
    (setLens p st e).port q = if q = p then { e.port p with lens := { (e.port p).lens with state := st } } else e.port q := by
  unfold setLens
  split
  · next h =>
    split
    · next hq => subst hq; subst h; rfl
    · rfl
  · rw [port_touch, modLens, port_modPort]

theorem Books.Sound.moves {p : Port} {e : Event} (h : Solvent e) (hc : Claimable p e) :
    ∀ w, (e.port p).sweep = some w → w.Moves := fun w hw => by
  have own : (e.port p).lens.stagedBy = .sweep := hc.own (by rw [hw]; rfl)
  refine ((h.account p).served w hw).resolve_right fun hs => ?_
  change (e.port p).lens.stagedBy = _ at hs
  rw [own] at hs
  cases hs

theorem Books.Sound.claimMotion {p : Port} {e : Event} (h : Solvent e) (hc : Claimable p e) : Solvent (Machine.claimMotion p e) := by
  have loose := h.loosen_resting (p := p) (by rw [books_lens, hc.staged]; decide) (by rw [books_lens, hc.staged]; decide)
  have moves := h.moves hc
  have waiting : Solvent (Machine.setLens p .waitPower e) := by
    refine (loose.setLens .waitPower).tighten ?_ ?_ fun _ w hw => moves w ?_
    · rw [lens_setLens]
      exact fun hm => (by cases hm)
    · rw [lens_setLens]
      exact fun hi => (by cases hi)
    · change ((Machine.setLens p .waitPower e).port p).sweep = some w at hw
      simpa [port_setLens] using hw
  exact waiting.arrive_lensClaim (by simp [port_setLens]) (by simpa [port_setLens] using hc.own)

/-- The claim of a lens is withdrawn, and its record changed: the lens is then between two states. -/
theorem Books.Sound.withdraw_lens {p : Port} {e : Event} (h : Solvent e) (hm : (e.port p).lens.state ≠ .moving) :
    (books (Machine.withdraw p .lensMotion e).toState).Sound (some p) none :=
  (h.withdraw p .lensMotion).loosen hm (unclaimed_withdraw p .lensMotion e)

theorem withdraw_modLens (p q : Port) (k : ClaimKind) (f : LensRec → LensRec) (e : Event) :
    withdraw p k (modLens q f e) = modLens q f (withdraw p k e) := rfl

theorem Books.Sound.claimOnce {p : Port} {e : Event} (h : Solvent e) (hc : Claimable p e) : Solvent (Machine.claimOnce p e) := by
  have loose := h.loosen_resting (p := p) (by rw [books_lens, hc.staged]; decide) (by rw [books_lens, hc.staged]; decide)
  have moves := h.moves hc
  have waiting : Solvent (Machine.modLens p (fun r => { r with state := .waitPower }) e) := by
    refine (loose.modLens_loose (f := fun r => { r with state := .waitPower }) fun _ => .inl rfl).tighten ?_ ?_ fun _ w hw => moves w ?_
    · rw [lens_modLens]
      exact fun hm => (by cases hm)
    · rw [lens_modLens]
      exact fun hi => (by cases hi)
    · change ((Machine.modLens p _ e).port p).sweep = some w at hw
      simpa [Machine.modLens, port_modPort] using hw
  have arrived : Solvent (Machine.arrive (lensClaim p e) (Machine.modLens p (fun r => { r with state := .waitPower }) e)) :=
    waiting.arrive_lensClaim (by simp [Machine.modLens, port_modPort]) (by simpa [Machine.modLens, port_modPort] using hc.own)
  unfold Machine.claimOnce
  dsimp only
  split
  · next hw =>
    rw [withdraw_modLens]
    refine ((arrived.withdraw_lens (by simp [hw])).modLens_loose (f := fun r => { r with state := .staged })
      fun _ => .inl rfl).tighten ?_ ?_ ?_
    all_goals
      rw [lens_modLens]
      exact fun hs => (by cases hs)
  · exact arrived

theorem Books.Sound.lensTest {p : Port} {e : Event} (h : Solvent e) : Solvent (Machine.lensTest p e) := by
  unfold Machine.lensTest
  dsimp only
  split
  · next ht =>
    obtain ⟨staged, -, -, free⟩ := ht
    have claimable : Claimable p e := by
      refine ⟨staged, fun hs => ?_⟩
      unfold heldBack at free
      cases hb : (e.port p).lens.stagedBy <;> simp_all
    split
    · split
      · exact h.claimMotion claimable
      · exact h
    · split
      · exact h.claimMotion claimable
      · split
        · exact h.claimOnce claimable
        · exact h
  · exact h

theorem Books.Sound.unclaim {p : Port} {e : Event} (h : Solvent e) (hm : (e.port p).lens.state = .waitPower) :
    Solvent (Machine.unclaim p e) := (h.withdraw_lens (by simp [hm])).rest (by decide) (by decide) fun hi => (by cases hi)

theorem Books.Sound.rejudgeLens {p : Port} {e : Event} (h : Solvent e) : Solvent (Machine.rejudgeLens p e) := by
  unfold Machine.rejudgeLens
  dsimp only
  split
  · next hw =>
    split
    · exact h
    · exact h.unclaim hw
  · exact h

theorem Books.Sound.lensProbeBegins {p : Port} {e : Event} (h : Solvent e) : Solvent (Machine.lensProbeBegins p e) := by
  unfold Machine.lensProbeBegins
  split
  · next hw => exact h.unclaim hw
  · exact h

theorem formWant_state (w : Axes) (r : LensRec) : (r.formWant w).2.state = r.state ∧ (r.formWant w).2.stagedBy = r.stagedBy := ⟨rfl, rfl⟩

theorem Books.Sound.takeWant {p : Port} {w : Axes} {e : Event} (h : Solvent e) : Solvent (Machine.takeWant p w e) := by
  unfold Machine.takeWant
  obtain ⟨state, server⟩ := formWant_state w (e.port p).lens
  generalize (e.port p).lens.formWant w = x at state server
  obtain ⟨want, rec'⟩ := x
  dsimp only at state server ⊢
  obtain ⟨e1, he1⟩ : ∃ e1, e1 = Machine.modLens p (fun _ => rec') e := ⟨_, rfl⟩
  have formed : Solvent e1 := by
    rw [he1]
    exact h.modLens_kept state (.inl server)
  have lens : (e1.port p).lens = rec' := by simp [he1, Machine.modLens, port_modPort]
  have sweep : (e1.port p).sweep = (e.port p).sweep := by simp [he1, Machine.modLens, port_modPort]
  rw [← he1]
  split
  · exact (formed.modLens_kept rfl (.inl rfl)).rejudgeLens
  · next hs =>
    have replaced : Solvent (Machine.modLens p (fun r => { r with staged := want, stagedBy := .sheet }) e1) :=
      formed.modLens_kept rfl (.inr ⟨rfl, .inr (by rw [sweep]; simpa using hs)⟩)
    have loose : rec'.state ≠ .moving → rec'.state ≠ .waitPower → (books e1.toState).Sound (some p) none := fun hm hw =>
      formed.loosen_resting (by change (e1.port p).lens.state ≠ _; rw [lens]; exact hm)
        (by change (e1.port p).lens.state ≠ _; rw [lens]; exact hw)
    have unstaged : ∀ {z : Event}, LensState.idle = .idle → ((Machine.modLens p LensRec.unstage z).port p).lens.stagedBy = .sheet :=
      fun {z} _ => congrArg LensRec.stagedBy (lens_modLens p _ z)
    cases hst : rec'.state with
    | absent => exact formed
    | unknown | moving => exact replaced
    | idle | stuck =>
      dsimp only
      split
      · exact replaced
      · exact (loose (by simp [hst]) (by simp [hst])).stage _ fun _ _ => .inr rfl
    | staged =>
      dsimp only
      split
      · exact ((loose (by simp [hst]) (by simp [hst])).modLens_loose fun _ => .inr rfl).rest (by decide) (by decide) unstaged
      · exact replaced
    | waitPower =>
      dsimp only
      split
      · rw [withdraw_modLens]
        exact ((formed.withdraw_lens (by rw [lens, hst]; decide)).modLens_loose fun _ => .inr rfl).rest (by decide) (by decide) unstaged
      · exact replaced.rejudgeLens

/-! ### Losses, greetings and ends of moves -/

theorem unclaimed_of_budget {p : Port} {k : ClaimKind} {b c : Books} (h : b.Unclaimed p k) (hb : c.budget = b.budget) :
    c.Unclaimed p k := fun d hd => h d (hb ▸ hd)

/-- A change of the record under which the claim is withdrawn and the motion allotment released leaves the lens between two states. -/
theorem Books.Sound.dropMotion {p : Port} {e : Event} (h : Solvent e) {f : LensRec → LensRec}
    (hs : (f (e.port p).lens).state = (e.port p).lens.state) (hb : (f (e.port p).lens).stagedBy = .sheet) :
    (books (Machine.releaseMotion p (Machine.withdraw p .lensMotion (Machine.modLens p f e))).toState).Sound (some p) none := by
  rw [withdraw_modLens]
  exact ((h.withdraw p .lensMotion).modLens_kept hs (.inr ⟨hb, .inl (unclaimed_withdraw p .lensMotion e)⟩)).releaseMotion
    (unclaimed_withdraw p .lensMotion e)

theorem LensState.lost_still (dark : Bool) (st : LensState) :
    st.lost dark ≠ .moving ∧ st.lost dark ≠ .waitPower ∧ st.lost dark ≠ .idle := by
  cases st <;> cases dark <;> decide

/-- A loose lens goes where a loss brings it. -/
theorem Books.Sound.lost {y : Option Port} {p : Port} {e : Event} (h : (books e.toState).Sound (some p) y) (dark : Bool) (st : LensState) :
    (books (Machine.setLens p (st.lost dark) e).toState).Sound none y := by
  obtain ⟨moving, waiting, idle⟩ := LensState.lost_still dark st
  exact h.rest moving waiting fun hi => absurd hi idle

theorem Books.Sound.loseLens {p : Port} {e : Event} (h : Solvent e) (dark : Bool) : Solvent (Machine.loseLens p dark e) :=
  (h.dropMotion rfl rfl).lost dark _

/-- A loose lens holds no motion allotment to release. -/
theorem releaseMotion_loose {y : Option Port} {p : Port} {e : Event} (h : (books e.toState).Sound (some p) y) : releaseMotion p e = e :=
  if_pos ((h.account p).still rfl)

theorem Books.Sound.loseLens_loose {y : Option Port} {p : Port} {e : Event} (h : (books e.toState).Sound (some p) y) (dark : Bool) :
    (books (Machine.loseLens p dark e).toState).Sound none y := by
  have withdrawn := (h.modLens_loose (f := LensRec.lose dark) fun _ => .inr rfl).withdraw p .lensMotion
  unfold Machine.loseLens
  dsimp only
  rw [releaseMotion_loose withdrawn]
  exact withdrawn.lost dark _

theorem Books.Sound.greetLens {p : Port} {k : LensKind} {hello : HelloPacket} {e : Event} (h : Solvent e) :
    Solvent (Machine.greetLens p k hello e) :=
  (h.dropMotion rfl rfl).rest (by split <;> decide) (by split <;> decide) fun hi => (by split at hi <;> cases hi)

theorem Books.Sound.takeReport {p : Port} {l : LensPacket} {e : Event} (h : Solvent e) : Solvent (Machine.takeReport p l e) :=
  h.modLens_kept rfl (.inl rfl)

theorem port_takeReport (p : Port) (l : LensPacket) (e : Event) :
    ((takeReport p l e).port p).lens.state = (e.port p).lens.state := by simp [takeReport, modLens, port_modPort]

theorem Books.Sound.endMove {p : Port} {l : LensPacket} {e : Event} (h : Solvent e) (hm : (e.port p).lens.state = .moving) :
    Solvent (Machine.endMove p l e) := by
  have stopped : Solvent (Machine.modLens p (fun r => { r with stuckAt := none }) (Machine.takeReport p l e)) :=
    h.takeReport.modLens_kept rfl (.inl rfl)
  have released := stopped.releaseMotion (p := p) (stopped.unclaimed (by
    rw [books_modLens, Books.put_self]
    change ((Machine.takeReport p l e).port p).lens.state ≠ _
    rw [port_takeReport, hm]
    decide))
  unfold Machine.endMove
  extract_lets best e1 e2
  rw [Solvent, books_tell, books_tell]
  refine Books.Sound.settleLens ?_
  exact released.modLens_loose fun _ => .inl rfl

theorem Books.Sound.lensReport {p : Port} {l : LensPacket} {e : Event} (h : Solvent e) : Solvent (Machine.lensReport p l e) := by
  have loose : (e.port p).lens.state ≠ .moving → (e.port p).lens.state ≠ .waitPower →
      (books (Machine.takeReport p l e).toState).Sound (some p) none := fun hm hw =>
    h.takeReport.loosen_resting (by change ((Machine.takeReport p l e).port p).lens.state ≠ _; rwa [port_takeReport])
      (by change ((Machine.takeReport p l e).port p).lens.state ≠ _; rwa [port_takeReport])
  unfold Machine.lensReport
  split
  · exact h
  · next hu =>
    split
    · exact (loose (by simp [hu]) (by simp [hu])).settleLens
    · exact h
  · exact h.takeReport
  · exact h.takeReport
  · exact h.takeReport
  · next hm =>
    split
    · exact h.endMove hm
    · exact h.takeReport
  · next hs =>
    split
    · exact (loose (by simp [hs]) (by simp [hs])).settleLens
    · exact h.takeReport

/-! ### Focus sweeps (R144 to R147) -/

/-- The sweep's hold on sheet wants ends: a claim that waits is the sweep's own, and is withdrawn (R147). -/
theorem Books.Sound.releaseWants {p : Port} {e : Event} (h : Solvent e) (hs : (e.port p).sweep.isSome = true) :
    Solvent (Machine.releaseWants p e) := by
  unfold Machine.releaseWants
  extract_lets r own e1 e2
  have unclaimed : (books e1.toState).Unclaimed p .lensMotion := by
    by_cases hw : (e.port p).lens.state = .waitPower
    · by_cases ho : (e.port p).lens.stagedBy = .sweep
      · have dropped : e1 = Machine.withdraw p .lensMotion e := if_pos (by simp [own, r, ho, hw])
        rw [dropped]
        exact unclaimed_withdraw p .lensMotion e
      · have kept : e1 = e := if_neg (by simp [own, r, ho])
        rw [kept]
        intro c hc hp hk
        have stands := (h.account p).claim c hc hp
        simp only [PowerClaim.StandsOn, hk] at stands
        exact ho (stands.2.2.2 hs)
    · have kept : e1 = e := if_neg (by simp [r, hw])
      rw [kept]
      exact h.unclaimed hw
  have sound : Solvent e1 := by
    unfold e1
    split
    · exact h.withdraw p .lensMotion
    · exact h
  have lens : ((books e1.toState).account p).lens = r := by
    unfold e1
    split <;> rfl
  have settled : r.state ≠ .moving → Solvent (Machine.settleLens p e2) := fun hm =>
    ((sound.loosen (p := p) (by rwa [lens]) unclaimed).modLens_loose fun _ => .inr rfl).settleLens
  have kept : Solvent e2 := sound.modLens_kept rfl (.inr ⟨rfl, .inl unclaimed⟩)
  split
  · next hst => exact settled (by rw [hst]; decide)
  · next hst => exact settled (by rw [hst]; decide)
  · next hst => exact settled (by rw [hst]; decide)
  all_goals exact kept

theorem asks_orphaned (n : SlotNo) (q : Port) (e : Event) : (q, n) ∉ (books (markClaims (Requester.isSweep n) .orphan e).toState).asks := by
  intro hm
  obtain ⟨c, hc, ask⟩ := List.mem_filterMap.mp hm
  obtain ⟨d, -, rfl⟩ := List.mem_map.mp hc
  unfold BufClaim.ask at ask
  split at ask
  · next hr hl =>
    obtain ⟨rfl, rfl⟩ : _ = q ∧ _ = n := by simpa using ask
    split at hr
    · next marked =>
      rw [if_pos marked] at hl
      cases hl
    · next unmarked =>
      rw [if_neg unmarked] at hl
      exact unmarked (by rw [hr, hl]; simp [Requester.isSweep])
  · cases ask

theorem work_modLens (p q : Port) (f : LensRec → LensRec) (e : Event) :
    ((books (modLens p f e).toState).account q).work = ((books e.toState).account q).work := by
  rw [books_modLens]
  exact Books.work_put rfl q

theorem work_setLens (p q : Port) (st : LensState) (e : Event) :
    ((books (setLens p st e).toState).account q).work = ((books e.toState).account q).work := by
  rw [books_setLens]
  exact Books.work_put rfl q

theorem work_settleLens (p q : Port) (e : Event) :
    ((books (settleLens p e).toState).account q).work = ((books e.toState).account q).work := by
  unfold settleLens
  dsimp only
  split
  · rw [work_setLens, work_modLens]
  · rw [stage, books_tell, work_setLens, work_modLens]

theorem work_releaseWants (p q : Port) (e : Event) :
    ((books (releaseWants p e).toState).account q).work = ((books e.toState).account q).work := by
  unfold releaseWants
  extract_lets r own e1 e2
  have withdrawn : ((books e1.toState).account q).work = ((books e.toState).account q).work := by
    unfold e1
    split <;> rfl
  have merged : ((books e2.toState).account q).work = ((books e.toState).account q).work := by
    unfold e2
    rw [work_modLens, withdrawn]
  split
  · rw [work_settleLens, merged]
  · rw [work_settleLens, merged]
  · rw [work_settleLens, merged]
  all_goals exact merged

theorem asks_releaseWants (p : Port) (e : Event) : (books (releaseWants p e).toState).asks = (books e.toState).asks := by
  have settled : ∀ z : Event, (books (settleLens p z).toState).asks = (books z.toState).asks := fun z => by
    unfold settleLens
    dsimp only
    split
    · rw [books_setLens, Books.put_asks, books_modLens, Books.put_asks]
    · rw [stage, books_tell, books_setLens, Books.put_asks, books_modLens, Books.put_asks]
  unfold releaseWants
  extract_lets r own e1 e2
  have merged : (books e2.toState).asks = (books e.toState).asks := by
    unfold e2 e1
    rw [books_modLens, Books.put_asks]
    split <;> rfl
  split
  · rw [settled, merged]
  · rw [settled, merged]
  · rw [settled, merged]
  all_goals exact merged

/-- A focus sweep ends; the claim of its step is left to be answered without a fire (R147; log 70). -/
theorem Books.Sound.endSweep {p : Port} {st : SlotState} {why : Reason} {e : Event} (h : Solvent e) :
    Solvent (Machine.endSweep p st why e) := by
  unfold Machine.endSweep
  split
  · exact h
  · next w hw =>
    extract_lets e1 results
    have released : Solvent e1 := Books.Sound.releaseWants (e := Machine.markClaims (Requester.isSweep w.slot) .orphan e)
      (h.markClaims (by decide)) (by change (e.port p).sweep.isSome = true; rw [hw]; rfl)
    have running : ((books e1.toState).account p).work.sweep = some w := by
      unfold e1
      rw [work_releaseWants]
      exact hw
    have asks : ∀ m, (p, m) ∉ (books e1.toState).asks := fun m hm => by
      obtain ⟨v, hv, slot, -⟩ := released.asked _ hm
      obtain rfl : w = v := Option.some.inj (running.symm.trans hv)
      subst slot
      unfold e1 at hm
      rw [asks_releaseWants] at hm
      exact asks_orphaned w.slot p e hm
    obtain ⟨head, snap, cycle, probe⟩ := (released.work p).sweep_alone running
    have cleared : books (modPort p (fun q => { q with sweep := none }) e1).toState =
        (books e1.toState).put p fun a => { a with work := { a.work with sweep := none } } := books_modPort (by exact fun _ => rfl) e1
    have ended : ((books e1.toState).put p fun a => { a with work := { a.work with sweep := none, queue := a.work.queue.tail } }) =
        (books e1.toState).put p fun a => { a with work := a.work.done } := Books.put_congr (by
      simp only [Work.done]
      rw [snap, cycle, probe])
    rw [Solvent, books_endOrder, books_tell, cleared, Books.put_put]
    exact ended ▸ released.endRun st head asks

theorem Books.Sound.stuckLens {p : Port} {e : Event} (h : Solvent e) (hm : (e.port p).lens.state = .moving) :
    Solvent (Machine.stuckLens p e) := by
  have stopped : Solvent (Machine.modLens p (fun r => { r with stuckAt := none, move := none }) e) :=
    h.modLens_kept rfl (.inl rfl)
  have stuck : Solvent (Machine.setLens p .stuck (Machine.releaseMotion p
      (Machine.modLens p (fun r => { r with stuckAt := none, move := none }) e))) :=
    (stopped.releaseMotion (stopped.unclaimed (by
      rw [lens_modLens]
      change (e.port p).lens.state ≠ _
      rw [hm]
      decide))).rest (by decide) (by decide) fun hi => (by cases hi)
  exact Books.Sound.handleFault (h := stuck.endSweep)

end Sys2Proof.Machine

namespace Sys2Proof.Machine

/-! ## The link (R84, R88, R93, R94, R97) -/

/-- A link leaves DARK on a powered port alone. -/
theorem Books.Sound.setLink {x y : Option Port} {p : Port} {e : Event} (h : (books e.toState).Sound x y) {st : LinkState}
    (hp : st ≠ .dark → (e.port p).power.state.powered = true) : (books (Machine.setLink p st e).toState).Sound x y := by
  rw [books_setLink]
  have law := h.account p
  exact h.put_unpowered rfl { law with dark := fun _ hd => hp hd }

theorem Books.Sound.powered_of_link {x : Option Port} {p : Port} {e : Event} (h : (books e.toState).Sound x none)
    (hl : (e.port p).link.state ≠ .dark) : (e.port p).power.state.powered = true := (h.account p).dark (by simp) hl

/-- The link of a port that has lost its power goes DARK (R78, R94). -/
theorem Books.Sound.linkDark {x : Option Port} {p : Port} {e : Event} (h : (books e.toState).Sound x (some p)) :
    (books (Machine.linkDark p e).toState).Sound x none := by
  have extinguished : ∀ {b : Books}, b.Sound x (some p) → (b.account p).link = .dark → b.Sound x none := fun hb hd =>
    { hb with
      account := fun q => by
        by_cases hq : q = p
        · subst hq
          exact { hb.account q with dark := fun _ hl => absurd hd hl }
        · exact (hb.account q).congr .rfl (by simp [Ne.symm hq]) }
  unfold Machine.linkDark
  split
  · next hd => exact extinguished h hd
  · refine Books.Sound.spoilFrames (extinguished (Books.Sound.setLink ?_ fun hd => absurd rfl hd) (by rw [books_setLink, Books.put_self]))
    rw [books_emptyHistories, books_modLink (by exact fun _ => rfl)]
    exact h

/-! ## Changes of the power record -/

/-- A change of the power record that keeps its state and its allotments. -/
theorem Books.Sound.modPower_kept {x y : Option Port} {p : Port} {e : Event} (h : (books e.toState).Sound x y) {f : PortPower → PortPower}
    (hf : ∀ w, (f w).state = w.state ∧ (f w).base = w.base ∧ (f w).motion = w.motion ∧ (f w).full = w.full) :
    (books (Machine.modPower p f e).toState).Sound x y := by
  rw [books_modPower]
  have law := h.account p
  obtain ⟨state, base, motion, full⟩ := hf ((books e.toState).account p).power
  refine h.put (fun _ _ => .rfl) (fun _ _ => .rfl) ?_ (by simp only [PortPower.held, base, motion]; omega)
    fun hm => by simpa only [state] using h.settled hm p
  obtain ⟨lbase, lpowered, lmotion, lstill, ldark, lfull, lasleep, lqueued, lcharging, ltrimming, lclaim, ldeclared, lidle, lserved,
    lsteady⟩ := law
  constructor <;> simp only [PowerClaim.StandsOn, state, base, motion, full] <;> assumption

/-- What a change of the power state owes to the queue and to the claims, beyond its allotment. -/
theorem Books.Sound.setPower {x y : Option Port} {p : Port} {e : Event} (h : (books e.toState).Sound x y) {st : PowerState}
    (powered : st.powered = (e.port p).power.state.powered)
    (full : st = .on ∨ st = .limit ∨ st = .waking → (e.port p).power.full = (e.port p).power.base)
    (asleep : st = .standby → (e.port p).power.full ≠ 0)
    (queued : st = .queued ↔ (e.port p).power.state = .queued) (inrush : st = .inrush ↔ (e.port p).power.state = .inrush)
    (waiting : (e.port p).power.state = .waiting → st = .waiting ∨ (books e.toState).Unclaimed p .powerUp)
    (standby : (e.port p).power.state = .standby → st = .standby ∨ (books e.toState).Unclaimed p .wake)
    (settled : e.cell.mode ≠ .run → st.resting) : (books (Machine.setPower p st e).toState).Sound x y := by
  rw [books_setPower]
  have law := h.account p
  refine h.put (fun _ _ => .rfl) (fun _ _ => .rfl) ?_ (by simp only [PortPower.held]; omega) settled
  refine { law with
    base := by rw [powered]; exact law.base
    powered := fun hm => by rw [powered]; exact law.powered hm
    dark := fun hy hd => by rw [powered]; exact law.dark hy hd
    full := full
    asleep := asleep
    queued := law.queued.trans queued.symm
    charging := law.charging.trans inrush.symm
    trimming := fun ht => queued.mpr (law.trimming ht)
    claim := fun c hw hp => ?_ }
  have stands := law.claim c hw hp
  unfold PowerClaim.StandsOn at stands ⊢
  cases hk : c.kind with
  | lensMotion => simpa only [hk] using stands
  | powerUp =>
    simp only [hk] at stands ⊢
    obtain rfl | none := waiting stands.1
    · exact ⟨rfl, stands.2⟩
    · exact absurd hk (none c hw hp)
  | wake =>
    simp only [hk] at stands ⊢
    obtain rfl | none := standby stands.1
    · exact ⟨rfl, stands.2⟩
    · exact absurd hk (none c hw hp)

theorem Books.Sound.unclaimed_powerUp {x y : Option Port} {b : Books} (h : b.Sound x y) {p : Port}
    (hs : (b.account p).power.state ≠ .waiting) : b.Unclaimed p .powerUp := by
  intro c hc hp hk
  have stands := (h.account p).claim c hc hp
  simp only [PowerClaim.StandsOn, hk] at stands
  exact hs stands.1

theorem Books.Sound.unclaimed_wake {x y : Option Port} {b : Books} (h : b.Sound x y) {p : Port}
    (hs : (b.account p).power.state ≠ .standby) : b.Unclaimed p .wake := by
  intro c hc hp hk
  have stands := (h.account p).claim c hc hp
  simp only [PowerClaim.StandsOn, hk] at stands
  exact hs stands.1

/-- An unpowered port that no claim waits for moves to another unpowered state (R59, R76, R80). -/
theorem Books.Sound.setPower_unpowered {x y : Option Port} {p : Port} {e : Event} (h : (books e.toState).Sound x y) {st : PowerState}
    (hp : (e.port p).power.state.powered = false) (hst : st.powered = false) (hc : (books e.toState).Unclaimed p .powerUp)
    (settled : e.cell.mode ≠ .run → st.resting) : (books (Machine.setPower p st e).toState).Sound x y := by
  refine h.setPower (by rw [hp, hst]) ?_ ?_ ?_ ?_ (fun _ => .inr hc) (fun hs => ?_) settled
  · rintro (rfl | rfl | rfl) <;> simp [PowerState.powered] at hst
  · rintro rfl; simp [PowerState.powered] at hst
  · constructor <;> intro hq
    · simp [hq, PowerState.powered] at hst
    · simp [hq, PowerState.powered] at hp
  · constructor <;> intro hq
    · simp [hq, PowerState.powered] at hst
    · simp [hq, PowerState.powered] at hp
  · simp [hs, PowerState.powered] at hp

/-! ## The removal of power (R78) -/

/-- A FREE stage serves the head of the inrush queue, which is QUEUED (R67). -/
theorem Books.Sound.takeStage {x y : Option Port} {e : Event} (h : (books e.toState).Sound x y) :
    (books (Machine.takeStage e).toState).Sound x y := by
  rw [takeStage_eq]
  have charging : ∀ q, stageOf e.budget.stage e.budget.inrush = .charging q ↔ e.budget.stage = .charging q := fun q => by
    unfold stageOf
    split <;> simp_all
  have trimming : ∀ q, stageOf e.budget.stage e.budget.inrush = .trimming q → e.budget.stage = .trimming q ∨ q ∈ e.budget.inrush := by
    intro q
    unfold stageOf
    split
    · next hl =>
      intro ht
      rw [← InrushStage.trimming.inj ht, hl]
      simp
    · exact .inl
  exact { h with account := fun q => { h.account q with
    charging := (charging q).trans (h.account q).charging
    trimming := fun ht => (trimming q ht).elim (h.account q).trimming (h.account q).queued.mp } }

/-- The stage that port p has left serves what it served, but for p. -/
theorem stage_left (p q : Port) (st : InrushStage) : ((if st.serves p then .free else st) = .charging q ↔ q ≠ p ∧ st = .charging q) ∧
    ((if st.serves p then .free else st) = .trimming q ↔ q ≠ p ∧ st = .trimming q) := by
  cases st with
  | free => simp [InrushStage.serves]
  | trimming r =>
    by_cases hr : r = p
    · subst hr
      simp [InrushStage.serves, eq_comm]
    · simp only [InrushStage.serves, beq_iff_eq, hr, if_false]
      exact ⟨by simp, ⟨fun h => ⟨by rw [← InrushStage.trimming.inj h]; exact hr, h⟩, fun h => h.2⟩⟩
  | charging r =>
    by_cases hr : r = p
    · subst hr
      simp [InrushStage.serves, eq_comm]
    · simp only [InrushStage.serves, beq_iff_eq, hr, if_false]
      exact ⟨⟨fun h => ⟨by rw [← InrushStage.charging.inj h]; exact hr, h⟩, fun h => h.2⟩, by simp⟩

/-- A port out of the power path: no allotment, no claim, no place in the inrush queue, its link still lit (R78, steps 1 and 2). -/
theorem Books.Sound.unplug {p : Port} {target : PowerState} {e : Event} (h : Solvent e) (ht : target.powered = false)
    (settled : e.cell.mode ≠ .run → target.resting) :
    (books (Machine.setPower p target (leaveInrush p (withdrawAll p (Machine.modPower p PortPower.cut e)))).toState).Sound
      (some p) (some p) := by
  have unplugged : books (Machine.setPower p target (leaveInrush p (withdrawAll p (Machine.modPower p PortPower.cut e)))).toState =
      ((books e.toState).put p fun a => { a with power := { a.power.cut with state := target } }).onBudget { e.budget with
        waitList := e.budget.waitList.filter fun c => c.port != p
        inrush := e.budget.inrush.filter fun q => q != p
        stage := if e.budget.stage.serves p then .free else e.budget.stage } := by
    have cut : books (leaveInrush p (withdrawAll p (Machine.modPower p PortPower.cut e))).toState =
        (books (Machine.modPower p PortPower.cut e).toState).onBudget { e.budget with
          waitList := e.budget.waitList.filter fun c => c.port != p
          inrush := e.budget.inrush.filter fun q => q != p
          stage := if e.budget.stage.serves p then .free else e.budget.stage } := rfl
    rw [books_setPower, cut, books_modPower]
    simp [Books.put, Books.onBudget]
  rw [unplugged]
  have law := h.account p
  have neither : target ≠ .on ∧ target ≠ .limit ∧ target ≠ .waking ∧ target ≠ .standby ∧ target ≠ .queued ∧ target ≠ .inrush := by
    refine ⟨?_, ?_, ?_, ?_, ?_, ?_⟩ <;> rintro rfl <;> simp [PowerState.powered] at ht
  obtain ⟨on, limit, waking, standby, queued, inrush⟩ := neither
  obtain ⟨works, asked⟩ := h.put_work p (f := fun a => { a with power := { a.power.cut with state := target } }) rfl
  refine ⟨fun q => ?_, h.once.filter _, h.claims.sublist (List.filter_sublist.map _), ?_, h.inRun, h.outside, fun hm q => ?_, works,
    asked, h.single⟩
  · by_cases hq : q = p
    · subst hq
      simp only [Books.onBudget_account, Books.put_self]
      exact {
        base := by simp [PortPower.cut, ht]
        powered := fun hz => absurd rfl hz
        motion := fun hl => absurd trivial hl
        still := fun _ => rfl
        dark := fun hl => absurd trivial hl
        full := by simp [on, limit, waking]
        asleep := fun hs => absurd hs standby
        queued := by simp [queued]
        charging := by rw [Books.onBudget_budget, (stage_left q q _).1]; simp [inrush]
        trimming := fun hs => absurd rfl ((stage_left q q _).2.mp hs).1
        claim := fun c hc hp => by simp [hp] at hc
        declared := law.declared
        idle := fun hl => absurd trivial hl
        served := law.served
        steady := fun hl => absurd trivial hl }
    · have rest := (h.account q).congr (l' := some p = some q) (d' := some p = some q) (by simp [Ne.symm hq]) (by simp [Ne.symm hq])
      simp only [Books.onBudget_account, Books.put_other hq]
      exact { rest with
        queued := by
          rw [← rest.queued]
          simp [hq, books]
        charging := by
          rw [← rest.charging, Books.onBudget_budget, (stage_left p q _).1]
          exact and_iff_right hq
        trimming := fun hs => rest.trimming ((stage_left p q _).2.mp hs).2
        claim := fun c hc => rest.claim c (List.mem_filter.mp hc).1 }
  · have sum := (books e.toState).allotted_put p (fun a => { a with power := { a.power.cut with state := target } })
    have fits := h.within
    rw [Books.onBudget_allotted]
    change _ ≤ (books e.toState).budget.inForce
    simp only [PortPower.held, PortPower.cut] at sum ⊢
    omega
  · by_cases hq : q = p
    · subst hq
      simp only [Books.onBudget_account, Books.put_self]
      exact settled hm
    · simp only [Books.onBudget_account, Books.put_other hq]
      exact h.settled hm q

end Sys2Proof.Machine

namespace Sys2Proof.Machine

/-! ## Links that fall, and removals of power (R78, R93, R97) -/

theorem enqueue_all_state (ks : List Packet) (l : PortLink) : (ks.foldl (fun y k => enqueue k y) l).state = l.state := by
  induction ks generalizing l with
  | nil => rfl
  | cons k ks ih => rw [List.foldl_cons, ih, enqueue_state]

/-- A change of power held back is marked (R77). -/
theorem Books.Sound.owe {x y : Option Port} {p : Port} {e : Event} (h : (books e.toState).Sound x y) :
    (books (Machine.owe p e).toState).Sound x y := h.modPower_kept fun _ => ⟨rfl, rfl, rfl, rfl⟩

theorem Books.Sound.resume {p : Port} {e : Event} (h : Solvent e) : Solvent (Machine.resume p e) := by
  unfold Machine.resume
  extract_lets l owed e1 e2 e3
  split
  · next hl =>
    have powered : (e.port p).power.state.powered = true := h.powered_of_link (by rw [hl]; decide)
    have sent : books e2.toState = books e.toState := by
      unfold e2 e1
      rw [books_modLink (fun x => (enqueue_all_state _ _).trans (enqueue_state _ _)), books_modLink (by exact fun _ => rfl)]
    have resumed : Solvent e2 := h.of_eq sent
    have power : (e2.port p).power = (e.port p).power := by simp [e2, e1, modLink, port_modPort]
    have noted : Solvent e3 := by
      unfold e3
      split
      · exact resumed.owe
      · exact resumed
    refine noted.setLink fun _ => ?_
    unfold e3
    split <;> simp [modPower, port_modPort, power, powered]
  · exact h

theorem work_resume (p q : Port) (e : Event) :
    ((books (resume p e).toState).account q).work = ((books e.toState).account q).work := by
  unfold resume
  extract_lets l owed e1 e2 e3
  split
  · have sent : books e2.toState = books e.toState := by
      unfold e2 e1
      rw [books_modLink (fun x => (enqueue_all_state _ _).trans (enqueue_state _ _)), books_modLink (by exact fun _ => rfl)]
    rw [books_setLink, Books.work_put (by rfl)]
    unfold e3
    split
    · rw [books_modPower, Books.work_put (by rfl), sent]
    · rw [sent]
  · rfl

/-- Step 4 of R157. -/
theorem Books.Sound.reportEnd {x y : Option Port} {p : Port} {job : ProbeJob} {st : SlotState} {why : Reason} {results : List Byte}
    {e : Event} (h : (books e.toState).Sound x y) (running : ((books e.toState).account p).work.probe = some job) :
    (books (Machine.reportEnd p job st why results e).toState).Sound x y := by
  obtain ⟨head, snap, cycle, sweep⟩ := (h.work p).probe_alone running
  have asks : ∀ m, (p, m) ∉ (books e.toState).asks := h.unasked fun w hw => absurd (sweep.symm.trans hw) (by simp)
  have cleared : books (modPort p (fun q => { q with probe := none }) e).toState =
      (books e.toState).put p fun a => { a with work := { a.work with probe := none } } := books_modPort (by exact fun _ => rfl) e
  have ended : ((books e.toState).put p fun a => { a with work := { a.work with probe := none, queue := a.work.queue.tail } }) =
      (books e.toState).put p fun a => { a with work := a.work.done } := Books.put_congr (by
    simp only [Work.done]
    rw [snap, cycle, sweep])
  unfold Machine.reportEnd
  extract_lets e1
  have told : books e1.toState = (books e.toState).put p fun a => { a with work := { a.work with probe := none } } := cleared
  cases job with
  | order n asked =>
    dsimp only
    rw [books_endOrder, told, Books.put_put]
    exact ended ▸ h.endRun st head asks
  | learn n =>
    dsimp only
    rw [books_endOrder, told, Books.put_put]
    exact ended ▸ h.endRun st head asks
  | auto =>
    dsimp only
    rw [books_removeHead, books_startCooldown, told, Books.put_put]
    exact ended ▸ h.endAuto asks

theorem Books.Sound.abortProbe {p : Port} {st : SlotState} {why : Reason} {e : Event} (h : Solvent e) :
    Solvent (Machine.abortProbe p st why e) := by
  unfold Machine.abortProbe
  split
  · exact h
  · next r hr =>
    extract_lets e1 src e2
    have same : books (pathField r.path e2).2.toState = books (Machine.resume p e).toState := by
      refine (books_pathField _ _).trans ((books_pool ?_).trans (books_deliverTrace r.trace false _))
      rw [List.filterMap_map]
      congr 1
      funext c
      dsimp only [Function.comp]
      split
      · next hc =>
        have trace : c.requester = .trace := by simp_all
        simp [BufClaim.ask, trace]
      · rfl
    change Solvent (Machine.reportEnd p r.job st why _ (pathField r.path e2).2)
    refine Books.Sound.reportEnd (h.resume.of_eq same) ?_
    rw [same, work_resume]
    exact congrArg (Option.map ProbeRun.job) hr

theorem Books.Sound.cutProbe {p : Port} {e : Event} (h : Solvent e) : Solvent (Machine.cutProbe p e) := by
  unfold Machine.cutProbe
  split
  · exact h
  · split
    · exact h
    · exact h.abortProbe
    · exact h
    all_goals exact h.of_eq (books_reclass p e)

theorem Books.Sound.cutOrders {p : Port} {e : Event} (h : Solvent e) : Solvent (Machine.cutOrders p e) :=
  h.loseSnap.endSweep.cutProbe

theorem Books.Sound.fallOrders {p : Port} {e : Event} (h : Solvent e) : Solvent (Machine.fallOrders p e) := by
  unfold Machine.fallOrders
  extract_lets e1
  have ended : Solvent e1 := h.loseSnap.endSweep
  split
  · exact ended
  · split
    · exact ended.of_eq (books_reclass p e1)
    · exact ended.of_eq (books_modProbe (by exact fun _ => rfl) e1)
    all_goals exact ended

theorem Books.Sound.linkFall {p : Port} {e : Event} (h : Solvent e) (hl : (e.port p).link.state ≠ .dark) :
    Solvent (Machine.linkFall p e) := by
  unfold Machine.linkFall
  extract_lets e1 e2
  have emptied : Solvent e1 := h.of_eq (books_modLink (by exact fun _ => rfl) e)
  have fallen : Solvent (Machine.setLink p .wake e1) := emptied.setLink fun _ => by
    simpa [e1, modLink, port_modPort] using h.powered_of_link hl
  have asked : Solvent e2 := fallen.of_eq ((books_askCamera p _).trans (books_emptyHistories p _))
  exact (asked.spoilFrames.loseLens false).fallOrders.handleFault

/-- The power of a powered port is removed (R78). -/
theorem Books.Sound.removePower {p : Port} {why : Removal} {target : PowerState} {e : Event} (h : Solvent e)
    (hp : (e.port p).power.state.powered = true) (ht : target.powered = false) : Solvent (Machine.removePower p why target e) := by
  have run : e.cell.mode = .run := h.running (p := p) fun hr => by
    change (e.port p).power.state.resting at hr
    unfold PowerState.resting at hr
    obtain hs | hs | hs := hr <;> simp [hs, PowerState.powered] at hp
  unfold Machine.removePower
  extract_lets freed e1 e2 e3
  have removed : Solvent e2 := (h.unplug ht fun hm => absurd run hm).linkDark.loseLens_loose true
  have ended : Solvent e3 := removed.cutOrders
  cases why with
  | teardown | release => exact removed
  | cycle =>
    refine Books.Sound.takeStage ?_
    split
    · exact removed
    · exact removed.walk
  | fault | wantOff =>
    refine Books.Sound.takeStage ?_
    split
    · exact ended
    · exact ended.walk

/-! ## Power-up, standby and wake (R60, R65, R74, R75) -/

theorem allotment_pos {p : Port} {power : Nat} {s : State} (h : power ≠ 0) : allotment p power s ≠ 0 := by
  unfold allotment
  omega

/-- An OFF or waiting-to-retry port with a sheet begins its power-up in RUN. -/
theorem Books.Sound.powerUp {p : Port} {e : Event} (h : Solvent e) (ho : (e.port p).power.state = .off) (hm : e.cell.mode = .run)
    (hw : wantOf (e.port p) ≠ .off) : Solvent (Machine.powerUp p e) := by
  have unclaimed : (books e.toState).Unclaimed p .powerUp := h.unclaimed_powerUp (by
    change (e.port p).power.state ≠ _
    rw [ho]
    decide)
  have declared : declaredPower (e.port p) ≠ 0 := by
    unfold wantOf at hw
    unfold declaredPower
    cases hs : (e.port p).sheet with
    | none => simp [hs] at hw
    | some x => exact (h.account p).declared x hs
  refine (h.setPower_unpowered (by rw [ho]; rfl) rfl unclaimed fun hn => absurd hm hn).arrive
    ⟨by rw [books_setPower, Books.put_self], allotment_pos declared⟩

theorem Books.Sound.offerPowerUp {p : Port} {e : Event} (h : Solvent e) : Solvent (Machine.offerPowerUp p e) := by
  unfold Machine.offerPowerUp
  dsimp only
  split
  · next hoff =>
    obtain ⟨off, want, run, -⟩ := hoff
    split
    · exact h.owe
    · exact h.powerUp off run want
  · exact h

theorem standbyPower_pos (q : PortState) : standbyPower q ≠ 0 := by
  unfold standbyPower
  split <;> omega

/-- An ON port falls to its standby allotment, and frees the rest. -/
theorem Books.Sound.sleep {x y : Option Port} {b : Books} {p : Port} {a : Nat} (h : b.Sound x y) (on : (b.account p).power.state = .on)
    (ha : a ≠ 0) : (b.put p fun c => { c with power := { c.power with base := min a c.power.full, state := .standby } }).Sound x y := by
  have law := h.account p
  have full := law.full (.inl on)
  have powered : (b.account p).power.base ≠ 0 := law.base.mpr (by rw [on]; rfl)
  have kept : min a (b.account p).power.full ≠ 0 := by omega
  refine h.put (fun _ _ => .rfl) (fun _ _ => .rfl) { law with
    base := ⟨fun _ => rfl, fun _ => kept⟩
    powered := fun _ => rfl
    dark := fun _ _ => rfl
    full := by simp
    asleep := fun _ hz => powered (full ▸ hz)
    queued := by simpa [on] using law.queued
    charging := by simpa [on] using law.charging
    trimming := fun ht => by have := law.trimming ht; simp [on] at this
    claim := fun c hw hp => ?_ } ?_ fun hm => ?_
  · have stands := law.claim c hw hp
    unfold PowerClaim.StandsOn at stands ⊢
    cases hk : c.kind <;> simp_all
  · simp only [PortPower.held]
    omega
  · exact absurd (h.running (p := p) (by rw [on]; simp [PowerState.resting])) hm

/-- The books after the entry to STANDBY, before the room it frees is walked with. -/
theorem books_enterStandby (p : Port) (a : Nat) (e : Event) :
    books (setPower p .standby (modPower p (fun w => { w with base := min a w.full }) (give p .sleep e))).toState =
      (books e.toState).put p fun c => { c with power := { c.power with base := min a c.power.full, state := .standby } } := by
  rw [books_setPower, books_modPower, books_give, Books.put_put]
  rfl

theorem Books.Sound.enterStandby {p : Port} {e : Event} (h : Solvent e) (ho : (e.port p).power.state = .on) :
    Solvent (Machine.enterStandby p e) := by
  have asleep : ∀ a, a ≠ 0 → Solvent (Machine.walk (Machine.setPower p .standby
      (Machine.modPower p (fun w => { w with base := min a w.full }) (give p .sleep e)))) := fun a ha =>
    Books.Sound.walk ((h.sleep ho ha).of_eq (books_enterStandby p a e))
  exact asleep _ (allotment_pos (standbyPower_pos _))

theorem Books.Sound.tryStandby {p : Port} {e : Event} (h : Solvent e) : Solvent (Machine.tryStandby p e) := by
  unfold Machine.tryStandby
  dsimp only
  split
  · next ho =>
    split
    · exact h.owe
    · exact h.enterStandby ho.1
  · exact h

theorem Books.Sound.tryWake {p : Port} {e : Event} (h : Solvent e) (hs : (e.port p).power.state = .standby) :
    Solvent (Machine.tryWake p e) := by
  unfold Machine.tryWake
  split
  · exact h.owe
  · refine h.arrive ⟨hs, ?_⟩
    change (e.port p).power.full ≤ (e.port p).power.base + ((e.port p).power.full - (e.port p).power.base)
    omega

/-! ## Wants (R76, R77) -/

theorem Books.Sound.wantPowerOff {p : Port} {e : Event} (h : Solvent e) (hp : (e.port p).power.state.powered = true) :
    Solvent (Machine.wantPowerOff p e) := by
  unfold Machine.wantPowerOff
  split
  · exact (h.withdraw p .wake).owe
  · exact h.removePower hp rfl

/-- An unpowered port that no claim waits for is brought to rest, or in RUN to another unpowered state, after a change of its record. -/
theorem Books.Sound.moveUnpowered {p : Port} {st : PowerState} {e : Event} (h : Solvent e) {f : PortPower → PortPower}
    (hf : ∀ w, (f w).state = w.state ∧ (f w).base = w.base ∧ (f w).motion = w.motion ∧ (f w).full = w.full)
    (hp : (e.port p).power.state.powered = false) (hst : st.powered = false) (hc : (books e.toState).Unclaimed p .powerUp)
    (settled : e.cell.mode ≠ .run → st.resting) : Solvent (Machine.setPower p st (Machine.modPower p f e)) :=
  (h.modPower_kept hf).setPower_unpowered (by simpa [Machine.modPower, port_modPort, (hf _).1] using hp) hst
    (unclaimed_of_budget hc rfl) settled

theorem Books.Sound.leaveRetry {p : Port} {e : Event} (h : Solvent e) (hs : (e.port p).power.state = .retryWait) :
    Solvent (Machine.leaveRetry p e) :=
  h.moveUnpowered (fun _ => ⟨rfl, rfl, rfl, rfl⟩) (by rw [hs]; rfl) rfl
    (h.unclaimed_powerUp (by change (e.port p).power.state ≠ _; rw [hs]; decide)) fun _ => .inl rfl

theorem Books.Sound.retryUp {p : Port} {e : Event} (h : Solvent e) (hs : (e.port p).power.state = .retryWait) :
    Solvent (Machine.retryUp p e) := by
  unfold Machine.retryUp
  split
  · exact Books.Sound.owe (h.modPower_kept fun _ => ⟨rfl, rfl, rfl, rfl⟩)
  · exact (h.leaveRetry hs).offerPowerUp

theorem Books.Sound.releaseHeld {p : Port} {e : Event} (h : Solvent e) : Solvent (Machine.releaseHeld p e) := by
  unfold Machine.releaseHeld
  split
  · next hs =>
    exact h.setPower_unpowered (by rw [hs]; rfl) rfl
      (h.unclaimed_powerUp (by change (e.port p).power.state ≠ _; rw [hs]; decide)) fun _ => .inl rfl
  · exact h

/-- A WAITING port whose claim is withdrawn is brought to rest. -/
theorem Books.Sound.unwait {p : Port} {e : Event} (h : Solvent e) (hs : (e.port p).power.state = .waiting) :
    Solvent (Machine.setPower p .off (Machine.withdraw p .powerUp e)) :=
  (h.withdraw p .powerUp).setPower_unpowered (by change (e.port p).power.state.powered = _; rw [hs]; rfl) rfl
    (unclaimed_withdraw p .powerUp e) fun _ => .inl rfl

theorem Books.Sound.actOnWant {p : Port} {e : Event} (h : Solvent e) : Solvent (Machine.actOnWant p e) := by
  unfold Machine.actOnWant
  dsimp only
  split
  · exact h.offerPowerUp
  · next hs _ => exact h.unwait hs
  iterate 7 next hs _ => exact h.wantPowerOff (by rw [hs]; rfl)
  · exact h.tryStandby
  · next hs _ => exact h.tryWake hs
  · exact h.withdraw p .wake
  · next hs _ => exact h.leaveRetry hs
  · next hs _ =>
    split
    · exact h.retryUp hs
    · exact h
  · next hs _ =>
    split
    · exact h.retryUp hs
    · exact h
  · exact h.releaseHeld.offerPowerUp
  · exact h.releaseHeld.offerPowerUp
  all_goals exact h

/-! ## Fault actions (R79 to R81) -/

theorem tripState_unpowered (w : PortPower) : (tripState w).powered = false := by
  unfold tripState
  split <;> rfl

/-- A fault action leaves an unpowered port in an unpowered state; only a port that has waited in RUN goes to RETRY_WAIT. -/
theorem Books.Sound.enterAction {p : Port} {st : PowerState} {e : Event} (h : Solvent e)
    (hp : (e.port p).power.state.powered = false) (hst : st.powered = false) (hc : (books e.toState).Unclaimed p .powerUp)
    (settled : e.cell.mode ≠ .run → st.resting) : Solvent (Machine.enterAction p st e) :=
  h.moveUnpowered (fun _ => ⟨rfl, rfl, rfl, rfl⟩) hp hst hc settled

theorem Books.Sound.countTrip {p : Port} {e : Event} (h : Solvent e) : Solvent (Machine.countTrip p e) :=
  h.modPower_kept fun _ => ⟨rfl, rfl, rfl, rfl⟩

theorem port_countTrip_power (p : Port) (e : Event) : ((countTrip p e).port p).power.state = (e.port p).power.state := by
  simp [countTrip, modPower, port_modPort]

theorem Books.Sound.applyAction {p : Port} {a : Action} {e : Event} (h : Solvent e) : Solvent (Machine.applyAction p a e) := by
  have unclaimed : (e.port p).power.state ≠ .waiting → (books e.toState).Unclaimed p .powerUp := fun hw => h.unclaimed_powerUp hw
  have withdrawn : Solvent (Machine.withdraw p .powerUp e) := h.withdraw p .powerUp
  have free := unclaimed_withdraw p .powerUp e
  have waits : (e.port p).power.state = .waiting → ((Machine.withdraw p .powerUp e).port p).power.state.powered = false := fun hs => by
    change (e.port p).power.state.powered = _
    rw [hs]
    rfl
  unfold Machine.applyAction
  dsimp only
  split
  · exact h
  · split
    · next hp => exact h.removePower hp rfl
    · split
      · next hs => exact withdrawn.enterAction (waits hs) rfl free fun _ => .inr (.inl rfl)
      · next hs => exact h.enterAction (by rw [hs]; rfl) rfl (unclaimed (by rw [hs]; decide)) fun _ => .inr (.inl rfl)
      · next hs => exact h.enterAction (by rw [hs]; rfl) rfl (unclaimed (by rw [hs]; decide)) fun _ => .inr (.inl rfl)
      · exact h
  · split
    · next hp => exact h.removePower hp rfl
    · split
      · next hs => exact withdrawn.enterAction (waits hs) rfl free fun _ => .inr (.inr rfl)
      iterate 3 next hs => exact h.enterAction (by rw [hs]; rfl) rfl (unclaimed (by rw [hs]; decide)) fun _ => .inr (.inr rfl)
      exact h
  · have counted : Solvent (Machine.countTrip p e) := h.countTrip
    have running : ¬ (e.port p).power.state.resting → e.cell.mode = .run := fun hs => h.running (p := p) hs
    split
    · next hp =>
      have removed := counted.removePower (why := .fault) (target := tripState (e.port p).power)
        (by rw [port_countTrip_power]; exact hp) (tripState_unpowered _)
      split
      · exact removed.modPower_kept fun _ => ⟨rfl, rfl, rfl, rfl⟩
      · exact removed
    · split
      · next hs =>
        exact withdrawn.countTrip.enterAction (by rw [port_countTrip_power]; exact waits hs) (tripState_unpowered _)
          (unclaimed_of_budget free rfl) fun hm => absurd (running (by rw [hs]; simp [PowerState.resting])) hm
      · next hs =>
        exact counted.enterAction (by rw [port_countTrip_power, hs]; rfl) (tripState_unpowered _)
          (unclaimed_of_budget (unclaimed (by rw [hs]; decide)) rfl)
          fun hm => absurd (running (by rw [hs]; simp [PowerState.resting])) hm
      · next hs =>
        refine counted.enterAction (by rw [port_countTrip_power, hs]; rfl) (by split <;> rfl)
          (unclaimed_of_budget (unclaimed (by rw [hs]; decide)) rfl) fun _ => ?_
        split
        · exact .inr (.inr rfl)
        · exact .inl rfl
      · exact h

theorem Books.Sound.powerFault {p : Port} {k : FaultKind} {e : Event} (h : Solvent e) : Solvent (Machine.powerFault p k e) :=
  h.applyAction.handleFault

/-! ## The class raise and the measurement (R70 to R73) -/

theorem Books.Sound.classRaise {p : Port} {maxPower : Nat} {e : Event} (h : Solvent e) : Solvent (Machine.classRaise p maxPower e) := by
  unfold Machine.classRaise
  extract_lets w raised e1
  split
  · next hr =>
    obtain ⟨state, rated⟩ := hr
    split
    · next fits =>
      have law := h.account p
      have free : raised ≤ ((books e.toState).account p).power.base + ((books e.toState).budget.inForce - (books e.toState).allotted) := by
        rw [← allotted_books]
        exact fits
      have positive : raised ≠ 0 := allotment_pos (by omega)
      have powered : ((books e.toState).account p).power.state.powered = true := by
        obtain hs | hs := state
        · exact congrArg PowerState.powered hs
        · exact congrArg PowerState.powered hs
      have awake : ((books e.toState).account p).power.state ≠ .standby ∧ ((books e.toState).account p).power.state ≠ .waiting := by
        obtain hs | hs := state
        · exact ⟨fun ha => (by cases hs.symm.trans ha), fun ha => (by cases hs.symm.trans ha)⟩
        · exact ⟨fun ha => (by cases hs.symm.trans ha), fun ha => (by cases hs.symm.trans ha)⟩
      have taken : Solvent e1 := by
        unfold e1
        rw [Solvent, books_modPower]
        refine h.put (fun _ _ => .rfl) (fun _ _ => .rfl) { law with
          base := ⟨fun _ => powered, fun _ => positive⟩
          full := fun _ => rfl
          asleep := fun hs => absurd hs awake.1
          claim := fun c hw hp => ?_ } ?_ fun hm => h.settled hm p
        · have stands := law.claim c hw hp
          unfold PowerClaim.StandsOn at stands ⊢
          cases hk : c.kind <;> simp_all
        · simp only [PortPower.held]
          omega
      split
      · exact taken.walk
      · exact taken
    · exact h.powerFault
  · exact h

/-- ON and LIMIT give way to each other. -/
theorem Books.Sound.turn {p : Port} {st : PowerState} {e : Event} (h : Solvent e) {f : PortPower → PortPower}
    (hf : ∀ w, (f w).state = w.state ∧ (f w).base = w.base ∧ (f w).motion = w.motion ∧ (f w).full = w.full)
    (hs : (e.port p).power.state = .on ∨ (e.port p).power.state = .limit) (hst : st = .on ∨ st = .limit) :
    Solvent (Machine.setPower p st (Machine.modPower p f e)) := by
  have full : (e.port p).power.full = (e.port p).power.base := (h.account p).full (hs.elim .inl fun hl => .inr (.inl hl))
  have run : e.cell.mode = .run := h.running (p := p) fun hr => by
    change (e.port p).power.state.resting at hr
    unfold PowerState.resting at hr
    obtain hs | hs := hs <;> simp [hs] at hr
  obtain ⟨same, base, -, whole⟩ := hf (e.port p).power
  have state : ((Machine.modPower p f e).port p).power.state = (e.port p).power.state := by
    simpa [Machine.modPower, port_modPort] using same
  refine (h.modPower_kept hf).setPower ?_ (fun _ => ?_) ?_ ?_ ?_ ?_ ?_ fun hm => absurd run hm
  · rw [state]
    obtain hs | hs := hs <;> obtain rfl | rfl := hst <;> rw [hs] <;> rfl
  · simpa [Machine.modPower, port_modPort, base, whole] using full
  all_goals
    rw [state] at *
    obtain hs | hs := hs <;> obtain rfl | rfl := hst <;> simp [hs]

theorem Books.Sound.judgeCurrent {p : Port} {e : Event} (h : Solvent e) : Solvent (Machine.judgeCurrent p e) := by
  unfold Machine.judgeCurrent
  extract_lets w watched
  split
  · exact h.powerFault
  · split
    · next hs => exact h.turn (fun _ => ⟨rfl, rfl, rfl, rfl⟩) (.inl hs.1) (.inr rfl)
    · split
      · next hs => exact Books.Sound.tryStandby (h.turn (fun _ => ⟨rfl, rfl, rfl, rfl⟩) (.inr hs.1) (.inl rfl))
      · exact h

end Sys2Proof.Machine

namespace Sys2Proof.Machine

/-! ## An accepted Port Sheet declares a power (R26) -/

section
variable {live : Bool} {pre : List Byte}

/-- An optional part leaves the fields behind it present. -/
theorem optional_keeps_live {α : Type} (f : Nat) {part : Read α} (hp : ∀ l p, Recovers part l p fun _ l' _ => l' = l) :
    Recovers (optional f part) live pre fun _ l _ => l = live := by
  have marked : optional f part = (do
      let v ← ranged f 1 0 1
      let r ← get
      modify fun r' => { r' with live := r.live && v != 0 }
      let x ← part
      modify fun r' => { r' with live := r.live }
      pure (if v == 0 then none else some x)) := rfl
  rw [marked]
  refine (ranged_recovers f 1 0 1).bind fun v _ _ => .bind .get fun r _ _ => .bind (.setLive _) fun _ l _ =>
    (hp l _).bind fun x _ _ => .bind (.setLive r.live) fun _ _ _ => .pure ?_
  rintro ⟨rfl, rfl⟩ _ _ ⟨hr, rfl, rfl⟩ ⟨⟨rfl, rfl⟩, _⟩
  exact hr

theorem readRegion_recovers : Recovers (do
    let x ← rawNum 2
    let y ← rawNum 2
    let w ← ranged 11 2 2 65535
    let h ← ranged 11 2 2 65535
    pure ({ x, y, w, h } : Region)) live pre fun _ l _ => l = live := by
  refine (rawNum_recovers 2).bind fun _ _ _ => (rawNum_recovers 2).bind fun _ _ _ => (ranged_recovers 11 2 2 65535).bind fun _ _ _ =>
    (ranged_recovers 11 2 2 65535).bind fun _ _ _ => .pure ?_
  rintro ⟨⟨rfl, rfl⟩, _⟩ ⟨⟨rfl, rfl⟩, _⟩ ⟨⟨rfl, rfl⟩, _⟩ ⟨⟨rfl, rfl⟩, _⟩
  rfl

theorem ranged_optional_live (f n lo hi : Nat) : Recovers (optional f (ranged f n lo hi)) live pre fun _ l _ => l = live :=
  optional_keeps_live f fun _ _ => (ranged_recovers f n lo hi).mono fun _ _ _ ⟨⟨kept, _⟩, _⟩ => kept

theorem readPortSheet_recovers : Recovers readPortSheet true pre fun s _ _ => 10 ≤ s.declared := by
  refine (ranged_recovers 1 1 0 2).bind fun want _ _ => (ranged_recovers 2 1 10 150).bind fun declared _ _ =>
    (ranged_recovers 3 1 1 255).bind fun _ _ _ => (ranged_recovers 4 4 10 1000000).bind fun _ _ _ =>
    (ranged_recovers 5 1 0 1).bind fun _ _ _ => (ranged_recovers 6 1 0 15).bind fun _ _ _ => (flagField_recovers 7).bind fun _ _ _ =>
    (ranged_optional_live 8 2 0 4095).bind fun _ _ _ => (ranged_optional_live 9 2 0 1023).bind fun _ _ _ =>
    (ranged_optional_live 10 2 0 4095).bind fun _ _ _ =>
    (optional_keeps_live 11 fun _ _ => readRegion_recovers).bind fun _ _ _ => .pure ?_
  intro _ _ _ _ _ _ _ _ _ ⟨_, _, power⟩ ⟨⟨present, _⟩, _⟩
  exact (power present).1

end

theorem judgePortSheet_declared {bytes : List Byte} {s : PortSheet} (h : judgePortSheet bytes = .ok s) : 10 ≤ s.declared := by
  obtain ⟨-, r, run, ok, -⟩ := judge_ok h
  have start : Rd.At ((fit 0x180 bytes).take 0x17D) true []
      { pos := 0, rest := (fit 0x180 bytes).take 0x17D, sparesOk := true, bad := none, live := true } :=
    ⟨rfl, rfl, fun _ h => absurd h (Nat.not_lt_zero _), rfl⟩
  obtain ⟨_, _, declared, -⟩ := readPortSheet_recovers.lays _ _ start (by rw [run]; exact ok)
  rwa [run] at declared

end Sys2Proof.Machine

namespace Sys2Proof.Machine

/-! ## Greetings and sheets (R27, R90) -/

theorem Books.Sound.settingsAtHello {p : Port} {e : Event} (h : Solvent e) : Solvent (Machine.settingsAtHello p e) := by
  unfold Machine.settingsAtHello
  dsimp only
  split
  · split
    · exact h.of_eq ((books_give ..).trans (books_give ..))
    · exact h.of_eq (books_give ..)
  · exact h.of_eq (books_modLink (by exact fun _ => rfl) e)
  all_goals exact h

theorem judgeSerial_account (serial : Word) (q : PortState) : (judgeSerial serial q).account = q.account := by
  unfold judgeSerial
  split
  · rfl
  · rfl
  · rfl
  · split <;> rfl
  · split <;> rfl

theorem judgeSerial_link (serial : Word) (q : PortState) : (judgeSerial serial q).link.state = q.link.state ∧
    (judgeSerial serial q).power = q.power :=
  ⟨congrArg Account.link (judgeSerial_account serial q), congrArg Account.power (judgeSerial_account serial q)⟩

theorem Books.Sound.enterTalk {p : Port} {e : Event} (h : Solvent e) (hp : (e.port p).power.state.powered = true) :
    Solvent (Machine.enterTalk p e) := by
  have emptied : ∀ f : PortLink → PortLink, (∀ l, (f l).state = l.state) → Solvent (Machine.setLink p .talk (modLink p f e)) :=
    fun f hf => Books.Sound.setLink (h.of_eq (books_modLink hf e)) fun _ => by simpa [modLink, port_modPort] using hp
  exact emptied _ fun _ => rfl

theorem Books.Sound.takeHello {p : Port} {k : LensKind} {hello : HelloPacket} {e : Event} (h : Solvent e)
    (hl : (e.port p).link.state ≠ .dark) : Solvent (Machine.takeHello p k hello e) := by
  unfold Machine.takeHello
  extract_lets again e1 e2 e3 e4 e5
  have identified : Solvent e1 := h.of_eq ((books_modPort_same (judgeSerial_account _) _).trans (books_modLink (by exact fun _ => rfl) e))
  have power : (e1.port p).power = (e.port p).power := by
    simp [e1, port_modPort, judgeSerial_link, modLink]
  have greeted : Solvent e2 := by
    unfold e2
    split
    · split
      · exact identified.of_eq (books_restartSilence p e1)
      · exact identified
    · exact identified.enterTalk (by rw [power]; exact h.powered_of_link hl)
  have raised : Solvent e3 := Books.Sound.classRaise (greeted.of_eq (books_touch p e2))
  have lens : Solvent e4 := raised.greetLens
  have swept : Solvent e5 := by
    unfold e5
    split
    · exact lens.endSweep
    · exact lens
  split
  · exact raised
  · exact swept.settingsAtHello.tryStandby

theorem Books.Sound.setupAtTake {p : Port} {e : Event} (h : Solvent e) : Solvent (Machine.setupAtTake p e) := by
  unfold Machine.setupAtTake
  split
  · exact h.of_eq (books_give ..)
  · exact h.of_eq (books_modLink (by exact fun _ => rfl) e)
  · exact h.of_eq (books_modLink (by exact fun _ => rfl) e)
  all_goals exact h

theorem Books.Sound.takePortSheet {p : Port} {s : PortSheet} {e : Event} (h : Solvent e) (hs : s.declared ≠ 0) :
    Solvent (Machine.takePortSheet p s e) := by
  unfold Machine.takePortSheet
  extract_lets e1
  have copied : Solvent e1 := by
    unfold e1
    rw [Solvent, books_modPort (g := fun a => { a with sheet := some s }) (by exact fun _ => rfl)]
    exact h.put_unpowered rfl { h.account p with declared := fun x hx => Option.some.inj hx ▸ hs }
  exact copied.setupAtTake.releaseHeld.actOnWant.takeWant

theorem Books.Sound.dealPortSheet {p : Port} {bytes : List Byte} {e : Event} (h : Solvent e) :
    Solvent (Machine.dealPortSheet p bytes e) := by
  unfold Machine.dealPortSheet
  dsimp only
  split
  · exact h
  · split
    · rw [Solvent, books_touch]
      exact h.of_eq (books_modPort_same (by exact fun _ => rfl) e)
    · next s hj =>
      rw [Solvent, books_touch]
      refine Books.Sound.takePortSheet (h.of_eq (books_modPort_same (by exact fun _ => rfl) e)) ?_
      have := judgePortSheet_declared hj
      omega

end Sys2Proof.Machine

namespace Sys2Proof.Machine

/-! ## The work of an event (R51 to R58, R77, R140 to R158) -/

theorem Solvent.ite {c : Prop} [Decidable c] {e z : Event} (he : c → Solvent e) (hz : ¬ c → Solvent z) :
    Solvent (if c then e else z) := by
  split
  · next hc => exact he hc
  · next hc => exact hz hc

/-- The head of port p's queue, and nothing runs on the port. -/
structure AtHead (p : Port) (x : QEntry) (e : Event) : Prop where
  head : (e.port p).queue.head? = some x
  free : (e.port p).work.jobs = []

theorem AtHead.of_books {p : Port} {x : QEntry} {e z : Event} (h : AtHead p x e)
    (hz : ((books z.toState).account p).work = ((books e.toState).account p).work) : AtHead p x z := by
  have work : (z.port p).work = (e.port p).work := hz
  exact ⟨(congrArg (fun w => w.queue.head?) work).trans h.head, (congrArg Work.jobs work).trans h.free⟩

theorem AtHead.asks {p : Port} {z : QEntry} {e : Event} (ha : AtHead p z e) {x y : Option Port} (h : (books e.toState).Sound x y) (m : SlotNo) :
    (p, m) ∉ (books e.toState).asks := by
  obtain ⟨-, -, sweep, -⟩ := Work.jobs_nil.mp ha.free
  exact h.unasked (fun w hw => absurd (sweep.symm.trans hw) (by simp)) m

/-- An order at the head is refused, or ends as it begins. -/
theorem Books.Sound.leaveHead {x y : Option Port} {p : Port} {n : SlotNo} {st : SlotState} {why : Reason} {field : Nat}
    {results : List Byte} {e : Event} (h : (books e.toState).Sound x y) (ha : AtHead p (.order n) e) :
    (books (removeHead p (Machine.finishSlot n st why field results e)).toState).Sound x y := by
  rw [books_leave]
  have ended : ((books e.toState).put p fun a => { a with work := { a.work with queue := a.work.queue.tail } }) =
      (books e.toState).put p fun a => { a with work := a.work.done } := Books.put_congr
    (congrArg (fun w => { (books e.toState).account p with work := w }) (Work.done_of_idle ha.free))
  rw [ended]
  exact h.endRun st ha.head (ha.asks h)

theorem Books.Sound.endHead {x y : Option Port} {p : Port} {n : SlotNo} {st : SlotState} {why : Reason} {results : List Byte} {e : Event}
    (h : (books e.toState).Sound x y) (ha : AtHead p (.order n) e) : (books (Machine.endOrder p n st why results e).toState).Sound x y :=
  h.leaveHead ha

/-- A sweep enters on a lens that does not wait, no want of a sweep being staged. -/
theorem Books.Sound.enterSweep {p : Port} {n : SlotNo} {params : SweepParams} {e : Event} (h : Solvent e) (ha : AtHead p (.order n) e)
    (hn : (e.slots.get n).state = .running) (server : (e.port p).lens.stagedBy = .sheet) (calm : (e.port p).lens.state ≠ .waitPower) :
    Solvent (modPort p (fun y => { y with sweep := some (newSweep n params) }) e) := by
  have free : (books e.toState).Unclaimed p .lensMotion := h.unclaimed calm
  obtain ⟨snap, cycle, sweep, probe⟩ := Work.jobs_nil.mp ha.free
  have jobs : ({ (e.port p).work with sweep := some (newSweep n params) } : Work).jobs = [.order n] := by
    simp only [Work.jobs, snap, cycle, probe]
    rfl
  have law := h.account p
  have work := h.work p
  rw [Solvent, books_modPort (g := fun a => { a with work := { a.work with sweep := some (newSweep n params) } }) (by exact fun _ => rfl)]
  refine h.putWork rfl { law with
    claim := fun c hw hp => ?_
    served := fun _ _ => .inr server
    steady := fun _ w hw => .inr ⟨calm, fun _ => ?_⟩ } ⟨fun x hx => ?_, work.queued, work.once, fun w hw hs => ?_⟩
    fun m hm => absurd hm (ha.asks h m)
  · have stands := law.claim c hw hp
    have other := free c hw hp
    unfold PowerClaim.StandsOn at stands ⊢
    cases hk : c.kind <;> simp_all
  · obtain rfl : newSweep n params = w := Option.some.inj hw
    exact ⟨rfl, rfl⟩
  · change x ∈ ({ (e.port p).work with sweep := some (newSweep n params) } : Work).jobs at hx
    rw [jobs, List.mem_singleton] at hx
    subst hx
    refine ⟨jobs, ha.head, fun m hm => ?_⟩
    obtain rfl : n = m := by simpa using hm
    exact hn
  · obtain rfl : newSweep n params = w := Option.some.inj hw
    cases hs

/-- A sweep that begins holds back the sheet's wants, and neither moves the lens nor has it wait (R144). -/
theorem Books.Sound.beginSweep {p : Port} {n : SlotNo} {params : SweepParams} {e : Event} (h : Solvent e) (ha : AtHead p (.order n) e)
    (hn : (e.slots.get n).state = .running) : Solvent (Machine.beginSweep p n params e) := by
  unfold Machine.beginSweep
  extract_lets q r e1 src want e2 e3
  refine Solvent.ite (fun _ => h.endHead ha) fun _ => ?_
  split
  · exact h.endHead ha
  · exact h.leaveHead ha
  · refine Solvent.ite (fun _ => h.endHead ha) fun _ => ?_
    have free : (books e1.toState).Unclaimed p .lensMotion := by
      unfold e1
      split
      · exact unclaimed_withdraw p .lensMotion e
      · next hw => exact h.unclaimed hw
    have withdrawn : Solvent e1 := by
      unfold e1
      split
      · exact h.withdraw p .lensMotion
      · exact h
    have lens : (e1.port p).lens = r := by
      unfold e1
      split <;> rfl
    have idle : r.state = .staged ∨ r.state = .waitPower → r.state ≠ .moving := by
      rintro (hs | hs) <;> rw [hs] <;> decide
    have held : Solvent e3 := by
      unfold e3
      split
      · next hs =>
        refine Books.Sound.rest (p := p) ?_ (by decide) (by decide) fun _ => congrArg LensRec.stagedBy (lens_modLens p _ e1)
        exact (withdrawn.loosen (by rw [books_lens, lens]; exact idle hs) free).modLens_loose fun _ => .inr rfl
      · exact withdrawn.modLens_kept rfl (.inr ⟨rfl, .inl free⟩)
    have work : ((books e3.toState).account p).work = ((books e.toState).account p).work := by
      have kept : ((books e2.toState).account p).work = ((books e.toState).account p).work := by
        unfold e2 e1
        rw [work_modLens]
        split <;> rfl
      unfold e3
      split
      · rw [work_setLens, kept]
      · exact kept
    have slots : (books e3.toState).slot = (books e.toState).slot := by
      have kept : (books e2.toState).slot = (books e.toState).slot := by
        unfold e2 e1
        rw [books_modLens, Books.put_slot]
        split <;> rfl
      unfold e3
      split
      · rw [books_setLens, Books.put_slot, kept]
      · exact kept
    have after : (e3.port p).lens.stagedBy = .sheet ∧ (e3.port p).lens.state ≠ .waitPower := by
      have merged : (e2.port p).lens = { r.unstage with held := want, fromSweep := r.fromSweep || params.goBest } := by
        unfold e2
        rw [Machine.modLens, port_modPort, if_pos rfl, ← lens]
      unfold e3
      split
      · rw [port_setLens, if_pos rfl, merged]
        exact ⟨rfl, by simp⟩
      · next hs =>
        rw [merged]
        exact ⟨rfl, fun hw => hs (.inr hw)⟩
    obtain ⟨server, calm⟩ := after
    exact held.enterSweep (ha.of_books work) ((congrArg (fun v => (v n).1) slots).trans hn) server calm

/-- A sweep's step fires where its lens rests (R145). -/
theorem Books.Sound.fireStep {p : Port} {w : SweepRun} {e : Event} (h : Solvent e) (hw : (e.port p).sweep = some w)
    (hp : w.phase ≠ .deciding ∧ w.phase ≠ .frame) (hm : (e.port p).lens.state ≠ .moving) (hq : (e.port p).lens.state ≠ .waitPower)
    (hs : (e.port p).lens.stagedBy = .sheet) : Solvent (Machine.fireStep p w e) := by
  have asks : ∀ m, (p, m) ∉ (books e.toState).asks := h.unasked fun v hv => Option.some.inj (hw.symm.trans hv) ▸ hp.1
  have unshot : ∀ v, (e.port p).sweep = some v → v.shot.isSome = true → v.phase = .frame := (h.work p).shot
  unfold Machine.fireStep
  extract_lets focus
  obtain ⟨z, hz⟩ : ∃ z, z = modSweep p (fun x => { x with phase := .deciding, focus }) e := ⟨_, rfl⟩
  have decided : books z.toState = (books e.toState).put p fun a =>
      { a with work := { a.work with sweep := a.work.sweep.map fun x => { x with phase := .deciding, focus } } } := by
    rw [hz, books_modSweep]
  have deciding : Solvent z := by
    rw [Solvent, decided]
    refine h.resweep (by exact fun _ => rfl) (fun v hv hx => ?_) (fun _ _ => .inr hs) (fun _ _ _ => .inr ⟨hq, fun hmv => absurd hmv hm⟩)
      fun n hn => absurd hn (asks n)
    obtain rfl : w = v := Option.some.inj (hw.symm.trans hv)
    exact absurd (unshot w hw hx) hp.2
  rw [← hz]
  refine deciding.decideFire fun n i hr => ?_
  obtain ⟨rfl, -⟩ : w.slot = n ∧ w.index = i := by simpa using hr
  refine ⟨fun m => by rw [decided]; exact asks m, { w with phase := .deciding, focus }, ?_, rfl, rfl⟩
  rw [decided, Books.put_self]
  change (e.port p).sweep.map _ = _
  rw [hw]
  rfl

/-- A lens that neither moves nor waits is staged for the sweep. -/
theorem Books.Sound.stageFocus {p : Port} {target : Nat} {ph : SweepPhase} {w : SweepRun} {e : Event} (h : Solvent e)
    (hw : (e.port p).sweep = some w) (hp : w.phase ≠ .deciding ∧ w.phase ≠ .frame) (hph : ph = .moving ∨ ph = .best)
    (hm : (e.port p).lens.state ≠ .moving) (hq : (e.port p).lens.state ≠ .waitPower) : Solvent (Machine.stageFocus p target ph e) := by
  have asks : ∀ m, (p, m) ∉ (books e.toState).asks := h.unasked fun v hv => Option.some.inj (hw.symm.trans hv) ▸ hp.1
  obtain ⟨z, hz⟩ : ∃ z, z = modSweep p (fun x => { x with phase := ph }) e := ⟨_, rfl⟩
  have phased : books z.toState = (books e.toState).put p fun a =>
      { a with work := { a.work with sweep := a.work.sweep.map fun x => { x with phase := ph } } } := by
    rw [hz, books_modSweep]
  have lens : (e.port p).lens = (z.port p).lens := by
    rw [hz]
    simp [modSweep, port_modPort]
  have moving : Solvent z := by
    rw [Solvent, phased]
    refine h.resweep (by exact fun _ => rfl) (fun v hv hx => ?_) (fun _ _ => .inl hph) (fun _ _ _ => .inl hph)
      fun n hn => absurd hn (asks n)
    obtain rfl : w = v := Option.some.inj (hw.symm.trans hv)
    exact absurd ((h.work p).shot w hw hx) hp.2
  unfold Machine.stageFocus
  rw [← hz]
  refine (moving.loosen_resting (p := p) (by rw [books_lens, ← lens]; exact hm) (by rw [books_lens, ← lens]; exact hq)).stage _ ?_
  intro v hv
  rw [hz] at hv
  left
  simp only [modSweep, port_modPort, if_pos] at hv
  rw [hw] at hv
  rw [← Option.some.inj hv]
  exact hph

/-- A sweep whose steps have all ended goes to its best one with a lens at rest, or is over (R146). -/
theorem Books.Sound.concludeSweep {p : Port} {w : SweepRun} {e : Event} (h : Solvent e) (hw : (e.port p).sweep = some w)
    (hp : w.phase = .choose) : Solvent (Machine.concludeSweep p w e) := by
  have calm : w.steps ≠ [] → (e.port p).lens.state ≠ .moving ∧ (e.port p).lens.state ≠ .waitPower := fun hs => by
    obtain ⟨wait, move⟩ := ((h.account p).steady (by simp) w hw).resolve_left (by simp [SweepRun.Moves, hp])
    exact ⟨fun hm => hs (move hm).2, wait⟩
  unfold Machine.concludeSweep
  split
  · exact Books.Sound.endSweep (h.modLens_kept rfl (.inl rfl))
  · next hb =>
    have steps : w.steps ≠ [] := fun hs => by
      rw [hs] at hb
      cases hb
    refine Solvent.ite (fun _ => ?_) fun _ => h.endSweep
    exact h.stageFocus hw (by simp [hp]) (.inr rfl) (calm steps).1 (calm steps).2

theorem Books.Sound.advanceSweep {p : Port} {e : Event} (h : Solvent e) : Solvent (Machine.advanceSweep p e) := by
  unfold Machine.advanceSweep
  split
  · exact h
  · next w hw =>
    extract_lets st
    have idle : st = .idle → (e.port p).lens.stagedBy = .sheet := (h.account p).idle (by simp)
    have fires : w.phase ≠ .deciding ∧ w.phase ≠ .frame → st = .idle → Solvent (Machine.fireStep p w e) := fun hp hs =>
      h.fireStep hw hp (fun hm => (by cases hs.symm.trans hm)) (fun hm => (by cases hs.symm.trans hm)) (idle hs)
    split
    · next hp =>
      have neither : w.phase ≠ .deciding ∧ w.phase ≠ .frame := by simp [hp]
      have still : ¬ w.Moves := by simp [SweepRun.Moves, hp]
      have wait : st ≠ .waitPower := (((h.account p).steady (by simp) w hw).resolve_left still).1
      have server : (e.port p).lens.stagedBy = .sheet := ((h.account p).served w hw).resolve_left still
      refine Solvent.ite (fun _ => h.endSweep) fun _ => Solvent.ite (fun _ => h.concludeSweep hw hp) fun _ =>
        Solvent.ite (fun _ => h) fun hs => ?_
      rw [not_or] at hs
      exact Solvent.ite (fun _ => h.fireStep hw neither hs.1 wait server) fun _ => h.stageFocus hw neither (.inl rfl) hs.1 wait
    · next hp => exact Solvent.ite (fires (by simp [hp])) fun _ => h
    · next hp => exact Solvent.ite (fun _ => Solvent.ite (fun _ => h.endSweep) fun _ => h.endSweep) fun _ => h
    · exact h
    · exact h

end Sys2Proof.Machine

namespace Sys2Proof.Machine

/-! ## Heads that begin, and cycles -/

/-- The head of a queue begins, and it is no sweep. -/
theorem Books.Sound.enter {x y : Option Port} {b : Books} {p : Port} {k : QEntry} {f : Work → Work} (h : b.Sound x y)
    (free : (b.account p).work.jobs = []) (head : (b.account p).work.queue.head? = some k)
    (running : ∀ n, k = .order n → (b.slot n).1 = .running) (queue : (f (b.account p).work).queue = (b.account p).work.queue)
    (sweep : (f (b.account p).work).sweep = (b.account p).work.sweep) (jobs : (f (b.account p).work).jobs = [k]) :
    (b.put p fun a => { a with work := f a.work }).Sound x y := by
  have work := h.work p
  obtain ⟨-, -, none, -⟩ := Work.jobs_nil.mp free
  refine h.putWork rfl ((h.account p).rework (.inr sweep)) ⟨fun e he => ?_, fun n hn => ?_, fun n => ?_, fun w hw => ?_⟩ fun n hn => ?_
  · rw [jobs, List.mem_singleton] at he
    subst he
    exact ⟨jobs, by rw [queue]; exact head, running⟩
  · rw [queue] at hn
    exact work.queued n hn
  · rw [queue]
    exact work.once n
  · rw [sweep] at hw
    exact work.shot w hw
  · exact absurd hn (h.unasked (fun w hw => absurd (none.symm.trans hw) (by simp)) n)

theorem Books.Sound.beginSnap {p : Port} {n : SlotNo} {exposure : Nat} {e : Event} (h : Solvent e) (ha : AtHead p (.order n) e)
    (hn : (e.slots.get n).state = .running) : Solvent (Machine.beginSnap p n exposure e) := by
  obtain ⟨-, cycle, sweep, probe⟩ := Work.jobs_nil.mp ha.free
  unfold Machine.beginSnap
  refine Books.Sound.decideFire ?_ (Books.asker_of_none fun _ _ => by simp)
  rw [books_modPort (g := fun a => { a with work := { a.work with snap := some n } }) (by exact fun _ => rfl)]
  refine h.enter (f := fun w => { w with snap := some n }) ha.free ha.head (fun m hm => ?_) rfl rfl ?_
  · obtain rfl : n = m := by simpa using hm
    exact hn
  · change ({ (e.port p).work with snap := some n } : Work).jobs = _
    simp only [Work.jobs, cycle, sweep, probe]
    rfl

theorem Books.Sound.beginCycle {p : Port} {n : SlotNo} {e : Event} (h : Solvent e) (ha : AtHead p (.order n) e)
    (hn : (e.slots.get n).state = .running) : Solvent (Machine.beginCycle p n e) := by
  obtain ⟨snap, -, sweep, probe⟩ := Work.jobs_nil.mp ha.free
  unfold Machine.beginCycle
  extract_lets found run e1
  have power : (e1.port p).power.state = found := by simp [e1, port_modPort, found]
  have begun : Solvent e1 := by
    unfold e1
    rw [Solvent, books_modPort (g := fun a => { a with work := { a.work with cycle := some n } }) (by exact fun _ => rfl)]
    refine h.enter (f := fun w => { w with cycle := some n }) ha.free ha.head (fun m hm => ?_) rfl rfl ?_
    · obtain rfl : n = m := by simpa using hm
      exact hn
    · change ({ (e.port p).work with cycle := some n } : Work).jobs = _
      simp only [Work.jobs, snap, sweep, probe]
      rfl
  refine Solvent.ite (fun hp => begun.removePower (by rw [power]; exact hp) rfl) fun _ => ?_
  clear_value e1 run found
  split
  · exact begun.unwait power
  · exact begun.leaveRetry power
  · exact begun

theorem Books.Sound.endCycle {p : Port} {st : SlotState} {why : Reason} {e : Event} (h : Solvent e) :
    Solvent (Machine.endCycle p st why e) := by
  unfold Machine.endCycle
  split
  · exact h
  · next c hc =>
    extract_lets e1
    have running : ((books e.toState).account p).work.cycle = some c.slot := congrArg (Option.map CycleRun.slot) hc
    obtain ⟨head, snap, sweep, probe⟩ := (h.work p).cycle_alone running
    have cleared : books (modPort p (fun q => { q with cycle := none }) e).toState =
        (books e.toState).put p fun a => { a with work := { a.work with cycle := none } } := books_modPort (by exact fun _ => rfl) e
    have ended : ((books e.toState).put p fun a => { a with work := { a.work with cycle := none, queue := a.work.queue.tail } }) =
        (books e.toState).put p fun a => { a with work := a.work.done } := Books.put_congr (by
      simp only [Work.done]
      rw [snap, sweep, probe])
    have sound : Solvent e1 := by
      unfold e1
      rw [Solvent, books_endOrder, cleared, Books.put_put]
      exact ended ▸ h.endRun st head (h.unasked fun w hw => absurd (sweep.symm.trans hw) (by simp))
    exact Solvent.ite (fun _ => sound.actOnWant) fun _ => sound

/-! ## Probes (R153 to R158, R163 to R165) -/

theorem work_lensProbeBegins (p q : Port) (e : Event) :
    ((books (lensProbeBegins p e).toState).account q).work = ((books e.toState).account q).work := by
  unfold lensProbeBegins unclaim
  split
  · rw [books_tell, work_setLens]
    rfl
  · rfl

theorem slot_lensProbeBegins (p : Port) (e : Event) : (books (lensProbeBegins p e).toState).slot = (books e.toState).slot := by
  unfold lensProbeBegins unclaim
  split
  · rw [books_tell, books_setLens]
    rfl
  · rfl

theorem Books.Sound.beginProbe {p : Port} {job : ProbeJob} {requireRef force : Bool} {e : Event} (h : Solvent e)
    (ha : AtHead p job.entry e) (hn : ∀ n, job.entry = .order n → (e.slots.get n).state = .running) :
    Solvent (Machine.beginProbe p job requireRef force e) := by
  unfold Machine.beginProbe
  extract_lets e1
  have told : Solvent e1 := h.lensProbeBegins
  have atHead : AtHead p job.entry e1 := ha.of_books (work_lensProbeBegins p p e)
  split
  · next c _ _ =>
    obtain ⟨snap, cycle, sweep, -⟩ := Work.jobs_nil.mp atHead.free
    rw [Solvent, books_tell, books_modPort (g := fun a => { a with work := { a.work with probe := some job } }) (by exact fun _ => rfl)]
    refine told.enter (f := fun w => { w with probe := some job }) atHead.free atHead.head (fun n hj => ?_) rfl rfl ?_
    · rw [slot_lensProbeBegins]
      exact hn n hj
    · change ({ (e1.port p).work with probe := some job } : Work).jobs = _
      simp only [Work.jobs, snap, cycle, sweep]
      rfl
  · have pathed : books (pathField none e1).2.toState = books e1.toState := books_pathField none e1
    have refused : Solvent (pathField none e1).2 := told.of_eq pathed
    have stands : AtHead p job.entry (pathField none e1).2 := atHead.of_books (by rw [pathed])
    cases job with
    | order n asked => exact Books.Sound.endHead (e := tell (.lens p) (pathField none e1).2) refused ⟨stands.head, stands.free⟩
    | learn n => exact Books.Sound.endHead (e := tell (.lens p) (pathField none e1).2) refused ⟨stands.head, stands.free⟩
    | auto =>
      change Solvent (removeHead p (tell (.lens p) (pathField none e1).2))
      rw [Solvent, books_removeHead, books_tell]
      have ended : ((books (pathField none e1).2.toState).put p fun a => { a with work := { a.work with queue := a.work.queue.tail } }) =
          (books (pathField none e1).2.toState).put p fun a => { a with work := a.work.done } := Books.put_congr
        (congrArg (fun w => { (books (pathField none e1).2.toState).account p with work := w }) (Work.done_of_idle stands.free))
      rw [ended]
      exact refused.endAuto (stands.asks refused)

theorem Books.Sound.requestHush {p : Port} {e : Event} (h : Solvent e) : Solvent (Machine.requestHush p e) := by
  unfold Machine.requestHush
  refine Solvent.ite (fun ha => ?_) fun _ => h.of_eq (books_reclass p e)
  extract_lets e1
  have talk : (e.port p).link.state = .talk := of_decide_eq_true ha
  have phased : books e1.toState = books e.toState := books_modProbe (by exact fun _ => rfl) e
  have power : (e1.port p).power = (e.port p).power := by simp [e1, modProbe, port_modPort]
  have emptied : ∀ f : PortLink → PortLink, (∀ l, (f l).state = l.state) →
      Solvent (Machine.setLink p .hushing (emptyHistories p (modLink p f e1))) := fun f hf =>
    Books.Sound.setLink (h.of_eq ((books_emptyHistories p _).trans ((books_modLink hf e1).trans phased))) fun _ => by
      simpa [emptyHistories, modLink, port_modPort, power] using h.powered_of_link (p := p) (by rw [talk]; decide)
  exact emptied _ fun l => enqueue_state .hush l

theorem Books.Sound.drainTest {p : Port} {e : Event} (h : Solvent e) : Solvent (Machine.drainTest p e) :=
  Solvent.ite (fun _ => h.requestHush) fun _ => h

theorem Books.Sound.drainIfDraining {p : Port} {e : Event} (h : Solvent e) : Solvent (Machine.drainIfDraining p e) := by
  unfold Machine.drainIfDraining
  split
  · exact Solvent.ite (fun _ => h.drainTest) fun _ => h
  · exact h

theorem Books.Sound.toClaiming {p : Port} {path : ProbePath} {e : Event} (h : Solvent e) : Solvent (Machine.toClaiming p path e) :=
  h.of_eq (books_modProbe (by exact fun _ => rfl) e)

theorem Books.Sound.classPort {p : Port} {e : Event} (h : Solvent e) : Solvent (Machine.classPort p e) := by
  unfold Machine.classPort
  dsimp only
  split
  · exact Books.Sound.drainTest (h.of_eq (books_modProbe (by exact fun _ => rfl) e))
  · exact h.toClaiming
  · exact h.toClaiming
  · exact h.toClaiming
  · exact h.toClaiming
  · exact h

theorem Books.Sound.claimPhase {p : Port} {r : ProbeRun} {e : Event} (h : Solvent e) : Solvent (Machine.claimPhase p r e) := by
  have pulses : Solvent (modProbe p (fun x => { x with phase := .pulsing }) e) := h.of_eq (books_modProbe (by exact fun _ => rfl) e)
  unfold Machine.claimPhase
  split
  · exact h
  · exact Solvent.ite (fun _ => h.of_eq (books_claimTrace p e)) fun _ => Solvent.ite (fun _ => h.abortProbe) fun _ => pulses
  · exact Solvent.ite (fun _ => h.abortProbe) fun _ => pulses
  · exact Solvent.ite (fun _ => h.abortProbe) fun _ => pulses

theorem Books.Sound.advanceProbe {p : Port} {e : Event} (h : Solvent e) : Solvent (Machine.advanceProbe p e) := by
  unfold Machine.advanceProbe
  split
  · exact h
  · split
    · exact h.classPort
    · refine Solvent.ite (fun _ => Solvent.ite (fun _ => ?_) fun _ => h.toClaiming) fun _ => h
      exact Books.Sound.abortProbe (h.of_eq (books_modProbe (by exact fun _ => rfl) e))
    · exact h.claimPhase
    all_goals exact h

theorem Books.Sound.completeProbe {p : Port} {r : ProbeRun} {asked : Bool} {echoes : List Echo} {e : Event} (h : Solvent e) :
    Solvent (Machine.completeProbe p r asked echoes e).2 := by
  change Solvent (Machine.raiseEach p .breakFound _ (takeLog _ e))
  exact Books.Sound.raiseEach _ (h.of_eq (books_takeLog _ e))

theorem probe_completeProbe (p : Port) (r : ProbeRun) (asked : Bool) (echoes : List Echo) (e : Event) :
    ((books (completeProbe p r asked echoes e).2.toState).account p).work.probe = ((books e.toState).account p).work.probe := by
  change ((books (raiseEach p .breakFound _ (takeLog _ e)).toState).account p).work.probe = _
  rw [probe_raiseEach, books_takeLog]

theorem Books.Sound.finishProbe {p : Port} {r : ProbeRun} {sets : List (List Echo)} {e : Event} (h : Solvent e)
    (hr : (e.port p).probe = some r) : Solvent (Machine.finishProbe p r sets e) := by
  unfold Machine.finishProbe
  extract_lets e1
  have delivered : books e1.toState = books (Machine.resume p e).toState := books_deliverTrace r.trace true _
  have resumed : Solvent e1 := h.resume.of_eq delivered
  have running : ((books e1.toState).account p).work.probe = some r.job := by
    rw [delivered, work_resume]
    exact congrArg (Option.map ProbeRun.job) hr
  split
  · next n asked _ =>
    change Solvent (Machine.reportEnd p r.job .done .none _ (Machine.completeProbe p r asked (sets.headD []) e1).2)
    exact resumed.completeProbe.reportEnd ((probe_completeProbe ..).trans running)
  · change Solvent (Machine.reportEnd p r.job .done .none _ (Machine.completeProbe p r false (sets.headD []) e1).2)
    exact resumed.completeProbe.reportEnd ((probe_completeProbe ..).trans running)
  · have learned : books (completeLearn p r sets e1).2.2.2.toState = books e1.toState := books_completeLearn p r sets e1
    change Solvent (Machine.reportEnd p r.job _ _ _ (completeLearn p r sets e1).2.2.2)
    exact Books.Sound.reportEnd (resumed.of_eq learned) (by rw [learned]; exact running)

/-! ## The end of an event -/

theorem Books.Sound.beginOrder {p : Port} {n : SlotNo} {o : Order} {e : Event} (h : Solvent e) (ha : AtHead p (.order n) e) :
    Solvent (Machine.beginOrder p n o e) := by
  obtain ⟨z, hz⟩ : ∃ z, z = touch p (Machine.runSlot n e) := ⟨_, rfl⟩
  have same : books z.toState = books (Machine.runSlot n e).toState := by rw [hz, books_touch]
  have runs : Solvent z := h.runSlot.of_eq same
  have atHead : AtHead p (.order n) z := ha.of_books (by rw [same, books_runSlot]; rfl)
  have running : (z.slots.get n).state = .running := by
    have slot : (books z.toState).slot n = (.running, (e.slots.get n).order) := by
      rw [same, books_runSlot, Books.onSlots_slot, Function.update_self]
    exact congrArg Prod.fst slot
  unfold Machine.beginOrder
  rw [← hz]
  split
  · exact runs.beginSnap atHead running
  · exact runs.beginCycle atHead running
  · exact runs.beginSweep atHead running
  · refine Solvent.ite (fun _ => h) fun _ => runs.beginProbe atHead fun m hm => ?_
    obtain rfl : n = m := by simpa [ProbeJob.entry] using hm
    exact running
  · refine Solvent.ite (fun _ => h) fun _ => runs.beginProbe atHead fun m hm => ?_
    obtain rfl : n = m := by simpa [ProbeJob.entry] using hm
    exact running
  · exact h

theorem Work.Sound.free_of_order {slot : SlotNo → SlotState × Option Order} {p : Port} {w : Work} (h : w.Sound slot p) {n : SlotNo}
    (head : w.queue.head? = some (.order n)) (hn : (slot n).1 ≠ .running) : w.jobs = [] := by
  refine List.eq_nil_iff_forall_not_mem.mpr fun x hx => ?_
  obtain ⟨-, hh, running⟩ := h.job x hx
  exact hn (running n (Option.some.inj (hh.symm.trans head)))

theorem Work.Sound.free_of_probe {slot : SlotNo → SlotState × Option Order} {p : Port} {w : Work} (h : w.Sound slot p)
    (head : w.queue.head? = some .probe) (hp : w.probe = none) : w.jobs = [] := by
  have order : ∀ n, w.queue.head? ≠ some (.order n) := fun n hn => by cases head.symm.trans hn
  refine Work.jobs_nil.mpr ⟨?_, ?_, ?_, hp⟩
  · exact Option.eq_none_iff_forall_ne_some.mpr fun n hn => order n (h.snap_alone hn).1
  · exact Option.eq_none_iff_forall_ne_some.mpr fun n hn => order n (h.cycle_alone hn).1
  · exact Option.eq_none_iff_forall_ne_some.mpr fun r hr => order r.slot (h.sweep_alone hr).1

theorem Books.Sound.beginHead {p : Port} {e : Event} (h : Solvent e) : Solvent (Machine.beginHead p e) := by
  have work := h.work p
  unfold Machine.beginHead
  split
  · exact h
  · next rest hq =>
    have head : (e.port p).queue.head? = some .probe := by rw [hq]; rfl
    refine Solvent.ite (fun _ => h) fun hr => ?_
    rw [Bool.or_eq_true, not_or] at hr
    have none : (e.port p).probe = none := by simpa [probeRuns] using hr.1
    have unprobed : ((books e.toState).account p).work.probe = .none := congrArg (Option.map ProbeRun.job) none
    exact h.beginProbe ⟨head, work.free_of_probe head unprobed⟩ fun n hn => (by cases hn)
  · next n rest hq =>
    have head : (e.port p).queue.head? = some (.order n) := by rw [hq]; rfl
    dsimp only
    split
    · next o hs _ =>
      have queued : ((books e.toState).slot n).1 ≠ .running := by
        change (e.slots.get n).state ≠ _
        rw [hs]
        decide
      exact h.beginOrder ⟨head, work.free_of_order head queued⟩
    · exact h

theorem Books.Sound.actOnOwed {p : Port} {e : Event} (h : Solvent e) : Solvent (Machine.actOnOwed p e) :=
  Solvent.ite (fun _ => Books.Sound.actOnWant (h.modPower_kept fun _ => ⟨rfl, rfl, rfl, rfl⟩)) fun _ => h

theorem Books.Sound.perform {t : Task} {e : Event} (h : Solvent e) : Solvent (Machine.perform t e) := by
  cases t with
  | begin p => exact h.beginHead
  | gap p => exact h.lensTest.drainIfDraining
  | moveEnded p => exact h.drainIfDraining
  | lens p => exact h.lensTest
  | sweep p => exact h.advanceSweep
  | probe p => exact h.advanceProbe
  | owed p => exact h.actOnOwed

theorem Books.Sound.drain (n : Nat) : ∀ {e : Event}, Solvent e → Solvent (Machine.drain n e) := by
  induction n with
  | zero => exact fun h => h
  | succ n ih =>
    intro e h
    unfold Machine.drain
    split
    · exact h
    · next ts _ => exact ih (Books.Sound.perform (e := { e with agenda := ts }) h)

theorem Books.Sound.finish {e : Event} (h : Solvent e) : Solvent (Machine.finish e) :=
  (h.drain agendaBound).of_eq (books_flush _)

/-- A state whose books are sound. -/
abbrev Solvency (s : State) : Prop := (books s).Sound none none

theorem Books.Sound.act {s t : State} {f : Event → Event} (h : Solvency s) (hf : Solvent (f (Event.of s)))
    (ha : Machine.act f s = .next t) : Solvency t := by
  unfold Machine.act at ha
  injection ha with ha
  subst ha
  split
  · exact hf.finish
  · exact h

end Sys2Proof.Machine

namespace Sys2Proof.Machine

/-! ## A cell at rest (R31, R32, R36, R82)

A teardown, a release and a reset each leave every port without power, without work and with a lens that does not move. -/

/-- The lens does not move, and an IDLE one serves the sheet. -/
def LensRec.Calm (r : LensRec) : Prop := r.state ≠ .moving ∧ (r.state = .idle → r.stagedBy = .sheet)

theorem LensRec.calm_of_unknown {r : LensRec} (h : r.state = .unknown) : r.Calm := by simp [LensRec.Calm, h]

/-- Nothing runs or waits on the port, and it holds nothing. -/
structure Account.AtRest (a : Account) : Prop where
  base : a.power.base = 0
  motion : a.power.motion = 0
  resting : a.power.state.resting
  dark : a.link = .dark
  calm : a.lens.Calm
  declared : ∀ x, a.sheet = some x → x.declared ≠ 0
  queue : a.work.queue = []
  jobs : a.work.jobs = []

/-- Every port is so, and the budget is empty. -/
structure Books.AtRest (b : Books) : Prop where
  account : ∀ p, (b.account p).AtRest
  budget : b.budget = Budget.reset
  mode : b.mode ≠ .run
  asks : b.asks = []

theorem PowerState.resting.of_state {st : PowerState} (h : st.resting) : st.powered = false ∧ st ≠ .queued ∧ st ≠ .inrush ∧
    st ≠ .standby ∧ st ≠ .on ∧ st ≠ .limit ∧ st ≠ .waking := by
  obtain rfl | rfl | rfl := h <;> decide

theorem Account.AtRest.sound {a : Account} (h : a.AtRest) (p : Port) : a.Sound False False Budget.reset p := by
  obtain ⟨unpowered, queued, inrush, standby, on, limit, waking⟩ := h.resting.of_state
  obtain ⟨-, -, sweep, -⟩ := Work.jobs_nil.mp h.jobs
  exact
    { base := by simp [h.base, unpowered]
      powered := fun hm => absurd h.motion hm
      motion := fun _ => by simp [h.motion, h.calm.1]
      still := fun hl => hl.elim
      dark := fun _ hl => absurd h.dark hl
      full := fun hs => by simp [on, limit, waking] at hs
      asleep := fun hs => absurd hs standby
      queued := by simp [Budget.reset, queued]
      charging := by simp [Budget.reset, inrush]
      trimming := fun ht => by simp [Budget.reset] at ht
      claim := fun c hc => by simp [Budget.reset] at hc
      declared := h.declared
      idle := fun _ => h.calm.2
      served := fun w hw => by simp [sweep] at hw
      steady := fun _ w hw => by simp [sweep] at hw }

theorem Account.AtRest.work_sound {a : Account} (h : a.AtRest) (slot : SlotNo → SlotState × Option Order) (p : Port) :
    a.work.Sound slot p where
  job x hx := by simp [h.jobs] at hx
  queued n hn := by simp [h.queue] at hn
  once n := by simp [h.queue]
  shot r hr := by
    obtain ⟨-, -, sweep, -⟩ := Work.jobs_nil.mp h.jobs
    simp [sweep] at hr

theorem Books.AtRest.sound {b : Books} (h : b.AtRest) : b.Sound none none where
  account p := by
    rw [h.budget]
    exact ((h.account p).sound p).congr (by simp) (by simp)
  once := by simp [h.budget, Budget.reset]
  claims := by simp [h.budget, Budget.reset]
  within := by
    have none : ∀ p, (b.account p).power.held = 0 := fun p => by simp [PortPower.held, (h.account p).base, (h.account p).motion]
    simp [Books.allotted, none]
  inRun hm := absurd hm h.mode
  outside _ := by simp [h.budget, Budget.reset]
  settled _ p := (h.account p).resting
  work p := (h.account p).work_sound b.slot p
  asked x hx := by simp [h.asks] at hx
  single := by simp [h.asks]

/-! ### The Power Manager's share -/

/-- What the law leaves of a port whose power has been removed (R32, R78, R94, R143). -/
theorem Account.Sound.down {q : PortState} {g : Budget} {p : Port} (h : q.account.Sound False False g p) :
    q.face.down.power.base = 0 ∧ q.face.down.power.motion = 0 ∧ q.face.down.power.state.resting ∧ q.face.down.link.state = .dark ∧
    q.face.down.lens.Calm := by
  obtain ⟨-, -, state, cut⟩ := q.face.down_power
  obtain ⟨dark, -⟩ := Face.down_link (q := q.face) (h.dark id)
  have resting : q.face.down.power.state.resting := by
    rw [state]
    unfold PowerState.resting
    cases q.face.power.state <;> decide
  by_cases hp : q.face.power.state.powered = true
  · obtain ⟨base, motion⟩ := cut hp
    exact ⟨base, motion, resting, dark, LensRec.calm_of_unknown (Face.down_lens hp).1⟩
  · have base : q.face.power.base = 0 := by
      by_contra hb
      exact hp (h.base.mp hb)
    have motion : q.face.power.motion = 0 := by
      by_contra hm
      exact hp (h.powered hm)
    have still : q.face.lens.state ≠ .moving := fun hm => (h.motion id).mpr hm motion
    have calm : q.face.lens.Calm := ⟨still, h.idle id⟩
    have kept : q.face.down.power.base = q.face.power.base ∧ q.face.down.power.motion = q.face.power.motion ∧
        q.face.down.lens = q.face.lens := by
      unfold Face.down
      rw [if_neg hp]
      split <;> exact ⟨rfl, rfl, rfl⟩
    obtain ⟨sameBase, sameMotion, sameLens⟩ := kept
    exact ⟨sameBase.trans base, sameMotion.trans motion, resting, dark, sameLens ▸ calm⟩

/-! ### The queues of a teardown -/

theorem calm_settleLens (p : Port) (e : Event) : ((settleLens p e).port p).lens.Calm := by
  unfold settleLens
  dsimp only
  split
  · rw [← books_lens, lens_setLens]
    exact ⟨by simp, fun _ => congrArg LensRec.stagedBy (lens_modLens p _ e)⟩
  · unfold stage
    rw [← books_lens, books_tell, lens_setLens]
    exact ⟨by simp, by simp⟩

theorem calm_releaseWants {p : Port} {e : Event} (h : (e.port p).lens.Calm) (hb : e.budget = Budget.reset) :
    ((releaseWants p e).port p).lens.Calm := by
  have unclaimed : ∀ c : Bool, (if c = true then withdraw p .lensMotion e else e) = e := fun c => by
    rw [withdraw_reset hb, ite_self]
  unfold releaseWants
  dsimp only
  rw [unclaimed]
  split
  · exact calm_settleLens p _
  · exact calm_settleLens p _
  · exact calm_settleLens p _
  all_goals
    rw [← books_lens, lens_modLens]
    exact ⟨h.1, fun _ => rfl⟩

theorem calm_haltedResults {p : Port} {e : Event} (h : (e.port p).lens.Calm) (hb : e.budget = Budget.reset) :
    ((haltedResults p e).2.port p).lens.Calm := by
  unfold haltedResults
  dsimp only
  split
  · exact h
  · exact h
  · exact calm_releaseWants h hb
  · split
    · exact h
    all_goals
      rw [← books_lens]
      change ((books (pathField _ e).2.toState).account p).lens.Calm
      rw [books_pathField]
      exact h
  · exact h

theorem calm_haltQueue {p q : Port} {e : Event} (h : (e.port q).lens.Calm) (hb : e.budget = Budget.reset) :
    ((haltQueue p e).port q).lens.Calm := by
  by_cases hq : q = p
  · subst hq
    have halted := calm_haltedResults h hb
    obtain ⟨slots, page, traffic, entries, -⟩ := haltEntries_eq (haltedResults q e).1 (e.port q).queue (haltedResults q e).2
    have lens : ((clearRuns q ((e.port q).queue.foldl (fun acc x => haltEntry (haltedResults q e).1 x acc) (haltedResults q e).2)).port
        q).lens = ((haltedResults q e).2.port q).lens := by
      rw [entries, clearRuns, port_modPort, if_pos rfl]
      rfl
    unfold haltQueue
    dsimp only
    split
    · exact lens ▸ halted
    · rw [← books_lens, books_touch, books_lens, lens]
      exact halted
  · obtain ⟨lens, slots, page, traffic, agenda, touched, free, same, -⟩ := haltQueue_eq hb p
    have port : (haltQueue p e).port q = e.port q := by
      rw [same]
      exact (port_modPort p q _ e).trans (if_neg hq)
    rw [port]
    exact h

theorem calm_haltQueues {q : Port} (ps : List Port) : ∀ {e : Event}, (e.port q).lens.Calm → e.budget = Budget.reset →
    ((forPorts ps haltQueue e).port q).lens.Calm := by
  induction ps with
  | nil => exact fun h _ => h
  | cons p ps ih =>
    intro e h hb
    refine ih (calm_haltQueue h hb) ?_
    obtain ⟨lens, slots, page, traffic, agenda, touched, free, same, -⟩ := haltQueue_eq hb p
    change (haltQueue p e).budget = Budget.reset
    rw [same]
    exact hb

theorem lens_shares (p : Port) (e : Event) : ((forEntries poolShare e).port p).lens = (e.port p).lens :=
  congrArg (fun c => (Core.faces c p).lens) (core_forEntries_poolShare e)

theorem calm_teardown {e : Event} {p : Port} (h : (e.port p).face.down.lens.Calm) : ((teardown e).port p).lens.Calm := by
  have torn := core_tornPower e
  have unseen : ∀ x : Event, ((unseen x).port p).lens = (x.port p).lens := fun _ => rfl
  rw [teardown_eq, unseen, lens_shares]
  generalize tornPower e = u at torn ⊢
  have budget : u.budget = Budget.reset := congrArg Core.budget torn
  have face : (u.port p).face = (e.port p).face.down := congrArg (fun c => Core.faces c p) torn
  rw [← face] at h
  exact calm_haltQueues allPorts h budget

/-- A teardown brings the cell to rest, the mode having left RUN (R31, R32, R34). -/
theorem Books.Sound.teardown {e : Event} (h : ∀ p, ∃ g, (e.port p).account.Sound False False g p) (hm : e.cell.mode ≠ .run) :
    Solvent (Machine.teardown e) := by
  obtain ⟨budget, -, claims, ports, -⟩ := teardown_core e
  have calm := fun p hc => calm_teardown (e := e) (p := p) hc
  obtain ⟨programs, -, moved⟩ := control_teardown e
  generalize Machine.teardown e = x at budget claims ports calm moved ⊢
  have mode : x.cell.mode = e.cell.mode := congrArg (fun c => CellCtl.mode (Control.cell c)) moved
  refine Books.AtRest.sound ⟨fun p => ?_, budget, by rwa [← mode] at hm, by simp [books, claims]⟩
  obtain ⟨g, sound⟩ := h p
  obtain ⟨base, motion, resting, dark, down⟩ := sound.down
  obtain ⟨power, link, -, -, sheet, -⟩ := (ports p).face_eq
  obtain ⟨snap, cycle, sweep, probe⟩ := (ports p).runs_eq
  exact
    { base := (congrArg PortPower.base power).trans base
      motion := (congrArg PortPower.motion power).trans motion
      resting := by
        change (x.port p).power.state.resting
        rwa [power]
      dark := (congrArg PortLink.state link).trans dark
      calm := calm p down
      declared := fun y hy => sound.declared y (sheet.symm.trans hy)
      queue := (ports p).queue
      jobs := by
        change (x.port p).work.jobs = []
        simp [Work.jobs, PortState.work, snap, cycle, sweep, probe] }

/-! ### A release -/

theorem PortPower.release_resting {w : PortPower} (h : w.state.resting) : w.release.state.resting ∧ w.release.base = w.base ∧
    w.release.motion = w.motion := by
  unfold PortPower.release
  split
  · exact ⟨h, rfl, rfl⟩
  · exact ⟨.inl rfl, rfl, rfl⟩

theorem faces_releaseShares (e : Event) (p : Port) : faces (releaseShares e) p = (faces e p).down := by
  have begun : Returning (releaseBegun e).toState (releaseBegun e) := (Returning.refl rfl).of_ledger rfl
  have powered := faces_forPorts_powerDown (ps := allPorts) (by decide) begun p
  unfold releaseShares
  generalize forPorts allPorts (powerDown .release) (releaseBegun e) = x at powered ⊢
  have disarmed : faces (dropClaims (disarmAll x)) = faces x := congrArg Core.faces (core_disarmAll x)
  have shares := congrArg Core.faces (core_forEntries_poolShare (dropClaims (disarmAll x)))
  exact (congrFun (shares.trans disarmed) p).trans (powered.trans (if_pos (mem_allPorts p)))

/-- A release of a HELD page brings the cell to rest (R5, R36). -/
theorem Books.Sound.releaseDone {e : Event} (h : Solvent e) : Solvent (Machine.releaseDone (releaseShares e)) := by
  have faced := faces_releaseShares e
  obtain ⟨programs, -, moved⟩ := control_releaseShares e
  have returning := (releaseShares_returning e).budget
  generalize releaseShares e = x at faced moved returning ⊢
  have budget : x.budget = Budget.reset := returning
  have mode : x.cell.mode = .setup := congrArg (fun c => CellCtl.mode (Control.cell c)) moved
  refine Books.AtRest.sound ⟨fun p => ?_, budget, fun hm => (by cases mode.symm.trans hm), rfl⟩
  have port : (Machine.releaseDone x).port p = (x.port p).release := by simp [Machine.releaseDone, closeWindow, Event.port]
  have face : (x.port p).face = (e.port p).face.down := faced p
  have sound : (e.port p).account.Sound False False (books e.toState).budget p := (h.account p).congr (by simp) (by simp)
  obtain ⟨base, motion, resting, dark, -⟩ := sound.down
  have power : (x.port p).power = (e.port p).face.down.power := congrArg Face.power face
  have link : (x.port p).link = (e.port p).face.down.link := congrArg Face.link face
  rw [← power] at base motion resting
  obtain ⟨rests, sameBase, sameMotion⟩ := PortPower.release_resting resting
  change ((Machine.releaseDone x).port p).account.AtRest
  rw [port]
  exact
    { base := sameBase.trans base
      motion := sameMotion.trans motion
      resting := rests
      dark := (congrArg PortLink.state link).trans dark
      calm := LensRec.calm_of_unknown rfl
      declared := fun y hy => (by cases hy)
      queue := rfl
      jobs := rfl }

theorem Books.Sound.releasePage {e : Event} (h : Solvent e) : Solvent (Machine.releasePage e) := by
  by_cases ht : e.page.taken = .held
  · rw [releasePage_held ht]
    exact h.releaseDone
  · rw [releasePage_absent ht]
    exact h

theorem books_startTake (a : Addr) (e : Event) : books (startTake a e).toState = books e.toState := by
  unfold startTake failTake
  split
  · rw [books_issueRead]
    rfl
  · rw [books_raiseFlags]
    rfl

theorem Books.Sound.actOnPair {e : Event} (h : Solvent e) : Solvent (Machine.actOnPair e) := by
  unfold Machine.actOnPair
  refine Solvent.ite (fun _ => h.releasePage) fun _ => Solvent.ite (fun _ => ?_) fun _ => ?_
  · exact h.of_eq (books_startTake _ e)
  · exact h.releasePage.of_eq (books_startTake _ _)

theorem Books.Sound.writePageHi {v : Word} {e : Event} (h : Solvent e) : Solvent (Machine.writePageHi v e) :=
  Solvent.ite (fun _ => h) fun _ => Books.Sound.actOnPair (e := { e with page := { e.page with hi := v } }) h

/-! ### The take of a page -/

theorem Books.Sound.takePage {e : Event} (h : Solvent e) (hm : e.cell.mode = .setup) : Solvent (Machine.takePage e) := by
  have taken : books (Machine.takePage e).toState = { books e.toState with mode := .configure } := by
    have mirrored : ∀ (ns : List (Fin 16)) (x : Event), books (forNumbers ns writeMirror x).toState = books x.toState :=
      fun ns x => books_forNumbers ns _ x books_writeMirror
    have zeroed : ∀ x : Event, books (forNumbers allNumbers zeroMirror x).toState = books x.toState :=
      fun x => books_forNumbers _ _ x fun _ _ => rfl
    unfold Machine.takePage
    dsimp only
    rw [books_attend, mirrored, zeroed, books_writeHeader]
    have accounts : (books (State.begunPage e.toState)).account = (books e.toState).account := funext fun p => by
      simp [books, State.begunPage, PortState.account, PortState.work]
    have slots : (books (State.begunPage e.toState)).slot = (books e.toState).slot := funext fun n => by
      simp [books, State.begunPage]
    exact congr (congrArg (fun a v => { books e.toState with mode := .configure, account := a, slot := v }) accounts) slots
  rw [Solvent, taken]
  have setup : (books e.toState).mode ≠ .run := fun hr => (by cases hm.symm.trans hr)
  exact { h with inRun := fun hr => (by cases hr), outside := fun _ => h.outside setup, settled := fun _ => h.settled setup }

/-! ### START (R30) -/

theorem books_storeCheck (e : Event) : books (storeCheck e).toState = books e.toState := rfl

theorem Books.Sound.startCell {e : Event} (h : Solvent e) (hm : e.cell.mode ≠ .run) : Solvent (Machine.startCell e) := by
  rw [startCell_eq]
  refine Books.Sound.forPorts (fun p _ hx => hx.offerPowerUp) ?_
  have checked : Solvent (Machine.forProgs Machine.disarmProgram (storeCheck e)) :=
    Books.Sound.forProgs (fun _ _ hx => hx.disarmProgram) (h.of_eq (books_storeCheck e))
  have mode : (Machine.forProgs Machine.disarmProgram (storeCheck e)).cell.mode = e.cell.mode := by
    obtain ⟨programs, claims, -, hx⟩ := forProgs_disarmProgram (storeCheck e)
    rw [hx]
    rfl
  unfold startBegun
  generalize Machine.forProgs Machine.disarmProgram (storeCheck e) = x at checked mode ⊢
  have outside : (books x.toState).mode ≠ .run := fun hr => hm (mode.symm.trans hr)
  have empty := checked.outside outside
  have within := checked.within
  obtain ⟨flags, count, traffic, shown⟩ := showMode_eq (enterRun x)
  rw [shown]
  refine { checked with
    account := fun p => { checked.account p with claim := fun c hc => (checked.account p).claim c hc }
    within := ?_
    inRun := fun _ => rfl
    outside := fun hr => absurd rfl hr
    settled := fun hr => absurd rfl hr }
  change (books x.toState).allotted ≤ _
  omega

end Sys2Proof.Machine

namespace Sys2Proof.Machine

/-! ## Orders that run at once (R43)

Their slot is of no queue, and none of them moves it before its answer. -/

/-- The order in slot n is for no queue. -/
def Books.Apart (n : SlotNo) (b : Books) : Prop := (b.slot n).2.bind Order.queuePort = none

theorem Books.Apart.of_handed {n : SlotNo} {o : Order} {e : Event} (ho : handedOrder n e.toState = some o) (hq : o.queuePort = none) :
    (books e.toState).Apart n := by
  change (e.slots.get n).order.bind Order.queuePort = none
  rw [order_of_handed ho]
  exact hq

theorem Books.Sound.answer {x y : Option Port} {n : SlotNo} {st : SlotState} {r : Reason} {field : Nat} {results : List Byte} {e : Event}
    (h : (books e.toState).Sound x y) (hn : (books e.toState).Apart n) :
    (books (Machine.finishSlot n st r field results e).toState).Sound x y := h.finishSlot (h.unqueued_of_order hn)

theorem Books.Sound.done {n : SlotNo} {results : List Byte} {e : Event} (h : Solvent e) (hn : (books e.toState).Apart n) :
    Solvent (Machine.doneSlot n results e) := h.answer hn

theorem Books.Sound.refuse {n : SlotNo} {r : Reason} {e : Event} (h : Solvent e) (hn : (books e.toState).Apart n) :
    Solvent (Machine.refuseSlot n r e) := h.answer hn

/-- An order carried out keeps the books when its work does. -/
theorem Books.Sound.carryOut {n : SlotNo} {o : Order} {f : Event → Event} {e : Event} (h : Solvent e) (hn : (books e.toState).Apart n)
    (hf : o.acceptedIn e.cell.mode = true → Solvent (f e)) : Solvent (Machine.carryOut n o f e) :=
  Books.Sound.carriedOn (Solvent.ite hf fun _ => h.refuse hn)

/-- An order handed over is carried out, or the command finds none. -/
theorem Books.Sound.handed {n : SlotNo} {o : Order} {f : Event → Event} {e : Event} (h : Solvent e)
    (ho : handedOrder n e.toState = some o) (hq : o.queuePort = none)
    (hf : (books e.toState).Apart n → o.acceptedIn e.cell.mode = true → Solvent (f e)) : Solvent (Machine.carryOut n o f e) :=
  h.carryOut (.of_handed ho hq) (hf (.of_handed ho hq))

/-! ### START and HALT (R30, R31) -/

theorem slot_takeStage (e : Event) : (books (takeStage e).toState).slot = (books e.toState).slot := by
  unfold takeStage
  split <;> rfl

theorem slot_grant (c : PowerClaim) (e : Event) : (books (grant c e).toState).slot = (books e.toState).slot := by
  unfold grant
  split
  · dsimp only
    rw [slot_takeStage, books_setPower]
    rfl
  · rw [books_give, books_setPower, books_modPower]
    rfl
  · unfold lensGranted
    dsimp only
    split
    · rw [books_setLens, books_modLens, books_give, books_modLens, books_modPower]
      rfl
    · unfold stage
      rw [books_tell, books_setLens, books_modLens, books_modPower, books_modLens, books_modLens, books_modPower]
      rfl

theorem slot_walkUpTo (n : Nat) : ∀ e : Event, (books (walkUpTo n e).toState).slot = (books e.toState).slot := by
  induction n with
  | zero => exact fun _ => rfl
  | succ n ih =>
    intro e
    unfold walkUpTo
    split
    · rfl
    · rw [ih, slot_grant]
      rfl

theorem slot_arrive (c : PowerClaim) (e : Event) : (books (arrive c e).toState).slot = (books e.toState).slot := by
  unfold arrive
  split
  · rfl
  · exact slot_walkUpTo _ _

theorem slot_offerPowerUp (p : Port) (e : Event) : (books (offerPowerUp p e).toState).slot = (books e.toState).slot := by
  unfold offerPowerUp owe
  dsimp only
  split
  · split
    · rw [books_modPower]
      rfl
    · rw [powerUp, slot_arrive, books_setPower]
      rfl
  · rfl

theorem slot_startCell (e : Event) : (books (startCell e).toState).slot = (books e.toState).slot := by
  have offered : ∀ (ps : List Port) (x : Event), (books (forPorts ps offerPowerUp x).toState).slot = (books x.toState).slot := by
    intro ps
    induction ps with
    | nil => exact fun _ => rfl
    | cons p ps ih => exact fun x => (ih _).trans (slot_offerPowerUp p x)
  obtain ⟨flags, count, traffic, programs, claims, -, hb⟩ := startBegun_eq e
  rw [startCell_eq, offered, hb]
  rfl

theorem Books.Sound.carryStart {n : SlotNo} {e : Event} (h : Solvent e) (hn : (books e.toState).Apart n)
    (hm : Order.start.acceptedIn e.cell.mode = true) : Solvent (Machine.carryStart n e) := by
  unfold Machine.carryStart
  split
  · exact h.refuse hn
  · refine (h.startCell fun hr => ?_).done ?_
    · simp [hr, Order.acceptedIn] at hm
    · unfold Books.Apart
      rwa [slot_startCell]

theorem account_startSlot (n : SlotNo) (e : Event) : (books (startSlot n e).toState).account = (books e.toState).account := by
  have begun : startSlot n e = runSlot n (modSlot n (fun x => { x with reason := .none, field := 0, results := [] }) e) := rfl
  rw [begun, books_runSlot, Books.onSlots_account, books_modSlot_same (by exact fun _ => ⟨rfl, rfl⟩)]

theorem books_showMode_leaveRun (why : Cause) (e : Event) :
    (books (showMode (leaveRun why e)).toState).account = (books e.toState).account := by
  rw [books_showMode]
  rfl

theorem Books.Sound.carryHalt {n : SlotNo} {e : Event} (h : Solvent e) : Solvent (Machine.carryHalt n e) := by
  refine Books.Sound.teardown (fun p => ⟨e.budget, ?_⟩) ?_
  · have same : (books (Machine.startSlot n (Machine.showMode (leaveRun .halt e))).toState).account = (books e.toState).account := by
      rw [account_startSlot, books_showMode_leaveRun]
    change ((books (Machine.startSlot n (Machine.showMode (leaveRun .halt e))).toState).account p).Sound _ _ _ _
    rw [same]
    exact (h.account p).congr (by simp) (by simp)
  · obtain ⟨slots, flags, count, traffic, begun, -⟩ := haltBegun_eq n e
    rw [begun]
    exact fun hm => (by cases hm)

theorem Books.Sound.cellCheck {e : Event} (h : Solvent e) : Solvent (Machine.cellCheck e) := by
  unfold Machine.cellCheck
  rw [Solvent, books_showMode, books_setStop]
  refine Books.Sound.teardown (fun p => ⟨e.budget, ?_⟩) fun hm => (by cases hm)
  exact (h.account p).congr (by simp) (by simp)

/-! ### CANCEL (R45, R56, R57, R147, R158) -/

/-- A QUEUED order leaves its queue. -/
theorem Work.Sound.cancel {slot : SlotNo → SlotState × Option Order} {p : Port} {w : Work} (h : w.Sound slot p) {t : SlotNo}
    (ht : (slot t).1 = .queued) (u : SlotState × Option Order) :
    ({ w with queue := w.queue.filter fun x => x != .order t } : Work).Sound (Function.update slot t u) p where
  job x hx := by
    obtain ⟨alone, head, running⟩ := h.job x hx
    have other : x ≠ .order t := fun hxt => by
      have := running t hxt
      simp [ht] at this
    refine ⟨alone, ?_, fun n hn => ?_⟩
    · cases hq : w.queue with
      | nil => simp [hq] at head
      | cons y ys =>
        obtain rfl : y = x := by simpa [hq] using head
        simp [other]
    · rw [Function.update_of_ne (by rintro rfl; exact other hn)]
      exact running n hn
  queued n hn := by
    obtain ⟨hm, hne⟩ := List.mem_filter.mp hn
    rw [Function.update_of_ne (by rintro rfl; simp at hne)]
    exact h.queued n hm
  once n := (List.Sublist.count_le _ List.filter_sublist).trans (h.once n)
  shot := h.shot

theorem books_cancelQueued (p : Port) (t : SlotNo) (e : Event) : books (cancelQueued p t e).toState =
    ((books e.toState).put p fun a => { a with work := { a.work with queue := a.work.queue.filter fun x => x != .order t } }).onSlots
      (Function.update (books e.toState).slot t (.cancelled, ((books e.toState).slot t).2)) := by
  have finished : books (finishSlot t .cancelled .cancelledByOrder 0 []
      (modPort p (fun q => { q with queue := q.queue.filter fun x => x != .order t }) e)).toState = _ := books_finishSlot ..
  have filtered : books (modPort p (fun q => { q with queue := q.queue.filter fun x => x != .order t }) e).toState =
      (books e.toState).put p fun a => { a with work := { a.work with queue := a.work.queue.filter fun x => x != .order t } } :=
    books_modPort (by exact fun _ => rfl) e
  rw [filtered] at finished
  unfold cancelQueued
  dsimp only
  split
  · rw [books_tell, books_touch, finished]
    rfl
  · rw [finished]
    rfl

theorem Books.Sound.cancelQueued {p : Port} {t : SlotNo} {e : Event} (h : Solvent e) (hs : (e.slots.get t).state = .queued)
    (hp : (e.slots.get t).order.bind Order.queuePort = some p) : Solvent (Machine.cancelQueued p t e) := by
  rw [Solvent, books_cancelQueued]
  refine h.rework rfl ((h.account p).rework (.inr rfl)) ((h.work p).cancel hs _) (fun q hq n hn => ?_) fun n hn => h.asked _ hn
  refine Function.update_of_ne ?_ _ _
  rintro rfl
  exact hq (Option.some.inj (((h.work q).queued n hn).2.symm.trans hp))

theorem Books.Sound.stopSnap {p : Port} {r : SnapRun} {e : Event} (h : Solvent e) : Solvent (Machine.stopSnap p r e) := by
  unfold Machine.stopSnap
  split
  · exact Books.Sound.endSnap (l := []) (h.markClaims (by decide))
  · refine Solvent.ite (fun _ => h) fun _ => Solvent.ite (fun _ => ?_) fun _ => Books.Sound.endSnap (l := []) h
    refine Books.Sound.of_eq ?_ (books_tellIfDrained p _)
    exact Books.Sound.endSnap (l := []) (h.of_eq (books_returnGiven _ e))

theorem Books.Sound.stopSweep {p : Port} {w : SweepRun} {e : Event} (h : Solvent e) : Solvent (Machine.stopSweep p w e) := by
  unfold Machine.stopSweep
  dsimp only
  split
  · exact h.endSweep
  · exact Solvent.ite (fun _ => h.endSweep) fun _ => h
  · exact Solvent.ite (fun _ => h.endSweep) fun _ => h
  all_goals exact h

theorem Books.Sound.stopProbe {p : Port} {r : ProbeRun} {e : Event} (h : Solvent e) : Solvent (Machine.stopProbe p r e) := by
  unfold Machine.stopProbe
  split
  · exact h.abortProbe
  · exact h.abortProbe
  · exact h.abortProbe
  all_goals exact h

theorem Books.Sound.stopRunning {p : Port} {e : Event} (h : Solvent e) : Solvent (Machine.stopRunning p e) := by
  unfold Machine.stopRunning
  dsimp only
  split
  · exact h.stopSnap
  · exact h.endCycle
  · exact h.stopSweep
  · exact h.stopProbe
  · exact h

theorem Books.Sound.carryCancel {n t : SlotNo} {e : Event} (h : Solvent e) (hn : (books e.toState).Apart n) :
    Solvent (Machine.carryCancel n t e) := by
  unfold Machine.carryCancel
  dsimp only
  split
  · next p hs hp =>
    refine Solvent.ite (fun _ => h.refuse hn) fun hne => (h.cancelQueued hs hp).done ?_
    unfold Books.Apart
    rw [books_cancelQueued, Books.onSlots_slot, Function.update_of_ne (Ne.symm hne)]
    exact hn
  · refine Solvent.ite (fun _ => h.refuse hn) fun _ => ?_
    have marked : ∀ x : Event, books (modSlot t (fun y => { y with stopMark := true }) x).toState = books x.toState :=
      fun x => books_modSlot_same (by exact fun _ => ⟨rfl, rfl⟩) x
    have answered : Solvent (Machine.doneSlot n [1] (modSlot t (fun y => { y with stopMark := true }) e)) :=
      Books.Sound.done (h.of_eq (marked e)) (by rw [marked]; exact hn)
    exact Solvent.ite (fun _ => answered) fun _ => answered.stopRunning
  · exact h.refuse hn

/-! ### Programs, cables and the CLEAR orders (R44 to R50, R105) -/

theorem slot_disarmOrder (i : ProgNo) (e : Event) : (books (disarmOrder i e).toState).slot = (books e.toState).slot := by
  unfold disarmOrder
  split <;> rfl

theorem Books.Sound.carryLoad {n : SlotNo} {p : Port} {a : Addr} {e : Event} (h : Solvent e) (hn : (books e.toState).Apart n) :
    Solvent (Machine.carryLoad n p a e) := by
  refine Solvent.ite (fun _ => h.refuse hn) fun _ => ?_
  rw [Solvent, books_issueRead]
  exact Books.Sound.startSlot (h.of_eq (books_modSlot_same (by exact fun _ => ⟨rfl, rfl⟩) e))

/-- A slot that loads a cable record is of no queue. -/
theorem Books.Apart.of_loading {n : SlotNo} {p : Port} {e : Event} (h : loadingPort n e.toState = some p) :
    (books e.toState).Apart n := by
  unfold loadingPort at h
  dsimp only at h
  split at h
  · next ho =>
    change (e.slots.get n).order.bind Order.queuePort = none
    rw [ho]
    rfl
  · cases h

theorem Books.Sound.endLoad {n : SlotNo} {p : Port} {bytes : List Byte} {e : Event} (h : Solvent e) (hn : (books e.toState).Apart n) :
    Solvent (Machine.endLoad n p bytes e) := by
  have loaded : ∀ c, books (modPort p (fun q => { q with cable := c }) e).toState = books e.toState :=
    fun c => books_modPort_same (by exact fun _ => rfl) e
  unfold Machine.endLoad
  rw [Solvent, books_tell]
  split
  · exact Books.Sound.done (h.of_eq (loaded _)) (by rw [loaded]; exact hn)
  · exact h.answer hn

theorem Books.Sound.carrySave {n : SlotNo} {p : Port} {a : Addr} {e : Event} (h : Solvent e) (hn : (books e.toState).Apart n) :
    Solvent (Machine.carrySave n p a e) :=
  Solvent.ite (fun _ => h.refuse hn) fun _ => Books.Sound.done (e := issue _ e) h hn

theorem Books.Sound.carryClearBreaks {n : SlotNo} {q : Option Port} {a : Bool} {e : Event} (h : Solvent e)
    (hn : (books e.toState).Apart n) : Solvent (Machine.carryClearBreaks n q a e) :=
  Books.Sound.done (h.of_eq (books_takeLog _ e)) (by rw [books_takeLog]; exact hn)

theorem Books.Sound.carryClearFaults {n : SlotNo} {p : Port} {e : Event} (h : Solvent e) (hn : (books e.toState).Apart n) :
    Solvent (Machine.carryClearFaults n p e) := by
  unfold Machine.carryClearFaults
  extract_lets set e1
  have cleared : books e1.toState = books e.toState := by
    unfold e1
    split
    · rw [books_touch]
      exact books_modFaults p _ e
    · rfl
  exact Books.Sound.done (h.of_eq cleared) (by rw [cleared]; exact hn)

theorem Books.Sound.carryClearLockout {n : SlotNo} {p : Port} {e : Event} (h : Solvent e) (hn : (books e.toState).Apart n) :
    Solvent (Machine.carryClearLockout n p e) := by
  refine Solvent.ite (fun hs => ?_) fun _ => h.done hn
  have unclaimed : (books e.toState).Unclaimed p .powerUp :=
    h.unclaimed_powerUp (by change (e.port p).power.state ≠ _; rw [hs]; decide)
  refine Books.Sound.done (h.moveUnpowered (fun _ => ⟨rfl, rfl, rfl, rfl⟩) (by rw [hs]; rfl) rfl unclaimed fun _ => .inr (.inl rfl)) ?_
  unfold Books.Apart
  rw [books_setPower, books_modPower]
  exact hn

/-- HALT_TEARDOWN_DONE answers slots of no queue (R31). -/
theorem Books.Sound.haltsDone (ns : List SlotNo) : ∀ {e : Event}, Solvent e → (∀ n ∈ ns, (books e.toState).Apart n) →
    Solvent (ns.foldl (fun acc n => Machine.doneSlot n [] acc) e) := by
  induction ns with
  | nil => exact fun h _ => h
  | cons n ns ih =>
    intro e h hn
    refine ih (h.done (hn n (by simp))) fun m hm => ?_
    have apart := hn m (by simp [hm])
    unfold Books.Apart at apart ⊢
    have answered : books (Machine.doneSlot n [] e).toState = _ := books_finishSlot ..
    rw [answered, Books.onSlots_slot]
    by_cases hmn : m = n
    · subst hmn
      rw [Function.update_self]
      exact apart
    · rw [Function.update_of_ne hmn]
      exact apart

end Sys2Proof.Machine

namespace Sys2Proof.Machine

/-! ## Records of the page (R21, R26, R39) -/

/-- A Cell Sheet replaces the copy outside RUN, where no budget is in force. -/
theorem Books.Sound.takeCellSheet {c : CellSheet} {e : Event} (h : Solvent e) (hm : e.cell.mode = .configure) :
    Solvent (Machine.takeCellSheet c e) := by
  unfold Machine.takeCellSheet
  rw [Solvent, books_newLayout]
  exact { h with inRun := fun hr => (by cases hm.symm.trans hr) }

theorem Books.Sound.dealCellSheet {bytes : List Byte} {e : Event} (h : Solvent e) : Solvent (Machine.dealCellSheet bytes e) := by
  refine Solvent.ite (fun _ => h) fun _ => ?_
  dsimp only
  rw [Solvent, books_attend, books_writeHeader]
  change Solvent (judgeSheet bytes e).2
  unfold judgeSheet
  dsimp only
  split
  · exact h
  · split
    · next hm => exact h.takeCellSheet hm
    · exact h

theorem Books.Sound.dealRecord {a : Area} {n : Nat} {bytes : List Byte} {e : Event} (h : Solvent e) :
    Solvent (Machine.dealRecord a n bytes e) := by
  cases a with
  | cellSheet => exact h.dealCellSheet
  | portSheet p => exact h.dealPortSheet
  | orders => exact h.dealOrder
  | pool => exact h.of_eq (books_dealBuffer n bytes e)

theorem Books.Sound.recordRead {a : Area} {bytes : List Byte} {e : Event} (h : Solvent e) :
    Solvent (Machine.recordRead a bytes e) := by
  unfold Machine.recordRead
  split
  · exact h.dealRecord.afterRecord
  · exact h

/-! ## Register writes (R1, R11, R14 to R16) -/

theorem books_writeService (v : Word) (e : Event) : books (writeService v e).toState = books e.toState := by
  unfold writeService
  dsimp only
  split
  · exact (books_writeHeader _).trans rfl
  · rfl

theorem books_writeNotice (v : Word) (e : Event) : books (writeNotice v e).toState = books e.toState :=
  books_foldl _ _ e fun x a => books_notice a.2 x

theorem Books.Sound.writeRegister {o : Nat} {v : Word} {e : Event} (h : Solvent e) : Solvent (Machine.writeRegister o v e) := by
  unfold Machine.writeRegister
  split
  · exact h.of_eq (books_writeService v e)
  · exact h
  · exact h.writePageHi
  · exact h.of_eq (books_writeNotice v e)
  · exact h.of_eq (books_setAttention ..)
  · exact h.of_eq (books_setAttention ..)
  · exact h

/-! ## The inrush path (R67 to R69) -/

/-- A port of the inrush path goes on to its next state with its allotment, and leaves the queue and the stage to the others. -/
theorem Books.Sound.advance {b : Books} (h : b.Sound none none) {p : Port} {f : PortPower → PortPower} {inrush : List Port}
    {stage : InrushStage} (hf : ∀ w, (f w).base = w.base ∧ (f w).motion = w.motion)
    (before : (b.account p).power.state = .queued ∨ (b.account p).power.state = .inrush)
    (behind : (f (b.account p).power).state = .inrush ∨ (f (b.account p).power).state = .settling)
    (list : inrush = b.budget.inrush.filter fun q => q != p)
    (charging : stage = .charging p ↔ (f (b.account p).power).state = .inrush) (trimming : stage ≠ .trimming p)
    (others : ∀ q, q ≠ p → (stage = .charging q ↔ b.budget.stage = .charging q) ∧ (stage = .trimming q → b.budget.stage = .trimming q)) :
    ((b.put p fun a => { a with power := f a.power }).onBudget { b.budget with inrush := inrush, stage := stage }).Sound none none := by
  have law := h.account p
  obtain ⟨base, motion⟩ := hf (b.account p).power
  obtain ⟨works, asked⟩ := h.put_work p (f := fun a => { a with power := f a.power }) rfl
  have powered : (b.account p).power.base ≠ 0 := law.base.mpr (by obtain hs | hs := before <;> rw [hs] <;> rfl)
  have run : b.mode = .run := h.running (p := p) (by obtain hs | hs := before <;> simp [hs, PowerState.resting])
  have lit : (f (b.account p).power).state.powered = true := by obtain hs | hs := behind <;> rw [hs] <;> rfl
  have awake : (f (b.account p).power).state ≠ .on ∧ (f (b.account p).power).state ≠ .limit ∧
      (f (b.account p).power).state ≠ .waking ∧ (f (b.account p).power).state ≠ .standby ∧
      (f (b.account p).power).state ≠ .queued := by
    obtain hs | hs := behind <;> rw [hs] <;> decide
  obtain ⟨on, limit, waking, standby, queued⟩ := awake
  refine ⟨fun q => ?_, list ▸ h.once.filter _, h.claims, ?_, h.inRun, h.outside, fun hm => absurd run hm, works, asked, h.single⟩
  · by_cases hq : q = p
    · subst hq
      simp only [Books.onBudget_account, Books.put_self]
      refine { law with
        base := ⟨fun _ => lit, fun _ => by rwa [base]⟩
        powered := fun _ => lit
        motion := fun hl => by rw [motion]; exact law.motion hl
        still := fun hl => by rw [motion]; exact law.still hl
        dark := fun _ _ => lit
        full := fun hs => by simp [on, limit, waking] at hs
        asleep := fun hs => absurd hs standby
        queued := by simp [list, queued]
        charging := charging
        trimming := fun ht => absurd ht trimming
        claim := fun c hc hp => ?_ }
      have stands := law.claim c hc hp
      unfold PowerClaim.StandsOn at stands ⊢
      cases hk : c.kind <;> simp_all
    · have rest := h.account q
      simp only [Books.onBudget_account, Books.put_other hq]
      refine { rest with
        queued := ?_
        charging := (others q hq).1.trans rest.charging
        trimming := fun ht => rest.trimming ((others q hq).2 ht) }
      rw [← rest.queued, Books.onBudget_budget, list]
      simp [hq]
  · have sum := b.allotted_put p (fun a => { a with power := f a.power })
    have fits := h.within
    simp only [PortPower.held, base, motion] at sum
    rw [Books.onBudget_allotted]
    change _ ≤ b.budget.inForce
    omega

theorem Books.Sound.trimmed {p : Port} {f : PortPower → PortPower} {e : Event} (h : Solvent e)
    (hf : ∀ w, (f w).base = w.base ∧ (f w).motion = w.motion) (hs : e.budget.stage = .trimming p) :
    Solvent (Machine.setPower p .inrush { Machine.modPower p f e with budget := { (Machine.modPower p f e).budget with
      inrush := (Machine.modPower p f e).budget.inrush.filter fun q => q != p, stage := .charging p } }) := by
  have moved : books (Machine.setPower p .inrush { Machine.modPower p f e with budget := { (Machine.modPower p f e).budget with
      inrush := (Machine.modPower p f e).budget.inrush.filter fun q => q != p, stage := .charging p } }).toState =
      ((books e.toState).put p fun a => { a with power := { f a.power with state := .inrush } }).onBudget { e.budget with
        inrush := e.budget.inrush.filter fun q => q != p, stage := .charging p } := by
    rw [books_setPower]
    change (Books.onBudget _ (books (Machine.modPower p f e).toState)).put p _ = _
    rw [books_modPower]
    simp [Books.put, Books.onBudget]
  rw [Solvent, moved]
  refine h.advance (f := fun w => { f w with state := .inrush }) hf (.inl ((h.account p).trimming hs)) (.inl rfl) rfl (by simp) (by simp)
    fun q hq => ?_
  change (_ ↔ e.budget.stage = _) ∧ (_ → e.budget.stage = _)
  rw [hs]
  simp [Ne.symm hq]

theorem Books.Sound.charged {p : Port} {f : PortPower → PortPower} {e : Event} (h : Solvent e)
    (hf : ∀ w, (f w).base = w.base ∧ (f w).motion = w.motion) (hs : (e.port p).power.state = .inrush) :
    Solvent (leaveInrush p (Machine.setPower p .settling (Machine.modPower p f e))) := by
  have moved : books (leaveInrush p (Machine.setPower p .settling (Machine.modPower p f e))).toState =
      ((books e.toState).put p fun a => { a with power := { f a.power with state := .settling } }).onBudget { e.budget with
        inrush := e.budget.inrush.filter fun q => q != p
        stage := if e.budget.stage.serves p then .free else e.budget.stage } := by
    have budget : (Machine.setPower p .settling (Machine.modPower p f e)).budget = e.budget := by simp
    have left : books (leaveInrush p (Machine.setPower p .settling (Machine.modPower p f e))).toState =
        (books (Machine.setPower p .settling (Machine.modPower p f e)).toState).onBudget
          (leaveInrush p (Machine.setPower p .settling (Machine.modPower p f e))).budget := rfl
    rw [left, books_setPower, books_modPower, leaveInrush, budget, Books.put_put]
    rfl
  rw [Solvent, moved]
  refine h.advance (f := fun w => { f w with state := .settling }) hf (.inr hs) (.inr rfl) rfl ?_ ?_ fun q hq => ?_
  · rw [(stage_left p p _).1]
    simp
  · exact fun ht => absurd rfl ((stage_left p p _).2.mp ht).1
  · exact ⟨(stage_left p q _).1.trans (and_iff_right hq), fun ht => ((stage_left p q _).2.mp ht).2⟩

/-- A SETTLING port comes ON with the allotment it has (R69). -/
theorem Books.Sound.settled_on {p : Port} {f : PortPower → PortPower} {e : Event} (h : Solvent e)
    (hf : ∀ w, (f w).state = w.state ∧ (f w).base = w.base ∧ (f w).motion = w.motion ∧ (f w).full = w.base)
    (hs : (e.port p).power.state = .settling) : Solvent (Machine.setPower p .on (Machine.modPower p f e)) := by
  have law := h.account p
  have state : ((books e.toState).account p).power.state = .settling := hs
  obtain ⟨-, base, motion, full⟩ := hf ((books e.toState).account p).power
  have powered : ((books e.toState).account p).power.base ≠ 0 := law.base.mpr (by rw [state]; rfl)
  rw [Solvent, books_setPower, books_modPower, Books.put_put]
  refine h.put (fun _ _ => .rfl) (fun _ _ => .rfl) { law with
    base := ⟨fun _ => rfl, fun _ => by simpa [base] using powered⟩
    powered := fun _ => rfl
    motion := fun hl => by simpa [motion] using law.motion hl
    still := fun hl => by simpa [motion] using law.still hl
    dark := fun _ _ => rfl
    full := fun _ => full.trans base.symm
    asleep := fun hz => (by cases hz)
    queued := by simpa [state] using law.queued
    charging := by simpa [state] using law.charging
    trimming := fun ht => by simpa [state] using law.trimming ht
    claim := fun c hw hp => ?_ } ?_ fun hm => ?_
  · have stands := law.claim c hw hp
    unfold PowerClaim.StandsOn at stands ⊢
    cases hk : c.kind <;> simp_all
  · simp only [Function.comp, PortPower.held, base, motion]
    omega
  · exact absurd (h.running (p := p) (by simp [state, PowerState.resting])) hm

theorem Books.Sound.settlingEnd {p : Port} {f : PortPower → PortPower} {e : Event} (h : Solvent e)
    (hf : ∀ w, (f w).state = w.state ∧ (f w).base = w.base ∧ (f w).motion = w.motion ∧ (f w).full = w.base)
    (hs : (e.port p).power.state = .settling) :
    Solvent (askCamera p (Machine.setLink p .wake (Machine.setPower p .on (Machine.modPower p f e)))) := by
  refine Books.Sound.of_eq ((h.settled_on hf hs).setLink fun _ => ?_) (books_askCamera p _)
  rw [port_setPower, if_pos rfl]
  rfl

/-- A WAKING port comes ON, and acts on a want of STANDBY (R74, R75). -/
theorem Books.Sound.wakeEnd {p : Port} {f : PortPower → PortPower} {e : Event} (h : Solvent e)
    (hf : ∀ w, (f w).state = w.state ∧ (f w).base = w.base ∧ (f w).motion = w.motion ∧ (f w).full = w.full)
    (hs : (e.port p).power.state = .waking) : Solvent (Machine.tryStandby p (Machine.setPower p .on (Machine.modPower p f e))) := by
  have kept : Solvent (Machine.modPower p f e) := h.modPower_kept hf
  have state : ((Machine.modPower p f e).port p).power.state = .waking := by
    simpa [Machine.modPower, port_modPort, (hf _).1] using hs
  have full := (kept.account p).full (.inr (.inr state))
  have run : e.cell.mode = .run := h.running (p := p) fun hr => by
    change (e.port p).power.state.resting at hr
    simp [hs, PowerState.resting] at hr
  refine Books.Sound.tryStandby (kept.setPower (by rw [state]; rfl) (fun _ => full) (fun hz => by cases hz) ?_ ?_ ?_ ?_ fun hm => absurd run hm)
  all_goals simp [state]

/-! ## The link (R84 to R90, R97) -/

/-- An uplink packet does nothing but what its link state lets it do. -/
theorem Books.Sound.uplink {p : Port} {ok : Bool} {f : Event → Event} {e : Event} (h : Solvent e)
    (hf : ∀ {x : Event}, Solvent x → Solvent (f x)) : Solvent (Machine.uplink p ok f e) := by
  have bad : Solvent (takeBad p e) := h.of_eq (books_takeBad p e)
  unfold Machine.uplink
  split
  · exact h
  · exact h
  · exact Solvent.ite (fun _ => h) fun _ => bad
  · exact Solvent.ite (fun _ => hf (h.of_eq (books_restartSilence p e))) fun _ => bad
  · exact Solvent.ite (fun _ => hf h) fun _ => bad

theorem nextPacket_state (l : PortLink) : (nextPacket l).state = l.state := by
  unfold nextPacket
  split <;> rfl

theorem account_freshSetup (q : PortState) : (freshSetup q).account = q.account := by
  unfold freshSetup
  split <;> rfl

@[simp] theorem books_packetSent (p : Port) (k : Packet) (e : Event) : books (packetSent p k e).toState = books e.toState :=
  (books_modPort_same (fun q => by
    rw [account_freshSetup]
    exact congrArg (fun st => { q.account with link := st }) (nextPacket_state q.link)) _).trans rfl

theorem Books.Sound.greeting {p : Port} {hello : HelloPacket} {e : Event} (h : Solvent e) :
    Solvent (if (e.port p).link.state.receives then
      match helloOk hello, lensKindOf hello.lensCode.toNat with
      | true, some k => Machine.takeHello p k hello e
      | _, _ => takeBad p e
    else e) := by
  refine Solvent.ite (fun hl => ?_) fun _ => h
  have lit : (e.port p).link.state ≠ .dark := fun hd => by simp [hd, LinkState.receives] at hl
  split
  · exact h.takeHello lit
  · exact h.of_eq (books_takeBad p e)

/-! ## Fault actions (R79, R169 to R171) -/

theorem Books.Sound.endFailedHush {x : SentAction} {rest : List SentAction} {e : Event} (h : Solvent e) :
    Solvent (Machine.endFailedHush x rest e) := Solvent.ite (fun _ => h.abortProbe) fun _ => h

theorem Books.Sound.actionApplied {e : Event} (h : Solvent e) : Solvent (match e.faults.sent with
    | [] => e
    | x :: rest => Machine.endFailedHush x rest (Machine.considerProbe x.port x.kind x.autoProbe
        (Machine.applyAction x.port x.action { e with faults := { e.faults with sent := rest } }))) := by
  split
  · exact h
  · next x rest _ =>
    have sent : Solvent { e with faults := { e.faults with sent := rest } } := h
    exact sent.applyAction.considerProbe.endFailedHush

/-! ## Pulse sets (R156, R164) -/

theorem port_writeTrace (r : ProbeRun) (a : List Int) (p : Port) (e : Event) : (writeTrace r a e).port p = e.port p := by
  have filled : ∀ b o data (x : Event), (fillData b o data x).port p = x.port p := fun b o data x => by
    unfold fillData
    dsimp only
    split
    · split
      · split <;> rfl
      · rfl
    · rfl
  unfold writeTrace
  split
  · exact filled ..
  · rfl

theorem Books.Sound.takeSet {p : Port} {r : ProbeRun} {echoes : List Echo} {e : Event} (h : Solvent e)
    (hr : (e.port p).probe = some r) : Solvent (Machine.takeSet p r echoes e) := by
  unfold Machine.takeSet
  split
  · exact h.finishProbe hr
  · exact h.finishProbe hr
  · exact Solvent.ite (fun _ => h.of_eq (books_modProbe (by exact fun _ => rfl) e)) fun _ => h.finishProbe hr

end Sys2Proof.Machine

namespace Sys2Proof.Machine

/-! ## Every command keeps the books -/

/-- A command whose event keeps the books. -/
theorem Solvency.of_act {f : Event → Event} {s t : State} (ha : act f s = .next t) (h : Solvency s)
    (hf : ∀ e : Event, Solvent e → Solvent (f e)) : Solvency t := Books.Sound.act h (hf (Event.of s) h) ha

/-- A command whose event leaves them as they are. -/
theorem Solvency.of_act_same {f : Event → Event} {s t : State} (ha : act f s = .next t) (h : Solvency s)
    (hf : ∀ e : Event, books (f e).toState = books e.toState) : Solvency t := .of_act ha h fun e he => he.of_eq (hf e)

theorem account_reset (c : CableRec) (p : Port) (v : Vector PortState 8) (h : v.get p = PortState.reset c) :
    (v.get p).account.AtRest := by
  rw [h]
  exact
    { base := rfl
      motion := rfl
      resting := .inl rfl
      dark := rfl
      calm := LensRec.calm_of_unknown rfl
      declared := fun _ hx => by cases hx
      queue := rfl
      jobs := rfl }

/-- The books are at rest after every reset (R82, R182, R183). -/
theorem Solvency.of_reset {s : State} (hp : ∀ p, ∃ c, s.ports.get p = PortState.reset c) (hb : s.budget = Budget.reset)
    (hm : s.cell.mode = .setup) (hc : s.pool.claims = []) : Solvency s := by
  refine Books.AtRest.sound ⟨fun p => ?_, hb, fun hr => (by cases hm.symm.trans hr), by simp [books, hc]⟩
  obtain ⟨c, h⟩ := hp p
  exact account_reset c p s.ports h

theorem Solvency.reset : Solvency State.reset :=
  .of_reset (fun p => ⟨CableRec.absent, by simp [State.reset]⟩) rfl rfl rfl

/-! ### Page and areas -/

theorem exec_page_solvency {c : Instr} {s t : State} (hs : Solvency s) (ho : HandOff s) (h : exec c s = .next t)
    (hc : (∃ reply, c = .pageHeaderReadComplete reply) ∨ c = .pageHeaderReadTimeout ∨ c = .pageReleaseEnd) : Solvency t := by
  have failed : ∀ x : Event, books (failTake x).toState = books x.toState := fun x => books_raiseFlags ..
  obtain ⟨reply, rfl⟩ | rfl | rfl := hc
  · refine Books.Sound.act hs (Solvent.ite (fun ht => Solvent.ite (fun _ => ?_) fun _ => ?_) fun _ => hs) h
    · have taking : s.page.taken ≠ .held := fun hh => by cases (show s.page.taken = .taking from ht.1).symm.trans hh
      exact Books.Sound.takePage (e := Event.of s) hs (ho.setup taking)
    · exact hs.of_eq (failed (Event.of s))
  · exact .of_act_same h hs fun e => by
      split
      · exact failed e
      · rfl
  · refine .of_act h hs fun e he => Solvent.ite (fun _ => ?_) fun _ => he
    exact Solvent.ite (fun _ => Books.Sound.actOnPair (e := { e with page := { e.page with releasing := false, hiOwed := false } }) he)
      fun _ => he

theorem exec_area_solvency {c : Instr} {s t : State} (hs : Solvency s) (h : exec c s = .next t)
    (hc : (∃ a, c = .sweepStart a) ∨ (∃ a bytes, c = .sweepRecordRead a bytes) ∨ (∃ a, c = .sweepReadFail a) ∨
      (∃ a, c = .sweepReadTimeout a) ∨ (∃ x, c = .poolRebuildHandRead x) ∨ ∃ x, c = .poolRebuildReadFail x) : Solvency t := by
  obtain ⟨a, rfl⟩ | ⟨a, bytes, rfl⟩ | ⟨a, rfl⟩ | ⟨a, rfl⟩ | ⟨x, rfl⟩ | ⟨x, rfl⟩ := hc
  · exact .of_act h hs fun _ he => he.beginArea
  · exact .of_act h hs fun _ he => Solvent.ite (fun _ => he.recordRead) fun _ => he
  · exact .of_act h hs fun _ he => Solvent.ite (fun _ => he.failRecord) fun _ => he
  · exact .of_act h hs fun _ he => Solvent.ite (fun _ => he.failRecord) fun _ => he
  · exact .of_act_same h hs fun e => by
      split
      · rw [books_nextHand]; rfl
      · rfl
  · exact .of_act_same h hs fun e => by
      split
      · split
        · rw [books_nextHand, books_countReadError]
        · rfl
      · rfl

/-! ### Orders -/

/-- An order that runs at once. -/
theorem exec_order_solvency {n : SlotNo} {c : Instr} {s t : State} (hs : Solvency s) (h : exec c s = .next t)
    (hc : c = .start n ∨ c = .halt n ∨ c = .arm n ∨ c = .disarm n ∨ c = .cancel n ∨ c = .checkTest n) : Solvency t := by
  obtain rfl | rfl | rfl | rfl | rfl | rfl := hc
  all_goals
    refine .of_act h hs fun e he => ?_
    split
  · next ho => exact he.handed ho rfl fun apart hm => he.carryStart apart hm
  · exact he
  · next ho => exact he.handed ho rfl fun _ _ => he.carryHalt
  · exact he
  · next i ho =>
    refine he.handed ho rfl fun apart _ => Books.Sound.done (he.of_eq (books_armProgram i e)) ?_
    rwa [books_armProgram]
  · exact he
  · next i ho =>
    refine he.handed ho rfl fun apart _ => Books.Sound.done he.disarmOrder ?_
    unfold Books.Apart
    rwa [slot_disarmOrder]
  · exact he
  · next ho => exact he.handed ho rfl fun apart _ => he.carryCancel apart
  · exact he
  · next ho => exact he.handed ho rfl fun apart _ => Books.Sound.done he apart
  · exact he

theorem exec_record_solvency {n : SlotNo} {c : Instr} {s t : State} (hs : Solvency s) (h : exec c s = .next t)
    (hc : c = .cableLoad n ∨ c = .cableSave n ∨ c = .clearBreaks n ∨ c = .clearFaults n ∨ c = .clearStop n ∨ c = .clearLockout n) :
    Solvency t := by
  obtain rfl | rfl | rfl | rfl | rfl | rfl := hc
  all_goals
    refine .of_act h hs fun e he => ?_
    split
  · next ho => exact he.handed ho rfl fun apart _ => he.carryLoad apart
  · exact he
  · next ho => exact he.handed ho rfl fun apart _ => he.carrySave apart
  · exact he
  · next ho => exact he.handed ho rfl fun apart _ => he.carryClearBreaks apart
  · exact he
  · next ho => exact he.handed ho rfl fun apart _ => he.carryClearFaults apart
  · exact he
  · next ho =>
    refine he.handed ho rfl fun apart _ => Books.Sound.done (he.of_eq (books_clearStopLatch e)) ?_
    rwa [books_clearStopLatch]
  · exact he
  · next ho => exact he.handed ho rfl fun apart _ => he.carryClearLockout apart
  · exact he

theorem exec_queued_solvency {n : SlotNo} {c : Instr} {s t : State} (hs : Solvency s) (h : exec c s = .next t)
    (hc : c = .snap n ∨ c = .cycle n ∨ c = .probe n ∨ c = .learn n ∨ c = .sweep n) : Solvency t := by
  obtain rfl | rfl | rfl | rfl | rfl := hc
  all_goals
    refine .of_act h hs fun e he => ?_
    split
    · exact he.beginHead.carriedOn
    · exact he

/-- What answers an order whose read or wait has ended. -/
theorem exec_ended_solvency {c : Instr} {s t : State} (hs : Solvency s) (h : exec c s = .next t)
    (hc : c = .haltTeardownDone ∨ (∃ n bytes, c = .cableLoadReadComplete n bytes) ∨ (∃ n x, c = .cableLoadTimeout n x) ∨
      (∃ p, c = .cycleHoldEnd p) ∨ c = .cellRecheck) : Solvency t := by
  obtain rfl | ⟨n, bytes, rfl⟩ | ⟨n, x, rfl⟩ | ⟨p, rfl⟩ | rfl := hc
  · refine .of_act h hs fun e he => he.haltsDone _ fun n hn => ?_
    have halts : (e.slots.get n).halts = true := (List.mem_filter.mp hn).2
    have order : (e.slots.get n).order = some .halt := by
      simp only [Slot.halts, Bool.and_eq_true, beq_iff_eq] at halts
      exact halts.2
    change (e.slots.get n).order.bind Order.queuePort = none
    rw [order]
    rfl
  · refine .of_act h hs fun e he => ?_
    split
    · next hl _ => exact he.endLoad (.of_loading hl)
    · exact he
  · refine .of_act h hs fun e he => ?_
    split
    · next hl => exact Solvent.ite (fun _ => Books.Sound.of_eq (he.answer (.of_loading hl)) (books_tell _ _)) fun _ => he
    · exact he
  · refine .of_act h hs fun e he => ?_
    split
    · exact Solvent.ite (fun _ => he.endCycle) fun _ => he
    · exact he
  · refine .of_act h hs fun e he => ?_
    split
    · exact Solvent.ite (fun _ => Solvent.ite (fun _ => he) fun _ => Books.Sound.cellCheck (e := { e with cell := _ }) he) fun _ => he
    · exact he

/-! ### Power and faults -/

theorem exec_inrush_solvency {c : Instr} {s t : State} (hs : Solvency s) (h : exec c s = .next t)
    (hc : (∃ p r, c = .trimComplete p r) ∨ (∃ p v w, c = .inrushVoltageReached p v w) ∨ (∃ p, c = .chargeTimeExpiry p) ∨
      (∃ p, c = .settlingEnd p) ∨ ∃ p, c = .wakeSettleEnd p) : Solvency t := by
  obtain ⟨p, r, rfl⟩ | ⟨p, v, w, rfl⟩ | ⟨p, rfl⟩ | ⟨p, rfl⟩ | ⟨p, rfl⟩ := hc
  · exact .of_act h hs fun e he => Solvent.ite (fun ht => he.trimmed (by exact fun _ => ⟨rfl, rfl⟩) ht) fun _ => he
  · exact .of_act h hs fun e he => Solvent.ite (fun ht => (he.charged (by exact fun _ => ⟨rfl, rfl⟩) ht.1).takeStage) fun _ => he
  · exact .of_act h hs fun e he => Solvent.ite (fun _ => he.powerFault) fun _ => he
  · exact .of_act h hs fun e he =>
      Solvent.ite (fun ht => he.settlingEnd (by exact fun _ => ⟨rfl, rfl, rfl, rfl⟩) ht.1) fun _ => he
  · exact .of_act h hs fun e he => Solvent.ite (fun ht => he.wakeEnd (by exact fun _ => ⟨rfl, rfl, rfl, rfl⟩) ht.1) fun _ => he

theorem exec_supervision_solvency {c : Instr} {s t : State} (hs : Solvency s) (h : exec c s = .next t)
    (hc : (∃ r, c = .currentMeasurement r) ∨ (∃ p, c = .limitTimerExpiry p) ∨ (∃ p, c = .retryTimerEnd p) ∨
      (∃ p, c = .steadyTimerEnd p) ∨ c = .faultActionApplied ∨ ∃ p, c = .cooldownExpiry p) : Solvency t := by
  obtain ⟨r, rfl⟩ | ⟨p, rfl⟩ | ⟨p, rfl⟩ | ⟨p, rfl⟩ | rfl | ⟨p, rfl⟩ := hc
  · refine .of_act h hs fun e he => Books.Sound.forPorts (fun _ _ hx => hx.judgeCurrent) ?_
    refine Books.Sound.forPorts (fun p x hx => ?_) he
    exact hx.modPower_kept fun w => ⟨rfl, rfl, rfl, rfl⟩
  · exact .of_act h hs fun e he => Solvent.ite (fun _ => he.powerFault) fun _ => he
  · exact .of_act h hs fun e he => Solvent.ite (fun ht => he.retryUp ht.1) fun _ => he
  · exact .of_act h hs fun e he => Solvent.ite (fun _ => he.modPower_kept fun _ => ⟨rfl, rfl, rfl, rfl⟩) fun _ => he
  · exact .of_act h hs fun e he => he.actionApplied
  · exact .of_act h hs fun e he => Solvent.ite (fun _ => he.of_eq (books_modFaults p _ e)) fun _ => he

/-! ### Links, frames, lines and timers -/

theorem exec_uplink_solvency {c : Instr} {s t : State} (hs : Solvency s) (h : exec c s = .next t)
    (hc : (∃ p x, c = .hello p x) ∨ (∃ p g w z d, c = .frameOpen p g w z d) ∨ (∃ p g o d, c = .frameData p g o d) ∨
      (∃ p g o d, c = .frameClose p g o d) ∨ (∃ p l, c = .lensState p l) ∨ (∃ p v, c = .idle p v) ∨ (∃ p, c = .hushed p) ∨
      ∃ p, c = .badPacket p) : Solvency t := by
  obtain ⟨p, x, rfl⟩ | ⟨p, g, w, z, d, rfl⟩ | ⟨p, g, o, d, rfl⟩ | ⟨p, g, o, d, rfl⟩ | ⟨p, l, rfl⟩ | ⟨p, v, rfl⟩ | ⟨p, rfl⟩ |
    ⟨p, rfl⟩ := hc
  · exact .of_act h hs fun e he => he.greeting
  · refine .of_act h hs fun e he => he.uplink fun hx => ?_
    split
    · exact hx.openFrame
    · exact hx
  · exact .of_act h hs fun e he => he.uplink fun hx => hx.of_eq (books_dataFrame ..)
  · exact .of_act h hs fun e he => he.uplink fun hx => hx.closeFrame
  · exact .of_act h hs fun e he => he.uplink fun hx => hx.lensReport
  · exact .of_act h hs fun e he => he.uplink fun hx => hx.modPower_kept fun _ => ⟨rfl, rfl, rfl, rfl⟩
  · refine .of_act h hs fun e he => he.uplink fun {x} hx => Solvent.ite (fun hl => ?_) fun _ => hx
    refine Books.Sound.setLink (hx.of_eq (books_modLink (by exact fun _ => rfl) x)) fun _ => ?_
    have powered := hx.powered_of_link (p := p) (by rw [hl]; decide)
    simpa [modLink, port_modPort] using powered
  · exact .of_act_same h hs fun e => books_takeBad p e

theorem exec_link_solvency {c : Instr} {s t : State} (hs : Solvency s) (h : exec c s = .next t)
    (hc : (∃ p, c = .askInterval p) ∨ (∃ p, c = .greetingWaitExpiry p) ∨ (∃ p, c = .silenceTimerExpiry p) ∨
      (∃ p, c = .hushWaitExpiry p) ∨ (∃ p, c = .downlinkPacketSent p) ∨ (∃ p, c = .hushSent p)) : Solvency t := by
  obtain ⟨p, rfl⟩ | ⟨p, rfl⟩ | ⟨p, rfl⟩ | ⟨p, rfl⟩ | ⟨p, rfl⟩ | ⟨p, rfl⟩ := hc
  · exact .of_act_same h hs fun e => by
      split
      · rw [books_give, books_modLink (by exact fun _ => rfl)]
      · rfl
  · refine .of_act h hs fun e he => Solvent.ite (fun _ => Books.Sound.handleFault (he.of_eq ?_)) fun _ => he
    rw [books_touch, books_modLink (by exact fun _ => rfl)]
  · exact .of_act h hs fun e he => Solvent.ite (fun hl => he.linkFall (by rw [hl.1]; decide)) fun _ => he
  · exact .of_act h hs fun e he => Solvent.ite (fun hl => he.linkFall (by rw [hl.1]; decide)) fun _ => he
  · exact .of_act_same h hs fun e => by
      split
      · split
        · rfl
        · exact books_packetSent ..
      · rfl
  · exact .of_act_same h hs fun e => by
      split
      · dsimp only
        split
        · rw [books_modLink (by exact fun _ => rfl), books_packetSent]
        · exact books_packetSent ..
      · rfl

theorem exec_line_solvency {c : Instr} {s t : State} (hs : Solvency s) (h : exec c s = .next t)
    (hc : c = .windowEnd ∨ (∃ l n, c = .motionChange l n) ∨ (∃ l n, c = .encoderEdge l n) ∨ (∃ l n, c = .trigEdge l n) ∨
      (∃ i, c = .timerSourceEvent i) ∨ (∃ i, c = .stepReached i) ∨ ∃ l, c = .strobeEnd l) : Solvency t := by
  obtain rfl | ⟨l, n, rfl⟩ | ⟨l, n, rfl⟩ | ⟨l, n, rfl⟩ | ⟨i, rfl⟩ | ⟨i, rfl⟩ | ⟨l, rfl⟩ := hc
  · refine .of_act h hs fun e he => Solvent.ite (fun _ => ?_) fun _ => he
    have next : ∀ x : Event, Solvent x → Solvent { x with trigger := { x.trigger with
      seenHigh := x.trigger.motion, seenLow := !x.trigger.motion, windowAt := x.trigger.windowAt + Config.windowTime } } :=
      fun _ hx => hx
    exact next _ he.endWindows
  · exact .of_act h hs fun e he => Solvent.ite (fun _ => he) fun _ => he
  · refine .of_act h hs fun e he => Solvent.ite (fun _ => ?_) fun _ => he
    have filtered : Solvent { e with trigger := { e.trigger with enc := l } } := he
    exact Solvent.ite (fun _ => filtered.countEdge) fun _ => filtered
  · refine .of_act h hs fun e he => Solvent.ite (fun _ => ?_) fun _ => he
    have filtered : Solvent { e with trigger := { e.trigger with trig := l } } := he
    exact Books.Sound.forProgs (fun _ _ hx => hx.lineEvent) filtered
  · refine .of_act h hs fun e he => ?_
    dsimp only
    split
    · exact he
    · exact he
    · exact Solvent.ite (fun _ => Books.Sound.sourceEvent (he.of_eq (books_modProgram i _ e))) fun _ => he
  · refine .of_act h hs fun e he => ?_
    dsimp only
    split
    · exact Solvent.ite (fun _ => he.reachStep) fun _ => he
    · exact he
  · exact .of_act h hs fun e he => Solvent.ite (fun _ => he) fun _ => he

theorem exec_work_solvency {c : Instr} {s t : State} (hs : Solvency s) (h : exec c s = .next t)
    (hc : (∃ b, c = .reservedTimeout b) ∨ (∃ b, c = .fillingSilenceExpiry b) ∨ (∃ p, c = .stagingTimerExpiry p) ∨
      (∃ p, c = .stuckTimerExpiry p) ∨ (∃ p, c = .probeReadyTimeout p) ∨ ∃ p x, c = .pulseSetEnd p x) : Solvency t := by
  obtain ⟨b, rfl⟩ | ⟨b, rfl⟩ | ⟨p, rfl⟩ | ⟨p, rfl⟩ | ⟨p, rfl⟩ | ⟨p, x, rfl⟩ := hc
  · refine .of_act h hs fun e he => ?_
    split
    · split
      · exact Books.Sound.frameEnded (he.of_eq (books_returnGiven _ e))
      · exact he
    · exact he
  · refine .of_act h hs fun e he => ?_
    split
    · split
      · exact he.deliverFrame
      · exact he
    · exact he
  · refine .of_act h hs fun e he => Solvent.ite (fun _ => ?_) fun _ => he
    rw [Solvent, books_tell]
    exact he.modLens_kept rfl (.inl rfl)
  · exact .of_act h hs fun e he => Solvent.ite (fun hl => he.stuckLens hl.1) fun _ => he
  · refine .of_act h hs fun e he => ?_
    split
    · exact Solvent.ite (fun _ => he.abortProbe) fun _ => he
    · exact he
  · refine .of_act h hs fun e he => ?_
    split
    · next r hr =>
      refine Solvent.ite (fun _ => ?_) fun _ => he
      exact Books.Sound.takeSet (he.of_eq (books_writeTrace r _ e)) (by rw [port_writeTrace]; exact hr)
    · exact he

end Sys2Proof.Machine

namespace Sys2Proof.Machine

/-! ## The budget and the inrush queue (R60 to R67, R88, R94) -/

theorem exec_reset_solvency {c : Instr} {s t : State} (hs : Solvency s) (h : exec c s = .next t)
    (hc : (∃ x y z, c = .powerOnReset x y z) ∨ c = .supplyLoss ∨ c = .lineReset ∨ (∃ x y z, c = .lineResetRelease x y z) ∨
      ∃ on v, c = .pcieConfigurationWrite on v) : Solvency t := by
  have ports : ∀ p, (State.reset.ports.get p) = PortState.reset CableRec.absent := fun p => by simp [State.reset]
  obtain ⟨x, y, z, rfl⟩ | rfl | rfl | ⟨x, y, z, rfl⟩ | ⟨on, v, rfl⟩ := hc
  · injection h with h
    subst h
    exact .of_reset (fun p => ⟨_, ports p⟩) rfl rfl rfl
  · injection h with h
    subst h
    exact .of_reset (fun p => ⟨_, ports p⟩) rfl rfl rfl
  · injection h with h
    split at h <;> subst h
    · exact .of_reset (fun p => ⟨(s.ports.get p).cable, by simp [lineResetState]⟩) rfl rfl rfl
    · exact hs
  · injection h with h
    split at h <;> subst h <;> exact hs
  · injection h with h
    split at h <;> subst h <;> exact hs

/-- Every command keeps the books. -/
theorem exec_solvency (c : Instr) {s t : State} (hs : Solvency s) (ho : HandOff s) (h : exec c s = .next t) : Solvency t := by
  cases c with
  | powerOnReset | supplyLoss | lineReset | lineResetRelease | pcieConfigurationWrite => exact exec_reset_solvency hs h (by simp)
  | pageHeaderReadComplete | pageHeaderReadTimeout | pageReleaseEnd => exact exec_page_solvency hs ho h (by simp)
  | sweepStart | sweepRecordRead | sweepReadFail | sweepReadTimeout | poolRebuildHandRead | poolRebuildReadFail =>
    exact exec_area_solvency hs h (by simp)
  | start n | halt n | arm n | disarm n | cancel n | checkTest n => exact exec_order_solvency (n := n) hs h (by simp)
  | cableLoad n | cableSave n | clearBreaks n | clearFaults n | clearStop n | clearLockout n =>
    exact exec_record_solvency (n := n) hs h (by simp)
  | snap n | cycle n | probe n | learn n | sweep n => exact exec_queued_solvency (n := n) hs h (by simp)
  | haltTeardownDone | cableLoadReadComplete | cableLoadTimeout | cycleHoldEnd | cellRecheck => exact exec_ended_solvency hs h (by simp)
  | trimComplete | inrushVoltageReached | chargeTimeExpiry | settlingEnd | wakeSettleEnd => exact exec_inrush_solvency hs h (by simp)
  | currentMeasurement | limitTimerExpiry | retryTimerEnd | steadyTimerEnd | faultActionApplied | cooldownExpiry =>
    exact exec_supervision_solvency hs h (by simp)
  | hello | frameOpen | frameData | frameClose | lensState | idle | hushed | badPacket => exact exec_uplink_solvency hs h (by simp)
  | askInterval | greetingWaitExpiry | silenceTimerExpiry | hushWaitExpiry | downlinkPacketSent | hushSent =>
    exact exec_link_solvency hs h (by simp)
  | windowEnd | motionChange | encoderEdge | trigEdge | timerSourceEvent | stepReached | strobeEnd => exact exec_line_solvency hs h (by simp)
  | reservedTimeout | fillingSilenceExpiry | stagingTimerExpiry | stuckTimerExpiry | probeReadyTimeout | pulseSetEnd =>
    exact exec_work_solvency hs h (by simp)
  | registerWriteOther o size v => exact .of_act h hs fun e he => Solvent.ite (fun _ => he.writeRegister) fun _ => he
  | pageTake hi => exact .of_act h hs fun e he => he.writePageHi
  | pageRelease => exact .of_act h hs fun e he => he.writePageHi
  | serviceWrite v => exact .of_act_same h hs (books_writeService v)
  | noticeCellSheet | noticePortSheet p | noticeOrders | noticePool => exact .of_act_same h hs (books_notice _)
  | attentionClear v | attentionMaskWrite v => exact .of_act_same h hs fun e => books_setAttention ..
  | headerRefresh => exact .of_act_same h hs books_writeHeader
  | portReportRefresh => exact .of_act_same h hs fun e => books_forPorts _ _ e books_writePortReport

theorem step_solvency {s t : State} (hs : Solvency s) (ho : HandOff s) (h : step s = .next t) : Solvency t := by
  unfold step at h
  split at h
  · next c rest _ => exact exec_solvency c (s := { s with pending := rest }) hs (ho.of_basis rfl) h
  · injection h with h
    subst h
    have own : books (ownStep s) = books s := by
      unfold ownStep
      (repeat' split) <;> rfl
    exact hs.of_eq own

/-- The books are sound wherever a run comes. -/
theorem Reachable.sound {s : State} (h : Reachable s) : Solvency s ∧ HandOff s := by
  induction h with
  | reset => exact ⟨.reset, .of_reset rfl⟩
  | send s c _ ih => exact ⟨ih.1, ih.2.of_basis rfl⟩
  | step s t _ ht ih => exact ⟨step_solvency ih.1 ih.2 ht, handOffKept s t ih.2 ht⟩

/-- Settles O58: the books are sound in every state that a run reaches. -/
theorem budgetLaws : Obligations.BudgetLaws := by
  unfold Obligations.BudgetLaws
  exact fun s h => h.sound.1.budgeted

/-- Settles O59: the books are sound in every state that a run reaches. -/
theorem inrushLaws : Obligations.InrushLaws := by
  unfold Obligations.InrushLaws
  exact fun s h => h.sound.1.queued

end Sys2Proof.Machine

namespace Sys2Proof.Machine

/-! ## Power records of an event that marks one port (R28) -/

theorem modPower_modPort (p : Port) (f : PortPower → PortPower) (g : PortState → PortState) (e : Event) :
    modPower p f (modPort p g e) = modPort p (fun q => { g q with power := f (g q).power }) e := modPort_modPort p _ g e

section
variable {p : Port} {ts : List Task} {s : State}

theorem port_of (q : Port) : (Event.of s).port q = s.ports.get q := rfl

theorem port_marking (q : Port) : (Event.marking p ts s).port q = s.ports.get q := rfl

/-- The first change of an event: a port without a probe moves to another power state. -/
theorem setPower_of {st : PowerState} (hr : (s.ports.get p).probe = none) (hs : (s.ports.get p).power.state ≠ st) :
    setPower p st (Event.of s) = .marking p [] { s with
      ports := modAt s.ports p fun q => { q with power := { q.power with state := st } } } := by
  unfold setPower
  rw [if_neg (by exact hs), touch_first rfl, tellProbe_none]
  · rfl
  · exact (congrArg PortState.probe (get_modAt_self s.ports p _)).trans hr

theorem setPower_marking (hr : (s.ports.get p).probe = none) (st : PowerState) :
    setPower p st (.marking p ts s) = .marking p ts { s with
      ports := modAt s.ports p fun q => { q with power := { q.power with state := st } } } := by
  have same : modPort p id (.marking p ts s) = .marking p ts s := modPort_self rfl
  rw [← same, setPower_modPort_marking (by exact hr)]
  rfl

/-- A port without a probe moves its link to another state. -/
theorem setLink_marking {st : LinkState} (hr : (s.ports.get p).probe = none) (hs : (s.ports.get p).link.state ≠ st) :
    setLink p st (.marking p ts s) = .marking p ts { s with
      ports := modAt s.ports p fun q => { q with link := { q.link with state := st } } } := by
  have moved : modLink p (fun l => { l with state := st }) (.marking p ts s) = .marking p ts { s with
      ports := modAt s.ports p fun q => { q with link := { q.link with state := st } } } := rfl
  unfold setLink
  rw [if_neg (by exact hs), moved, touch_marking, tellProbe_none]
  exact (congrArg PortState.probe (get_modAt_self s.ports p _)).trans hr

/-- A packet that the link state admits joins the downlink (R84). -/
theorem give_marking {k : Packet} (hl : (s.ports.get p).link.state = k.acceptedIn) : give p k (.marking p ts s) =
    .marking p ts { s with ports := modAt s.ports p fun q => { q with link := enqueue k q.link } } :=
  if_pos (by rw [accepts, port_marking, hl]; exact beq_self_eq_true _)

/-- A port that charges leaves the inrush queue, and the stage takes the next head (R67, R68). -/
theorem leaveInrush_marking (hc : s.budget.stage = .charging p) : takeStage (leaveInrush p (.marking p ts s)) =
    .marking p ts { s with budget := { s.budget with
      inrush := s.budget.inrush.filter (· != p)
      stage := match s.budget.inrush.filter (· != p) with
        | [] => .free
        | q :: _ => .trimming q } } := by
  have served : s.budget.stage.serves p = true := by
    rw [hc]
    exact beq_self_eq_true p
  have left : leaveInrush p (.marking p ts s) = .marking p ts { s with budget := { s.budget with
      inrush := s.budget.inrush.filter (· != p), stage := .free } } := by
    have stage : (if (Event.marking p ts s).budget.stage.serves p = true then InrushStage.free else s.budget.stage) = .free :=
      if_pos served
    exact congrArg (fun st => Event.marking p ts { s with budget := { s.budget with
      inrush := s.budget.inrush.filter (· != p), stage := st } }) stage
  have stage : ∀ l : List Port, stageOf .free l = match l with
      | [] => .free
      | q :: _ => .trimming q := fun l => by cases l <;> rfl
  rw [left, takeStage_eq]
  exact congrArg (fun st => Event.marking p ts { s with budget := { s.budget with
    inrush := s.budget.inrush.filter (· != p), stage := st } }) (stage _)

end

/-! ## The way up (R67 to R69, R75) -/

/-- The trim within its limit, and the clamped mark (R67). -/
theorem trimOf_eq (readings : Vector Int 16) : ∀ x, x = readings.toList.sum.tdiv 16 →
    (x < -63 → (trimOf readings).1 = -63 ∧ (trimOf readings).2 = true) ∧
    (63 < x → (trimOf readings).1 = 63 ∧ (trimOf readings).2 = true) ∧
    (-63 ≤ x → x ≤ 63 → (trimOf readings).1 = x ∧ (trimOf readings).2 = false) := by
  intro x hx
  have limit : Config.trimLimit = 63 := rfl
  unfold trimOf
  rw [limit, ← hx]
  dsimp only
  refine ⟨fun low => ?_, fun high => ?_, fun low high => ?_⟩
  · rw [if_pos low]
    exact ⟨rfl, rfl⟩
  · rw [if_neg (by omega), if_pos high]
    exact ⟨rfl, rfl⟩
  · rw [if_neg (by omega), if_neg (by omega)]
    exact ⟨rfl, rfl⟩

section
variable {p : Port} {s : State}

theorem exec_trimComplete {readings : Vector Int 16} (h : live s = true) (hs : s.budget.stage = .trimming p)
    (hq : (s.ports.get p).power.state = .queued) (hr : (s.ports.get p).probe = none) :
    exec (.trimComplete p readings) s = .next (State.reported [p] { s with
      ports := modAt s.ports p fun q => { q with power := { q.power with
        state := .inrush, trim := (trimOf readings).1, trimClamped := (trimOf readings).2, chargeAt := some (s.clock + 50000) } }
      budget := { s.budget with inrush := s.budget.inrush.filter (· != p), stage := .charging p } }) := by
  obtain ⟨u, hu⟩ : ∃ u : State, u = { s with
      ports := modAt s.ports p fun q => { q with power := { q.power with
        trim := (trimOf readings).1, trimClamped := (trimOf readings).2, chargeAt := some (s.clock + 50000) } }
      budget := { s.budget with inrush := s.budget.inrush.filter (· != p), stage := .charging p } } := ⟨_, rfl⟩
  have port : u.ports.get p = { s.ports.get p with power := { (s.ports.get p).power with
      trim := (trimOf readings).1, trimClamped := (trimOf readings).2, chargeAt := some (s.clock + 50000) } } := by
    rw [hu]
    exact get_modAt_self ..
  refine act_port h ?_
  rw [if_pos (by exact hs)]
  change setPower p .inrush (Event.of _) = _
  refine (congrArg (fun x => setPower p .inrush (Event.of x)) hu).symm.trans ((setPower_of ?_ ?_).trans ?_)
  · rw [port]; exact hr
  · rw [port]; exact fun hx => by cases hq.symm.trans hx
  · rw [hu]
    dsimp only
    rw [modAt_modAt]
    rfl

theorem exec_inrushVoltageReached {voltage supply : Nat} (h : live s = true) (hs : (s.ports.get p).power.state = .inrush)
    (hr : (s.ports.get p).probe = none) (hc : s.budget.stage = .charging p) (hv : supply * 90 ≤ voltage * 100) :
    exec (.inrushVoltageReached p voltage supply) s = .next (State.reported [p] { s with
      ports := modAt s.ports p fun q => { q with power := { q.power with
        state := .settling, chargeAt := none, settleAt := some (s.clock + 20000) } }
      budget := { s.budget with
        inrush := s.budget.inrush.filter (· != p)
        stage := match s.budget.inrush.filter (· != p) with
          | [] => .free
          | q :: _ => .trimming q } }) := by
  have settled : setPower p .settling (modPower p (fun w => { w with chargeAt := none, settleAt := some (s.clock + 20000) }) (Event.of s)) =
      .marking p [] { s with ports := modAt s.ports p fun q => { q with power := { q.power with
        state := .settling, chargeAt := none, settleAt := some (s.clock + 20000) } } } := by
    refine (setPower_of (s := { s with ports := modAt s.ports p fun q => { q with power := { q.power with
      chargeAt := none, settleAt := some (s.clock + 20000) } } }) ?_ ?_).trans ?_
    · exact (congrArg PortState.probe (get_modAt_self s.ports p _)).trans hr
    · rw [get_modAt_self]
      exact fun hx => by cases hs.symm.trans hx
    · dsimp only
      rw [modAt_modAt]
  refine act_port h ?_
  rw [if_pos (by exact ⟨hs, hv⟩)]
  exact (congrArg (fun x => takeStage (leaveInrush p x)) settled).trans (leaveInrush_marking hc)

theorem exec_settlingEnd (h : live s = true) (hs : (s.ports.get p).power.state = .settling)
    (hd : due (s.ports.get p).power.settleAt s = true) (hr : (s.ports.get p).probe = none) (hl : (s.ports.get p).link.state = .dark) :
    exec (.settlingEnd p) s = .next (State.reported [p] { s with ports := modAt s.ports p fun q => { q with
      power := { q.power with state := .on, full := q.power.base, settleAt := none, steadyAt := some (s.clock + 60000000) }
      link := enqueue .ask { q.link with
        state := .wake, askAt := some (s.clock + 250000), greetAt := some (s.clock + 2000000) } } }) := by
  have on : setPower p .on (modPower p (fun w => { w with
        full := w.base, settleAt := none, steadyAt := some (s.clock + 60000000) }) (Event.of s)) =
      .marking p [] { s with ports := modAt s.ports p fun q => { q with power := { q.power with
        state := .on, full := q.power.base, settleAt := none, steadyAt := some (s.clock + 60000000) } } } := by
    refine (setPower_of (s := { s with ports := modAt s.ports p fun q => { q with power := { q.power with
      full := q.power.base, settleAt := none, steadyAt := some (s.clock + 60000000) } } }) ?_ ?_).trans ?_
    · exact (congrArg PortState.probe (get_modAt_self s.ports p _)).trans hr
    · rw [get_modAt_self]
      exact fun hx => by cases hs.symm.trans hx
    · dsimp only
      rw [modAt_modAt]
  refine act_port h ?_
  rw [if_pos (by exact ⟨hs, hd⟩)]
  refine (congrArg (fun x => askCamera p (setLink p .wake x)) on).trans ?_
  rw [setLink_marking (by rw [get_modAt_self]; exact hr) (by rw [get_modAt_self, hl]; decide)]
  dsimp only
  rw [modAt_modAt, askCamera, modLink, modPort_marking]
  dsimp only
  rw [modAt_modAt, give_marking (by rw [get_modAt_self]; rfl)]
  dsimp only
  rw [modAt_modAt]
  rfl

theorem exec_wakeSettleEnd (h : live s = true) (hs : (s.ports.get p).power.state = .waking)
    (hd : due (s.ports.get p).power.wakeAt s = true) (hr : (s.ports.get p).probe = none)
    (hw : (s.ports.get p).link.state ≠ .talk ∨ wantOf (s.ports.get p) ≠ .standby) :
    exec (.wakeSettleEnd p) s = .next (State.reported [p] { s with ports := modAt s.ports p fun q => { q with
      power := { q.power with state := .on, wakeAt := none } } }) := by
  have on : setPower p .on (modPower p (fun w => { w with wakeAt := none }) (Event.of s)) =
      .marking p [] { s with ports := modAt s.ports p fun q => { q with power := { q.power with state := .on, wakeAt := none } } } := by
    refine (setPower_of (s := { s with ports := modAt s.ports p fun q => { q with power := { q.power with wakeAt := none } } })
      ?_ ?_).trans ?_
    · exact (congrArg PortState.probe (get_modAt_self s.ports p _)).trans hr
    · rw [get_modAt_self]
      exact fun hx => by cases hs.symm.trans hx
    · dsimp only
      rw [modAt_modAt]
  refine act_port h ?_
  rw [if_pos (by exact ⟨hs, hd⟩)]
  refine (congrArg (tryStandby p) on).trans (if_neg ?_)
  rw [port_marking, get_modAt_self]
  exact fun hx => hw.elim (fun hl => hl hx.2.1) fun hn => hn hx.2.2

end

/-- Settles O33: each command of the way up, by its event. -/
theorem powerUpPath : Obligations.PowerUpPath := by
  refine ⟨fun p readings s h => ⟨fun hs hq hr => ?_, fun hs => act_idle (if_neg hs)⟩,
    fun p voltage supply s h hs hr hc => ⟨exec_inrushVoltageReached h hs hr hc, fun hv => act_idle (if_neg ?_)⟩,
    fun p s h hs hd hr hl => exec_settlingEnd h hs hd hr hl, fun p s h hs hd hr hw => exec_wakeSettleEnd h hs hd hr hw⟩
  · obtain ⟨low, high, within⟩ := trimOf_eq readings _ rfl
    exact ⟨(trimOf readings).1, (trimOf readings).2, low, high, within, exec_trimComplete h hs hq hr⟩
  · exact fun hx => absurd hx.2 (Nat.not_le.mpr hv)

end Sys2Proof.Machine

namespace Sys2Proof.Machine

/-! ## Power-up in an event that marks one port (R62, R63, R65 to R67) -/

/-- A change of one port that keeps what it holds leaves the room (R61). -/
theorem room_modAt {s : State} {p : Port} {f : PortState → PortState} (h : (f (s.ports.get p)).power.held = (s.ports.get p).power.held) :
    room { s with ports := modAt s.ports p f } = room s := by
  have held : ∀ q, ((modAt s.ports p f).get q).power.held = (s.ports.get q).power.held := fun q => by
    rw [get_modAt]
    split
    · next same => subst same; exact h
    · rfl
  rw [room, room, allotted_eq_sum, allotted_eq_sum, Finset.sum_congr rfl fun q _ => held q]

section
variable {p : Port} {ts : List Task} {s : State}

/-- The port is WAITING and its claim arrives (R62, R65). -/
theorem powerUp_marking (hr : (s.ports.get p).probe = none) : powerUp p (.marking p ts s) =
    arrive (powerUpClaim s p) (.marking p ts { s with ports := modAt s.ports p PortState.awaiting }) := by
  unfold powerUp
  rw [setPower_marking hr]
  rfl

/-- The claim granted (R63, R66, R67). -/
theorem grant_marking_powerUp {d : PowerClaim} (hk : d.kind = .powerUp) (hp : d.port = p) (hr : (s.ports.get p).probe = none) :
    grant d (.marking p ts s) = .marking p ts { s with
      ports := modAt s.ports p (PortState.queued d)
      budget := { s.budget with
        inrush := s.budget.inrush ++ [p], stage := stageOf s.budget.stage (s.budget.inrush ++ [p]) } } := by
  obtain ⟨x, hx, granted⟩ := grant_powerUp hk (.marking p ts s)
  rw [hp, modPower, setPower_modPort_marking (by exact hr)] at hx
  rw [granted, hx, hp]
  rfl

/-- What the port's own claim needs no room for. -/
theorem room_awaiting_modAt : room { s with ports := modAt s.ports p PortState.awaiting } = room s := room_modAt rfl

/-- A claim that arrives alone and fits. -/
theorem powerUp_marking_granted (hr : (s.ports.get p).probe = none) (hb : s.budget.waitList = [])
    (fits : (powerUpClaim s p).amount ≤ room s) : powerUp p (.marking p ts s) = .marking p ts { s with
      ports := modAt s.ports p (PortState.queued (powerUpClaim s p))
      budget := { s.budget with
        inrush := s.budget.inrush ++ [p], stage := stageOf s.budget.stage (s.budget.inrush ++ [p]) } } := by
  have quiet : ((modAt s.ports p PortState.awaiting).get p).probe = none := by rw [get_modAt_self]; exact hr
  rw [powerUp_marking hr, arrive_alone hb (by exact fits.trans_eq room_awaiting_modAt.symm)]
  refine (grant_marking_powerUp (p := p) (d := powerUpClaim s p) rfl rfl quiet).trans ?_
  dsimp only
  rw [modAt_modAt]
  rfl

/-- One that does not fit waits. -/
theorem powerUp_marking_waits (hr : (s.ports.get p).probe = none) (hb : s.budget.waitList = [])
    (large : room s < (powerUpClaim s p).amount) : powerUp p (.marking p ts s) = .marking p ts { s with
      ports := modAt s.ports p PortState.awaiting
      budget := { s.budget with waitList := [powerUpClaim s p] } } := by
  have wait : (Event.marking p ts { s with ports := modAt s.ports p PortState.awaiting }).budget.waitList = [] := hb
  rw [powerUp_marking hr, arrive_waits (by rw [claimWaits, wait]; rfl) (by rw [wait]; exact fun d hd => by cases hd)
    (by exact room_awaiting_modAt.trans_lt large), wait]
  rfl

/-- An OFF port with a want of ON or STANDBY in RUN, no CYCLE and no probe on it, begins to power up (R65). -/
theorem offerPowerUp_marking (ho : (s.ports.get p).power.state = .off) (hw : wantOf (s.ports.get p) ≠ .off) (hm : s.cell.mode = .run)
    (hc : (s.ports.get p).cycle = none) (hr : (s.ports.get p).probe = none) :
    offerPowerUp p (.marking p ts s) = powerUp p (.marking p ts s) := by
  have noCycle : cycleRuns p (.marking p ts s) = false := by rw [cycleRuns, port_marking, hc]; rfl
  have noProbe : probeRuns p (.marking p ts s) = false := by rw [probeRuns, port_marking, hr]; rfl
  unfold offerPowerUp
  dsimp only
  rw [if_pos ⟨ho, hw, hm, noCycle⟩, noProbe]
  rfl

/-- With a want of OFF, or outside RUN, it stays as it is. -/
theorem offerPowerUp_declined {e : Event} (h : wantOf (e.port p) = .off ∨ e.cell.mode ≠ .run) : offerPowerUp p e = e :=
  if_neg fun hx => h.elim (fun hw => hx.2.1 hw) fun hm => hm hx.2.2.1

/-- A port leaves RETRY_WAIT (R81). -/
theorem leaveRetry_of (hs : (s.ports.get p).power.state = .retryWait) (hr : (s.ports.get p).probe = none) :
    leaveRetry p (Event.of s) = .marking p [] { s with ports := modAt s.ports p fun q => { q with
      power := { q.power with state := .off, retryAt := none, retryEnded := false } } } := by
  unfold leaveRetry
  refine (setPower_of (s := { s with ports := modAt s.ports p fun q => { q with power := { q.power with
    retryAt := none, retryEnded := false } } }) ?_ ?_).trans ?_
  · exact (congrArg PortState.probe (get_modAt_self s.ports p _)).trans hr
  · rw [get_modAt_self]
    exact fun hx => by cases hs.symm.trans hx
  · dsimp only
    rw [modAt_modAt]

/-! ### The end of a retry wait (R81) -/

/-- A port that has left RETRY_WAIT. -/
def PortState.retried (q : PortState) : PortState :=
  { q with power := { q.power with state := .off, retryAt := none, retryEnded := false } }

theorem retryUp_of (hs : (s.ports.get p).power.state = .retryWait) (hr : (s.ports.get p).probe = none) :
    retryUp p (Event.of s) = offerPowerUp p (.marking p [] { s with ports := modAt s.ports p PortState.retried }) := by
  unfold retryUp
  rw [if_neg (by rw [probeRuns, port_of, hr]; decide), leaveRetry_of hs hr]
  rfl

theorem exec_retryTimerEnd {t : State} (h : live s = true) (hs : (s.ports.get p).power.state = .retryWait)
    (hd : due (s.ports.get p).power.retryAt s = true) (hr : (s.ports.get p).probe = none)
    (ht : offerPowerUp p (.marking p [] { s with ports := modAt s.ports p PortState.retried }) = .marking p [] t) :
    exec (.retryTimerEnd p) s = .next (t.reported [p]) :=
  act_port h ((if_pos (by exact ⟨hs, hd⟩)).trans ((retryUp_of hs hr).trans ht))

/-- The claim is that of the port as the wait found it. -/
theorem powerUpClaim_retried : powerUpClaim { s with ports := modAt s.ports p PortState.retried } p = powerUpClaim s p := by
  have port : (modAt s.ports p PortState.retried).get p = (s.ports.get p).retried := get_modAt_self ..
  unfold powerUpClaim allotment loopOf
  dsimp only
  rw [port]
  rfl

section
variable (h : live s = true) (hs : (s.ports.get p).power.state = .retryWait) (hd : due (s.ports.get p).power.retryAt s = true)
  (hr : (s.ports.get p).probe = none) (hc : (s.ports.get p).cycle = none) (hw : wantOf (s.ports.get p) ≠ .off)
  (hm : s.cell.mode = .run)
include h hs hd hr hc hw hm

theorem exec_retryTimerEnd_offers {u t : State} (hu : u = { s with ports := modAt s.ports p PortState.retried })
    (ht : powerUp p (.marking p [] u) = .marking p [] t) : exec (.retryTimerEnd p) s = .next (t.reported [p]) := by
  have port : u.ports.get p = (s.ports.get p).retried := by rw [hu]; exact get_modAt_self ..
  have offered := offerPowerUp_marking (ts := []) (s := u) (p := p) (by rw [port]; rfl) (by rw [port]; exact hw)
    (by rw [hu]; exact hm) (by rw [port]; exact hc) (by rw [port]; exact hr)
  rw [hu] at offered ht
  exact exec_retryTimerEnd h hs hd hr (offered.trans ht)

theorem exec_retryTimerEnd_granted (hb : s.budget.waitList = []) (fits : (powerUpClaim s p).amount ≤ room s) :
    exec (.retryTimerEnd p) s = .next (State.reported [p] { s with
      ports := modAt s.ports p fun q => q.retried.queued (powerUpClaim s p)
      budget := { s.budget with
        inrush := s.budget.inrush ++ [p], stage := stageOf s.budget.stage (s.budget.inrush ++ [p]) } }) := by
  have same : room { s with ports := modAt s.ports p PortState.retried } = room s := room_modAt rfl
  have quiet : ((modAt s.ports p PortState.retried).get p).probe = none := by rw [get_modAt_self]; exact hr
  have granted := powerUp_marking_granted (ts := []) (s := { s with ports := modAt s.ports p PortState.retried }) quiet hb
    (by rw [powerUpClaim_retried, same]; exact fits)
  rw [powerUpClaim_retried] at granted
  refine (exec_retryTimerEnd_offers h hs hd hr hc hw hm rfl granted).trans ?_
  dsimp only
  rw [modAt_modAt]

theorem exec_retryTimerEnd_waits (hb : s.budget.waitList = []) (large : room s < (powerUpClaim s p).amount) :
    exec (.retryTimerEnd p) s = .next (State.reported [p] { s with
      ports := modAt s.ports p fun q => q.retried.awaiting
      budget := { s.budget with waitList := [powerUpClaim s p] } }) := by
  have same : room { s with ports := modAt s.ports p PortState.retried } = room s := room_modAt rfl
  have quiet : ((modAt s.ports p PortState.retried).get p).probe = none := by rw [get_modAt_self]; exact hr
  have waits := powerUp_marking_waits (ts := []) (s := { s with ports := modAt s.ports p PortState.retried }) quiet hb
    (by rw [powerUpClaim_retried, same]; exact large)
  rw [powerUpClaim_retried] at waits
  refine (exec_retryTimerEnd_offers h hs hd hr hc hw hm rfl waits).trans ?_
  dsimp only
  rw [modAt_modAt]

end

theorem exec_retryTimerEnd_off (h : live s = true) (hs : (s.ports.get p).power.state = .retryWait)
    (hd : due (s.ports.get p).power.retryAt s = true) (hr : (s.ports.get p).probe = none)
    (hw : wantOf (s.ports.get p) = .off ∨ s.cell.mode ≠ .run) :
    exec (.retryTimerEnd p) s = .next (State.reported [p] { s with ports := modAt s.ports p PortState.retried }) := by
  have port : (Event.marking p [] { s with ports := modAt s.ports p PortState.retried }).port p = (s.ports.get p).retried :=
    get_modAt_self ..
  exact exec_retryTimerEnd h hs hd hr (offerPowerUp_declined (by rw [port]; exact hw))

end

theorem stageOf_tail (stage : InrushStage) (l : List Port) (p : Port) : stageOf stage (l ++ [p]) = match stage with
    | .free => .trimming ((l ++ [p]).headD p)
    | x => x := by
  cases l <;> cases stage <;> rfl

/-- The allotment with its cable loss rounded up, and the limit of what is held (R60, R71). -/
theorem allotment_eq (p : Port) (power : Nat) (s : State) :
    allotment p power s = power + (power * power * loopOf p s + 5759999) / 5760000 := by
  unfold allotment loss ceilDiv
  omega

theorem limit_eq (w : PortPower) : w.limit = ((w.base + w.motion) * 125 + 23) / 24 := by
  unfold PortPower.limit ceilDiv PortPower.held
  omega

theorem firstFit_oldest {room : Nat} {older newer : List PowerClaim} {c : PowerClaim} (h : ∀ d ∈ older, room < d.amount)
    (hc : c.amount ≤ room) : firstFit room (older ++ c :: newer) = some (c, older ++ newer) := by
  induction older with
  | nil => simp [firstFit, hc]
  | cons x xs ih =>
    rw [List.cons_append, firstFit, if_neg (Nat.not_le.mpr (h x (by simp))), ih fun d hd => h d (by simp [hd])]
    rfl

/-- Settles O32: the rules' arithmetic, the end of a retry wait by the offer it makes, and the two timers. -/
theorem allotmentsAndRetries : Obligations.AllotmentsAndRetries := by
  refine ⟨⟨allotment_eq, limit_eq, fun w hm => ⟨fun hb => by rw [limit_eq, hm, hb], fun hb => by rw [limit_eq, hm, hb]⟩,
      fun room older newer c => firstFit_oldest⟩,
    fun p s h hs hd hr hc amount ha => ⟨fun hw => exec_retryTimerEnd_off h hs hd hr hw,
      fun hw hm hb => ⟨fun fits => ?_, fun large => ?_⟩⟩,
    fun p s h => ⟨fun hd => act_plain h (if_pos hd), fun hd => act_idle (if_neg (by exact Bool.eq_false_iff.mp hd)),
      fun hd => act_plain h (if_pos hd), fun hd => act_idle (if_neg (by exact Bool.eq_false_iff.mp hd))⟩⟩
  · subst ha
    refine (exec_retryTimerEnd_granted h hs hd hr hc hw hm hb fits).trans ?_
    have ports : modAt s.ports p (fun q => q.retried.queued (powerUpClaim s p)) = modAt s.ports p fun q => { q with
        power := { q.power with
          state := .queued, retryAt := none, retryEnded := false, base := allotment p (declaredPower (s.ports.get p)) s
          rating := some (declaredPower q) } } := modAt_congr rfl
    rw [stageOf_tail, ports] <;> rfl
  · subst ha
    exact exec_retryTimerEnd_waits h hs hd hr hc hw hm hb large

end Sys2Proof.Machine

namespace Sys2Proof.Machine

/-! ## A fault that starts no probe (R168 to R171) -/

/-- The Fault Unit after a fault of kind k on port p: its action sent, unless the Power Manager has applied it, and the stop latch by its
route (R168, R170). -/
def FaultUnit.noted (p : Port) (k : FaultKind) (s : State) : FaultUnit := { s.faults with
  sent := if k.ofPower then s.faults.sent else
    s.faults.sent ++ [{ port := p, kind := k, action := (reactionOf k s).action, autoProbe := autoProbeOn s }]
  stopLatch := s.faults.stopLatch || (reactionOf k s).route == .attentionStop }

theorem touch_eq (p : Port) (e : Event) : ∃ touched, touch p e = { e with touched := touched } ∧
    ∀ q ∈ touched, q ∈ e.touched ∨ q = p := by
  unfold touch
  split
  · exact ⟨e.touched, rfl, fun _ hq => .inl hq⟩
  · exact ⟨e.touched ++ [p], rfl, fun q hq => (List.mem_append.mp hq).imp id List.mem_singleton.mp⟩

/-- What a fault does by its route (R168). -/
def routeFault (r : Route) (p : Port) (e : Event) : Event :=
  match r with
  | .nothing => e
  | .attention => touch p e
  | .attentionStop => setStop (touch p e)

theorem routeFault_eq (r : Route) (p : Port) (e : Event) : ∃ page traffic touched, routeFault r p e = { e with
    page := page, traffic := traffic, touched := touched
    faults := { e.faults with stopLatch := e.faults.stopLatch || r == .attentionStop } } ∧
    ∀ q ∈ touched, q ∈ e.touched ∨ q = p := by
  obtain ⟨touched, marked, only⟩ := touch_eq p e
  have kept : ({ e.faults with stopLatch := e.faults.stopLatch || false } : FaultUnit) = e.faults := by rw [Bool.or_false]
  cases r with
  | nothing => exact ⟨e.page, e.traffic, e.touched, congrArg (fun f => { e with faults := f }) kept.symm, fun _ hq => .inl hq⟩
  | attention =>
    refine ⟨e.page, e.traffic, touched, marked.trans ?_, only⟩
    exact congrArg (fun f => { e with faults := f, touched := touched }) kept.symm
  | attentionStop =>
    obtain ⟨page, traffic, set⟩ := setStop_eq (touch p e)
    refine ⟨page, traffic, touched, set.trans ?_, only⟩
    have latched : (e.faults.stopLatch || Route.attentionStop == Route.attentionStop) = true := Bool.or_true _
    rw [marked, latched]

/-- A fault is noted on its port, and its action sent unless the Power Manager has applied it (R168). -/
def postFault (p : Port) (k : FaultKind) (e : Event) : Event :=
  if k.ofPower then modFaults p (PortFaults.note k) e
  else { modFaults p (PortFaults.note k) e with faults := { e.faults with
    sent := e.faults.sent ++ [{ port := p, kind := k, action := (reactionOf k e.toState).action, autoProbe := autoProbeOn e.toState }] } }

theorem postFault_eq (p : Port) (k : FaultKind) (e : Event) : postFault p k e =
    { modFaults p (PortFaults.note k) e with faults := { e.faults with sent := (FaultUnit.noted p k e.toState).sent } } := by
  unfold postFault FaultUnit.noted
  by_cases hp : k.ofPower = true
  · simp only [hp, if_true]
    rfl
  · simp only [hp]
    rfl

theorem touch_touched_congr {p : Port} {e x : Event} (h : x.touched = e.touched) : (touch p x).touched = (touch p e).touched := by
  unfold touch
  rw [h]
  split
  · exact h
  · rfl

/-- A first latching marks the port, and the route then acts (R168, R170). -/
theorem handleFault_posts (p : Port) (k : FaultKind) (e : Event) : ∃ touched,
    handleFault p k e = (if k = .short ∨ k = .overload then considerProbe p k (autoProbeOn e.toState) else id)
      (routeFault (reactionOf k e.toState).route p { postFault p k e with touched := touched }) ∧
    (touched = e.touched ∨ touched = (touch p e).touched) := by
  by_cases hl : (e.port p).faults.latched.get k.index = true
  · refine ⟨e.touched, ?_, .inl rfl⟩
    unfold handleFault
    dsimp only
    rw [if_pos hl]
    cases k <;> rfl
  · obtain ⟨touched, marked, -⟩ := touch_eq p (modFaults p (PortFaults.note k) e)
    have same : touched = (touch p e).touched :=
      (congrArg Event.touched marked).symm.trans (touch_touched_congr (p := p) (e := e) rfl)
    refine ⟨touched, ?_, .inr same⟩
    unfold handleFault
    dsimp only
    rw [if_neg hl, marked]
    cases k <;> rfl

/-- Auto-probe is not considered for a kind that never probes, nor with its enable clear. -/
theorem posted_unprobed {p : Port} {k : FaultKind} {s : State} (hk : k.probes = false ∨ autoProbeOn s = false) (x : Event) :
    (if k = .short ∨ k = .overload then considerProbe p k (autoProbeOn s) else id) x = x := by
  split
  · exact considerProbe_none (hk.elim (fun h => .inr (.inr h)) .inl)
  · rfl

/-- A fault counts, latches and remembers its kind; nothing else of the ports moves (R168). -/
theorem handleFault_eq {p : Port} {k : FaultKind} {e : Event} (hk : k.probes = false ∨ autoProbeOn e.toState = false) :
    ∃ page traffic touched, handleFault p k e = { modFaults p (PortFaults.note k) e with
      page := page, traffic := traffic, touched := touched, faults := FaultUnit.noted p k e.toState } ∧
      ∀ q ∈ touched, q ∈ e.touched ∨ q = p := by
  obtain ⟨touched, posted, how⟩ := handleFault_posts p k e
  have only : ∀ q ∈ touched, q ∈ e.touched ∨ q = p := by
    rcases how with same | marked
    · exact fun q hq => .inl (same ▸ hq)
    · obtain ⟨ts, eq, only⟩ := touch_eq p e
      rw [marked, eq]
      exact only
  obtain ⟨page, traffic, touched', routed, only'⟩ :=
    routeFault_eq (reactionOf k e.toState).route p { postFault p k e with touched := touched }
  refine ⟨page, traffic, touched', ?_, fun q hq => (only' q hq).elim (only q) .inr⟩
  rw [posted, posted_unprobed hk, routed, postFault_eq]
  rfl

/-! ## Reports of other ports -/

/-- The reports of some ports leave the record of every other port (R28). -/
theorem reported_other {ps : List Port} {q : Port} (hq : q ∉ ps) (s : State) : (s.reported ps).ports.get q = s.ports.get q := by
  have kept : ∀ (l : List Port) (e : Event), q ∉ l → (forPorts l reportPort e).port q = e.port q := by
    intro l
    induction l with
    | nil => exact fun _ _ => rfl
    | cons p ps ih =>
      intro e hl
      obtain ⟨hp, hps⟩ := not_or.mp fun h => hl (List.mem_cons.mpr h)
      refine (ih (reportPort p e) hps).trans ?_
      obtain ⟨count, flags, traffic, same⟩ := reported_eq p e.toState
      have other : (reportPort p e).toState = e.toState.reported [p] :=
        reportPort_toState p e (Event.of e.toState) rfl
      rw [Event.port, other, same]
      exact get_modAt_ne _ _ _ _ hp
  exact kept ps (Event.of s) hq

/-- What an event that ends leaves of a port that it has not marked. -/
theorem finish_other {e : Event} {q : Port} (ha : e.agenda = []) (hq : q ∉ e.touched) : (finish e).ports.get q = e.port q := by
  rw [finish_marked ha, reported_other (by simp [hq])]
  rfl

end Sys2Proof.Machine

namespace Sys2Proof.Machine

/-! ## Lens moves in an event that marks one port (R62, R140, R141) -/

/-- A port whose lens move has been granted its motion allotment. -/
def PortState.moving (amount clock : Nat) (q : PortState) : PortState := { q with
  power := { q.power with motion := amount }
  link := enqueue (.lensMove q.lens.staged) q.link
  lens := { q.lens with
    state := .moving, staged := Axes.none, stagedBy := .sheet, stagingAt := none, stagingMark := false
    stuckAt := some (clock + 3000000)
    move := some { targets := q.lens.staged, server := q.lens.stagedBy, best := q.lens.stagedBy == .sweep && bestMove q } } }

/-- A port whose lens waits for its motion allotment. -/
def PortState.lensWaits (q : PortState) : PortState := { q with lens := { q.lens with state := .waitPower } }

section
variable {p : Port} {ts : List Task} {s : State}

theorem setLens_of {st : LensState} (hs : (s.ports.get p).lens.state ≠ st) : setLens p st (Event.of s) = .marking p [] { s with
    ports := modAt s.ports p fun q => { q with lens := { q.lens with state := st } } } := by
  unfold setLens
  rw [if_neg (by exact hs), touch_first rfl]
  rfl

theorem setLens_marking {st : LensState} (hs : (s.ports.get p).lens.state ≠ st) : setLens p st (.marking p ts s) = .marking p ts { s with
    ports := modAt s.ports p fun q => { q with lens := { q.lens with state := st } } } := by
  unfold setLens
  rw [if_neg (by exact hs), modLens, modPort_marking, touch_marking]

theorem modLens_marking (f : LensRec → LensRec) : modLens p f (.marking p ts s) = .marking p ts { s with
    ports := modAt s.ports p fun q => { q with lens := f q.lens } } := rfl

/-- A granted LENS_MOTION claim moves the lens (R141). -/
theorem grant_marking_lens {d : PowerClaim} (hk : d.kind = .lensMotion) (hp : d.port = p) (hl : (s.ports.get p).link.state = .talk)
    (hw : (s.ports.get p).lens.state = .waitPower) :
    grant d (.marking p ts s) = .marking p ts { s with ports := modAt s.ports p (PortState.moving d.amount s.clock) } := by
  unfold grant
  rw [hk, hp]
  dsimp only
  rw [modPower, modPort_marking]
  unfold lensGranted
  dsimp only
  have port : (modAt s.ports p fun q => { q with power := { q.power with motion := d.amount } }).get p =
      { s.ports.get p with power := { (s.ports.get p).power with motion := d.amount } } := get_modAt_self ..
  have talks : accepts p (.lensMove (s.ports.get p).lens.staged) (.marking p ts { s with
      ports := modAt s.ports p fun q => { q with power := { q.power with motion := d.amount } } }) = true := by
    rw [accepts, port_marking, port, hl]
    rfl
  rw [port_marking, port]
  dsimp only
  rw [if_pos talks, modLens_marking]
  dsimp only
  rw [modAt_modAt, give_marking (by rw [get_modAt_self]; exact hl)]
  dsimp only
  rw [modAt_modAt, modLens_marking]
  dsimp only
  rw [modAt_modAt, setLens_marking (by rw [get_modAt_self]; dsimp only [LensRec.unstage]; rw [hw]; decide)]
  dsimp only
  rw [modAt_modAt]
  exact congrArg (fun v => Event.marking p ts { s with ports := v }) (modAt_congr rfl)

/-- The LENS_MOTION claim of a port (R62). -/
def lensMotionClaim (s : State) (p : Port) : PowerClaim :=
  { port := p, kind := .lensMotion, amount := max 1 ((s.ports.get p).link.identity.map Identity.motionPower |>.getD 0), rating := 0 }

theorem lensClaim_eq (e : Event) : lensClaim p e = lensMotionClaim e.toState p := by
  unfold lensClaim lensMotionClaim Event.port
  cases (e.ports.get p).link.identity <;> rfl

theorem room_lensWaits : room { s with ports := modAt s.ports p PortState.lensWaits } = room s := room_modAt rfl

/-- The claim stands on what the port holds besides its lens. -/
theorem claimMotion_of (hs : (s.ports.get p).lens.state ≠ .waitPower) : claimMotion p (Event.of s) =
    arrive (lensMotionClaim s p) (.marking p [] { s with ports := modAt s.ports p PortState.lensWaits }) := by
  rw [claimMotion, lensClaim_eq, setLens_of hs]
  rfl

/-- Alone, and fitting the room, it is granted at once (R63, R141). -/
theorem claimMotion_granted (hs : (s.ports.get p).lens.state ≠ .waitPower) (hl : (s.ports.get p).link.state = .talk)
    (hb : s.budget.waitList = []) (fits : (lensMotionClaim s p).amount ≤ room s) : claimMotion p (Event.of s) =
      .marking p [] { s with ports := modAt s.ports p fun q => q.lensWaits.moving (lensMotionClaim s p).amount s.clock } := by
  have waits : (modAt s.ports p PortState.lensWaits).get p = (s.ports.get p).lensWaits := get_modAt_self ..
  rw [claimMotion_of hs, arrive_alone hb (by exact fits.trans_eq room_lensWaits.symm)]
  refine (grant_marking_lens (p := p) (d := lensMotionClaim s p) rfl rfl (by rw [waits]; exact hl) (by rw [waits]; rfl)).trans ?_
  dsimp only
  rw [modAt_modAt]

/-- One that does not fit waits. -/
theorem claimMotion_waits (hs : (s.ports.get p).lens.state ≠ .waitPower) (hb : s.budget.waitList = [])
    (large : room s < (lensMotionClaim s p).amount) : claimMotion p (Event.of s) = .marking p [] { s with
      ports := modAt s.ports p PortState.lensWaits
      budget := { s.budget with waitList := [lensMotionClaim s p] } } := by
  have wait : (Event.marking p [] { s with ports := modAt s.ports p PortState.lensWaits }).budget.waitList = [] := hb
  rw [claimMotion_of hs, arrive_waits (by rw [claimWaits, wait]; rfl) (by rw [wait]; exact fun d hd => by cases hd)
    (by exact room_lensWaits.trans_lt large), wait]
  rfl

/-- A STAGED lens whose hold on frames is clear and whose mark is set claims its motion (R140). -/
theorem lensTest_claims {e : Event} (hs : (e.port p).lens.state = .staged) (hl : (e.port p).link.state = .talk)
    (hr : (e.port p).probe = none) (hb : heldBack (e.port p) = false) (hh : holdsFrames (e.port p) = false)
    (hm : (e.port p).lens.stagingMark = true) : lensTest p e = claimMotion p e := by
  unfold lensTest
  dsimp only
  rw [if_pos ⟨hs, hl, by rw [probeRuns, hr]; rfl, hb⟩, hh, if_neg (by decide), if_pos hm]

/-- A lens that is not STAGED, or holds frames outside a gap, is left as it is. -/
theorem lensTest_idle {e : Event} (h : (e.port p).lens.state ≠ .staged ∨ holdsFrames (e.port p) = true ∧ frameGap p e.toState = false) :
    lensTest p e = e := by
  unfold lensTest
  dsimp only
  obtain hs | ⟨hh, hg⟩ := h
  · exact if_neg fun hx => hs hx.1
  · have none : ¬ frameGap p e.toState = true := Bool.eq_false_iff.mp hg
    simp only [hh, none, if_true]
    exact ite_self e

/-- An event of which one task is left to be told. -/
theorem finish_told {t : Task} {x : Event} (hx : perform t (Event.of s) = x) (ha : x.agenda = []) :
    finish { Event.of s with agenda := [t] } = finish x := by
  have worked : drain agendaBound { Event.of s with agenda := [t] } = drain (agendaBound - 1) x := by
    rw [← hx]
    rfl
  rw [finish, finish, worked, drain_empty ha, drain_empty ha]

end

/-! ## The staging timer (R140) -/

/-- A port whose staging mark is set. -/
def PortState.stagingOver (q : PortState) : PortState := { q with lens := { q.lens with stagingAt := none, stagingMark := true } }

section
variable {p : Port} {s : State}

theorem frameGap_modAt (f : PortState → PortState) : frameGap p { s with ports := modAt s.ports p f } = frameGap p s := rfl

theorem exec_stagingTimerExpiry {x : Event} (h : live s = true) (hd : due (s.ports.get p).lens.stagingAt s = true)
    (hx : lensTest p (Event.of { s with ports := modAt s.ports p PortState.stagingOver }) = x) (ha : x.agenda = []) :
    exec (.stagingTimerExpiry p) s = .next (finish x).toState := by
  refine (act_live h).trans (congrArg (fun e => Host.Outcome.next (Event.toState e)) ?_)
  refine Eq.trans ?_ (finish_told (t := .lens p) hx ha)
  exact congrArg finish (if_pos (by exact hd))

theorem stagingTimer_untested (h : live s = true) (hd : due (s.ports.get p).lens.stagingAt s = true)
    (hs : (s.ports.get p).lens.state ≠ .staged ∨ holdsFrames (s.ports.get p) = true ∧ frameGap p s = false) :
    exec (.stagingTimerExpiry p) s = .next { s with ports := modAt s.ports p PortState.stagingOver } := by
  have port : (modAt s.ports p PortState.stagingOver).get p = (s.ports.get p).stagingOver := get_modAt_self ..
  refine (exec_stagingTimerExpiry h hd (lensTest_idle ?_) rfl).trans (congrArg Host.Outcome.next (finish_of _))
  rw [port_of, port]
  exact hs

section
variable (h : live s = true) (hd : due (s.ports.get p).lens.stagingAt s = true) (hs : (s.ports.get p).lens.state = .staged)
  (hh : holdsFrames (s.ports.get p) = false) (hl : (s.ports.get p).link.state = .talk) (hr : (s.ports.get p).probe = none)
  (hw : (s.ports.get p).sweep = none)
include h hd hs hh hl hr hw

theorem stagingTimer_claims {t : State}
    (ht : claimMotion p (Event.of { s with ports := modAt s.ports p PortState.stagingOver }) = .marking p [] t) :
    exec (.stagingTimerExpiry p) s = .next (t.reported [p]) := by
  have port : (modAt s.ports p PortState.stagingOver).get p = (s.ports.get p).stagingOver := get_modAt_self ..
  have tested := lensTest_claims (p := p) (e := Event.of { s with ports := modAt s.ports p PortState.stagingOver })
    (by rw [port_of, port]; exact hs) (by rw [port_of, port]; exact hl) (by rw [port_of, port]; exact hr)
    (by rw [port_of, port, heldBack]; simp [PortState.stagingOver, hw]) (by rw [port_of, port]; exact hh) (by rw [port_of, port]; rfl)
  refine (exec_stagingTimerExpiry h hd (tested.trans ht) rfl).trans (congrArg Host.Outcome.next ?_)
  exact finish_marking (fun _ hx => by cases hx)

theorem stagingTimer_granted (hb : s.budget.waitList = []) (hv : (s.ports.get p).lens.stagedBy = .sheet)
    (fits : (lensMotionClaim s p).amount ≤ room s) :
    exec (.stagingTimerExpiry p) s = .next (State.reported [p] { s with ports := modAt s.ports p fun q => { q with
      power := { q.power with motion := (lensMotionClaim s p).amount }
      link := enqueue (.lensMove q.lens.staged) q.link
      lens := { q.lens with
        state := .moving, staged := Axes.none, stagedBy := .sheet, stagingAt := none, stagingMark := false
        stuckAt := some (s.clock + 3000000)
        move := some { targets := q.lens.staged, server := .sheet, best := false } } } }) := by
  have port : (modAt s.ports p PortState.stagingOver).get p = (s.ports.get p).stagingOver := get_modAt_self ..
  have same : room { s with ports := modAt s.ports p PortState.stagingOver } = room s := room_modAt rfl
  have claim : lensMotionClaim { s with ports := modAt s.ports p PortState.stagingOver } p = lensMotionClaim s p := by
    unfold lensMotionClaim
    dsimp only
    rw [port]
    rfl
  have granted := claimMotion_granted (s := { s with ports := modAt s.ports p PortState.stagingOver }) (p := p)
    (by rw [port]; exact fun hx => by cases hs.symm.trans hx) (by rw [port]; exact hl) hb (by rw [claim, same]; exact fits)
  rw [claim] at granted
  refine (stagingTimer_claims h hd hs hh hl hr hw granted).trans ?_
  dsimp only
  rw [modAt_modAt]
  refine congrArg (fun v => Host.Outcome.next (State.reported [p] { s with ports := v })) (modAt_congr ?_)
  simp only [PortState.moving, PortState.lensWaits, PortState.stagingOver, hv]
  rfl

theorem stagingTimer_waits (hb : s.budget.waitList = []) (large : room s < (lensMotionClaim s p).amount) :
    exec (.stagingTimerExpiry p) s = .next (State.reported [p] { s with
      ports := modAt s.ports p fun q => { q with lens := { q.lens with state := .waitPower, stagingAt := none, stagingMark := true } }
      budget := { s.budget with waitList := [lensMotionClaim s p] } }) := by
  have port : (modAt s.ports p PortState.stagingOver).get p = (s.ports.get p).stagingOver := get_modAt_self ..
  have same : room { s with ports := modAt s.ports p PortState.stagingOver } = room s := room_modAt rfl
  have claim : lensMotionClaim { s with ports := modAt s.ports p PortState.stagingOver } p = lensMotionClaim s p := by
    unfold lensMotionClaim
    dsimp only
    rw [port]
    rfl
  have waits := claimMotion_waits (s := { s with ports := modAt s.ports p PortState.stagingOver }) (p := p)
    (by rw [port]; exact fun hx => by cases hs.symm.trans hx) hb (by rw [claim, same]; exact large)
  rw [claim] at waits
  refine (stagingTimer_claims h hd hs hh hl hr hw waits).trans ?_
  dsimp only
  rw [modAt_modAt]
  rfl

end

/-! ## The stuck timer (R142) -/

/-- A port whose lens is stuck, its motion allotment released. -/
def PortState.stuck (q : PortState) : PortState := { q with
  lens := { q.lens with state := .stuck, stuckAt := none, move := none }, power := { q.power with motion := 0 } }

theorem releaseMotion_of (hb : s.budget.waitList = []) : releaseMotion p (Event.of s) = Event.of { s with
    ports := modAt s.ports p fun q => { q with power := { q.power with motion := 0 } } } := by
  unfold releaseMotion
  split
  · next hz =>
    have kept : (modAt s.ports p fun q => { q with power := { q.power with motion := 0 } }) = s.ports :=
      modAt_self (by
        have zero : (s.ports.get p).power.motion = 0 := hz
        rw [← zero])
    rw [kept]
  · exact walk_none hb

theorem stuckLens_of (hs : (s.ports.get p).lens.state = .moving) (hb : s.budget.waitList = []) (hw : (s.ports.get p).sweep = none) :
    stuckLens p (Event.of s) = handleFault p .lensStuck (.marking p [.moveEnded p] { s with ports := modAt s.ports p PortState.stuck }) := by
  have released : setLens p .stuck (releaseMotion p (modLens p (fun r => { r with stuckAt := none, move := none }) (Event.of s))) =
      .marking p [] { s with ports := modAt s.ports p PortState.stuck } := by
    have moved : modLens p (fun r => { r with stuckAt := none, move := none }) (Event.of s) = Event.of { s with
      ports := modAt s.ports p fun q => { q with lens := { q.lens with stuckAt := none, move := none } } } := rfl
    rw [moved, releaseMotion_of (by exact hb)]
    dsimp only
    rw [modAt_modAt, setLens_of (by rw [get_modAt_self]; dsimp only; rw [hs]; decide)]
    dsimp only
    rw [modAt_modAt]
    rfl
  have unswept : endSweep p .aborted .timeout (.marking p [] { s with ports := modAt s.ports p PortState.stuck }) =
      .marking p [] { s with ports := modAt s.ports p PortState.stuck } := by
    have none : ((modAt s.ports p PortState.stuck).get p).sweep = none := by rw [get_modAt_self]; exact hw
    unfold endSweep
    rw [port_marking, none]
  unfold stuckLens
  dsimp only
  rw [released, unswept]
  rfl

theorem exec_stuckTimerExpiry (h : live s = true) (hs : (s.ports.get p).lens.state = .moving)
    (hd : due (s.ports.get p).lens.stuckAt s = true) (hb : s.budget.waitList = []) (hw : (s.ports.get p).sweep = none)
    (hr : (s.ports.get p).probe = none) : ∃ t, exec (.stuckTimerExpiry p) s = .next t ∧
      (∃ c, t.ports.get p = { (s.ports.get p).stuck with faults := (s.ports.get p).faults.note .lensStuck, reportCount := c }) ∧
      t.faults = FaultUnit.noted p .lensStuck s ∧ (∀ q, q ≠ p → t.ports.get q = s.ports.get q) ∧ t.pool = s.pool := by
  obtain ⟨u, hu⟩ : ∃ u : State, u = { s with ports := modAt s.ports p PortState.stuck } := ⟨_, rfl⟩
  obtain ⟨page, traffic, touched, faulted, only⟩ := handleFault_eq (p := p) (k := .lensStuck) (e := .marking p [.moveEnded p] u) (.inl rfl)
  obtain ⟨x, hx⟩ : ∃ x, x = handleFault p .lensStuck (.marking p [.moveEnded p] u) := ⟨_, rfl⟩
  rw [← hx] at faulted
  have port : ∀ q, x.port q = if q = p then { (s.ports.get p).stuck with faults := (s.ports.get p).faults.note .lensStuck }
      else s.ports.get q := fun q => by
    have moved : x.port q = (modFaults p (PortFaults.note .lensStuck) (.marking p [.moveEnded p] u)).port q := by rw [faulted]; rfl
    rw [moved, modFaults, port_modPort, port_marking, port_marking, hu]
    dsimp only
    rw [get_modAt_self]
    split
    · rfl
    · next hq => exact get_modAt_ne _ _ _ _ hq
  have worked : drain agendaBound x = { x with agenda := [] } := drain_idle (fun t ht y hy => by
    rw [faulted] at ht
    rw [List.mem_singleton.mp ht]
    have quiet : (y.port p).probe = none := by
      rw [Event.port, hy]
      change (x.port p).probe = none
      rw [port, if_pos rfl]
      exact hr
    change drainIfDraining p y = y
    rw [drainIfDraining, quiet]) agendaBound
  have done : exec (.stuckTimerExpiry p) s = .next (finish { x with agenda := [] }).toState := by
    refine (act_live h).trans (congrArg (fun e => Host.Outcome.next (Event.toState e)) ?_)
    have stuck : (if (s.ports.get p).lens.state = .moving ∧ due (s.ports.get p).lens.stuckAt s = true then stuckLens p (Event.of s)
        else Event.of s) = x := by
      rw [if_pos ⟨hs, hd⟩, stuckLens_of hs hb hw, hx, hu]
    refine (congrArg finish stuck).trans ?_
    rw [finish, finish, worked, drain_empty rfl]
  have bare : (finish { x with agenda := [] }).bare = x.bare := bare_finish rfl
  have others : ∀ q, q ≠ p → (finish { x with agenda := [] }).ports.get q = x.port q := fun q hq =>
    finish_other rfl fun hm => by
      have touch : q ∈ touched := by rw [faulted] at hm; exact hm
      exact (only q touch).elim (fun h => hq (List.mem_singleton.mp h)) hq
  generalize (finish { x with agenda := [] }).toState = t at done bare others
  obtain ⟨c, mine⟩ := port_of_bare bare p
  refine ⟨t, done, ⟨c, ?_⟩, ?_, fun q hq => (others q hq).trans ((port q).trans (if_neg hq)), ?_⟩
  · rw [mine]
    change { x.port p with reportCount := c } = _
    rw [port, if_pos rfl]
  · refine (congrArg State.faults bare :).trans ?_
    change x.faults = _
    rw [faulted, hu]
    rfl
  · refine (congrArg State.pool bare :).trans ?_
    change x.pool = _
    rw [faulted, hu]
    rfl

end

/-- Settles O48: the staging timer by the test it tells the lens, the stuck timer by the fault it raises. -/
theorem lensTimers : Obligations.LensTimers := by
  refine ⟨fun p s h amount ha => ⟨fun hd => act_idle (if_neg (by exact Bool.eq_false_iff.mp hd)), fun hd =>
      ⟨fun hs => stagingTimer_untested h hd hs, fun hs hh hl hr hw hv hb => ⟨fun fits => ?_, fun large => ?_⟩⟩⟩,
    fun p s h => ⟨fun hs => act_idle (if_neg ?_), fun hs hd hb hw hr => ?_⟩⟩
  · subst ha
    exact stagingTimer_granted h hd hs hh hl hr hw hb hv fits
  · subst ha
    exact stagingTimer_waits h hd hs hh hl hr hw hb large
  · rintro ⟨moving, isDue⟩
    exact hs.elim (fun hn => hn moving) fun hn => Bool.eq_false_iff.mp hn isDue
  · obtain ⟨t, done, ⟨c, mine⟩, faults, others, pool⟩ := exec_stuckTimerExpiry h hs hd hb hw hr
    refine ⟨t, done, by rw [mine]; rfl, by rw [mine]; rfl, by rw [mine]; rfl, by rw [mine]; rfl, by rw [faults]; rfl, others, pool⟩

end Sys2Proof.Machine

namespace Sys2Proof.Machine

/-! ## The faults of the power timers (R68, R71, R78 to R81, R168) -/

theorem reactionOf_applyAction (k : FaultKind) (p : Port) (a : Action) (e : Event) :
    reactionOf k (applyAction p a e).toState = reactionOf k e.toState := by
  unfold reactionOf
  rw [cell_applyAction]

theorem autoProbeOn_applyAction (p : Port) (a : Action) (e : Event) : autoProbeOn (applyAction p a e).toState = autoProbeOn e.toState := by
  unfold autoProbeOn
  rw [cell_applyAction]

theorem exec_chargeTimeExpiry {p : Port} {s : State} (h : live s = true) (hs : (s.ports.get p).power.state = .inrush)
    (hd : due (s.ports.get p).power.chargeAt s = true) : exec (.chargeTimeExpiry p) s = .next (after (powerFault p .inrushTimeout) s) :=
  (act_live h).trans (congrArg (fun e => Host.Outcome.next (finish e).toState) (if_pos ⟨hs, hd⟩))

theorem exec_limitTimerExpiry {p : Port} {s : State} (h : live s = true) (hs : (s.ports.get p).power.state = .limit)
    (hd : due (s.ports.get p).power.limitAt s = true) : exec (.limitTimerExpiry p) s = .next (after (powerFault p .overload) s) :=
  (act_live h).trans (congrArg (fun e => Host.Outcome.next (finish e).toState) (if_pos ⟨hs, hd⟩))

section
variable {p : Port} {k : FaultKind} {s : State} {x : Event}

/-- The event of a power fault: its action's, and then the fault noted on the port and in the Fault Unit. -/
theorem powerFault_bare (hk : autoProbeOn s = false) (hx : x = applyAction p (reactionOf k s).action (Event.of s))
    (hd : x.agenda = [] ∨ (∀ t ∈ x.agenda, t = .gap p) ∧ (x.port p).lens.state ≠ .staged ∧ (x.port p).probe = none) :
    (after (powerFault p k) s).bare =
      ({ modFaults p (PortFaults.note k) x with faults := FaultUnit.noted p k x.toState } : Event).bare := by
  have unprobed : autoProbeOn x.toState = false := by
    rw [hx, autoProbeOn_applyAction]
    exact hk
  obtain ⟨page, traffic, touched, noted, -⟩ := handleFault_eq (p := p) (k := k) (.inr unprobed)
  have ends : powerFault p k (Event.of s) = handleFault p k x := by subst hx; rfl
  have bare : (powerFault p k (Event.of s)).bare = ({ modFaults p (PortFaults.note k) x with
      faults := FaultUnit.noted p k x.toState } : Event).bare := by
    rw [ends, noted]
    rfl
  have agenda : (powerFault p k (Event.of s)).agenda = x.agenda := by
    rw [ends, noted]
    rfl
  have port : (powerFault p k (Event.of s)).port p = { x.port p with faults := (x.port p).faults.note k } := by
    rw [ends, noted]
    exact get_modAt_self _ _ _
  refine Eq.trans ?_ bare
  rcases hd with none | ⟨told, lens, quiet⟩
  · exact bare_finish (agenda.trans none)
  · refine bare_finish_of_drain (x := { powerFault p k (Event.of s) with agenda := [] }) (drain_gaps (p := p) ?_ ?_ ?_ agendaBound)
    · rw [port]
      exact lens
    · rw [port]
      exact quiet
    · rw [agenda]
      exact told

/-- What a power fault leaves of its port and of the stop latch, by what its action leaves. -/
theorem powerFault_leaves (hk : autoProbeOn s = false) (hx : x = applyAction p (reactionOf k s).action (Event.of s))
    (hd : x.agenda = [] ∨ (∀ t ∈ x.agenda, t = .gap p) ∧ (x.port p).lens.state ≠ .staged ∧ (x.port p).probe = none) :
    (∃ c, (after (powerFault p k) s).ports.get p = { x.port p with faults := (x.port p).faults.note k, reportCount := c }) ∧
    (after (powerFault p k) s).faults.stopLatch = (x.faults.stopLatch || (reactionOf k s).route == .attentionStop) := by
  have shown := powerFault_bare hk hx hd
  constructor
  · obtain ⟨c, mine⟩ := port_of_bare shown p
    exact ⟨c, mine.trans (congrArg (fun q : PortState => { q with reportCount := c }) (get_modAt_self _ _ _))⟩
  · have unit := (congrArg State.faults shown :)
    have route : reactionOf k x.toState = reactionOf k s := by
      rw [hx, reactionOf_applyAction]
      rfl
    exact (congrArg FaultUnit.stopLatch unit).trans (congrArg (fun r : Reaction => x.faults.stopLatch || r.route == .attentionStop) route)

/-- A port after the action of a power fault on it, when it was powered and nothing ran on it. -/
structure Faulted (p : Port) (k : FaultKind) (s t : State) : Prop where
  faults : (t.ports.get p).faults = (s.ports.get p).faults.note k
  stop : t.faults.stopLatch = (s.faults.stopLatch || (reactionOf k s).route == .attentionStop)
  kept : (reactionOf k s).action = .nothing → (t.ports.get p).power = (s.ports.get p).power
  cut : (reactionOf k s).action ≠ .nothing → ∀ w, w = (s.ports.get p).power →
    ∀ goes, goes = actionGoes (reactionOf k s).action w.state w.retry →
    (t.ports.get p).link.state = .dark ∧ (t.ports.get p).power = { ({ w with retry := goes.2 } : PortPower).cut with
      state := goes.1, retryAt := if goes.1 = .retryWait then some (s.clock + 1000000) else w.retryAt }

theorem powerFault_faulted (hk : autoProbeOn s = false) (hb : s.budget.waitList = []) (hp : (s.ports.get p).power.state.powered = true)
    (hr : (s.ports.get p).probe = none) (hs : (s.ports.get p).snap = none) (hw : (s.ports.get p).sweep = none) :
    Faulted p k s (after (powerFault p k) s) := by
  by_cases ha : (reactionOf k s).action = .nothing
  · have same : Event.of s = applyAction p (reactionOf k s).action (Event.of s) := by
      rw [ha]
      rfl
    obtain ⟨⟨c, port⟩, stop⟩ := powerFault_leaves hk same (.inl rfl)
    exact {
      faults := by rw [port]; rfl
      stop := stop
      kept := fun _ => by rw [port]; rfl
      cut := fun acts => absurd ha acts }
  · have acted := actedOn_applyAction (e := Event.of s) ha hp rfl hb hs hr hw
    obtain ⟨x, hx⟩ : ∃ x, x = applyAction p (reactionOf k s).action (Event.of s) := ⟨_, rfl⟩
    rw [← hx] at acted
    obtain ⟨⟨c, port⟩, stop⟩ := powerFault_leaves hk hx (.inr ⟨fun t ht => (acted.spared.tells t ht).resolve_left (by simp),
      by rw [acted.lens]; decide, (acted.spared.probe p).trans hr⟩)
    exact {
      faults := by rw [port]; exact congrArg (PortFaults.note k) acted.faults
      stop := stop.trans (by
        rw [acted.spared.faults]
        rfl)
      kept := fun none => absurd none ha
      cut := fun _ w hw goes hg => by
        subst hw hg
        rw [port]
        exact ⟨acted.link, acted.power⟩ }

end

/-- The event of a power timer is the fault it finds. -/
theorem exec_powerTimer {p : Port} {k : FaultKind} {c : Instr} {s : State} (h : live s = true)
    (hc : (c = .chargeTimeExpiry p ∧ k = .inrushTimeout ∧ (s.ports.get p).power.state = .inrush ∧
        due (s.ports.get p).power.chargeAt s = true) ∨
      (c = .limitTimerExpiry p ∧ k = .overload ∧ (s.ports.get p).power.state = .limit ∧ due (s.ports.get p).power.limitAt s = true)) :
    exec c s = .next (after (powerFault p k) s) ∧ (s.ports.get p).power.state.powered = true := by
  rcases hc with ⟨rfl, rfl, state, timed⟩ | ⟨rfl, rfl, state, timed⟩
  · exact ⟨exec_chargeTimeExpiry h state timed, by rw [state]; decide⟩
  · exact ⟨exec_limitTimerExpiry h state timed, by rw [state]; decide⟩

theorem actionGoes_powered (a : Action) {st : PowerState} (retry : Nat) (h : st.powered = true) : actionGoes a st retry = match a with
    | .nothing => (st, retry)
    | .cut => (.held, retry)
    | .cutLock => (.lockedOut, retry)
    | .cutRetry => (if 3 ≤ retry then .lockedOut else .retryWait, min 4 (retry + 1)) := by
  unfold actionGoes
  cases a <;> cases st <;> simp_all [PowerState.powered]

/-- Settles O34: the action of a power fault is applied and the fault then noted, in the event that finds it. -/
theorem powerFaultActs : Obligations.PowerFaultActs := by
  unfold Obligations.PowerFaultActs
  intro p k c s hlive hwaits hc hprobe hsnap hsweep hauto
  obtain ⟨event, powered⟩ := exec_powerTimer hlive hc
  have left := powerFault_faulted (k := k) hauto hwaits powered hprobe hsnap hsweep
  generalize after (powerFault p k) s = t at event left
  have goes := actionGoes_powered (reactionOf k s).action (s.ports.get p).power.retry powered
  refine ⟨t, event, left.faults, left.kept, fun acts => ?_, fun acts => ?_, fun acts => ?_, fun acts => ?_, fun stops => ?_, fun stops => ?_⟩
  · obtain ⟨link, power⟩ := left.cut acts _ rfl _ rfl
    rw [power]
    exact ⟨rfl, rfl, link⟩
  · obtain ⟨-, power⟩ := left.cut (by rw [acts]; decide) _ rfl _ rfl
    rw [power, goes, acts]
  · obtain ⟨-, power⟩ := left.cut (by rw [acts]; decide) _ rfl _ rfl
    rw [power, goes, acts]
  · obtain ⟨-, power⟩ := left.cut (by rw [acts]; decide) _ rfl _ rfl
    rw [power, goes, acts]
    refine ⟨rfl, fun few => ?_, fun many => if_pos many⟩
    have waits : (if 3 ≤ (s.ports.get p).power.retry then PowerState.lockedOut else .retryWait) = .retryWait :=
      if_neg (Nat.not_le.mpr few)
    exact ⟨waits, if_pos waits⟩
  · rw [left.stop, stops]
    exact Bool.or_true _
  · rw [left.stop, beq_eq_false_iff_ne.mpr stops, Bool.or_false]

end Sys2Proof.Machine

namespace Sys2Proof.Machine

/-! ## The end of a probe (R157) -/

/-- No port but p is marked. -/
def Event.marksOnly (p : Port) (e : Event) : Prop := e.touched = [] ∨ e.touched = [p]

/-- A port whose probe has been reported ended. -/
def PortState.probeOver (job : ProbeJob) (clock : Nat) (q : PortState) : PortState := { q with
  probe := none, queue := q.queue.tail
  faults := match job with
    | .order _ _ | .learn _ => q.faults
    | .auto => { q.faults with cooldownAt := some (clock + 10000000) } }

section
variable {p : Port} {e : Event}

theorem touch_marksOnly (h : e.marksOnly p) : touch p e = .marking p e.agenda e.toState := by
  rcases h with none | one
  · rw [touch_first none]
    rfl
  · rw [touch, if_pos (by rw [one]; exact List.mem_singleton_self p), Event.marking, ← one]

theorem removeHead_marksOnly (h : e.marksOnly p) : removeHead p e = .marking p (e.agenda ++ [.begin p]) { e.toState with
    ports := modAt e.ports p fun q => { q with queue := q.queue.tail } } := by
  rw [removeHead, touch_marksOnly (by exact h)]
  rfl

/-- An order ends at the head of its queue, in an event that marks its port only. -/
theorem endOrder_marksOnly (h : e.marksOnly p) (n : SlotNo) (st : SlotState) (why : Reason) (results : List Byte) :
    ∃ slots page traffic, endOrder p n st why results e = .marking p (e.agenda ++ [.begin p]) { e.toState with
      slots := slots, page := page, traffic := traffic
      ports := modAt e.ports p fun q => { q with queue := q.queue.tail } } ∧
      (slots.get n).state = st ∧ (slots.get n).reason = why ∧ (slots.get n).results = results := by
  obtain ⟨slots, page, traffic, eq⟩ := finishSlot_eq n st why 0 results e
  obtain ⟨c, mine⟩ := get_finishSlot_self n st why 0 results e
  rw [eq] at mine
  refine ⟨slots, page, traffic, ?_, by rw [mine], by rw [mine], by rw [mine]⟩
  rw [endOrder, eq, removeHead_marksOnly (by exact h)]

/-- The probe is reported ended: the order's slot is final, or the cool-down starts; three tasks are told. -/
theorem reportEnd_marksOnly (h : e.marksOnly p) (job : ProbeJob) (st : SlotState) (why : Reason) (results : List Byte) :
    ∃ slots page traffic, reportEnd p job st why results e =
      .marking p (e.agenda ++ [.owed p, .lens p, .begin p]) { e.toState with
        slots := slots, page := page, traffic := traffic
        ports := modAt e.ports p (PortState.probeOver job e.clock) } ∧
      (∀ n, ((∃ asked, job = .order n asked) ∨ job = .learn n) →
        (slots.get n).state = st ∧ (slots.get n).reason = why ∧ (slots.get n).results = results) ∧
      (job = .auto → slots = e.slots) := by
  obtain ⟨x, hx⟩ : ∃ x, x = tell (.lens p) (tell (.owed p) (modPort p (fun q => { q with probe := none }) e)) := ⟨_, rfl⟩
  have only : x.marksOnly p := by rw [hx]; exact h
  have agenda : x.agenda ++ [.begin p] = e.agenda ++ [.owed p, .lens p, .begin p] := by simp [hx]
  have ordered : ∀ n, ∃ slots page traffic, endOrder p n st why results x =
      .marking p (e.agenda ++ [.owed p, .lens p, .begin p]) { e.toState with
        slots := slots, page := page, traffic := traffic
        ports := modAt e.ports p fun q => { q with probe := none, queue := q.queue.tail } } ∧
      (slots.get n).state = st ∧ (slots.get n).reason = why ∧ (slots.get n).results = results := fun n => by
    obtain ⟨slots, page, traffic, eq, state⟩ := endOrder_marksOnly only n st why results
    refine ⟨slots, page, traffic, ?_, state⟩
    have ports : modAt x.ports p (fun q => { q with queue := q.queue.tail }) =
        modAt e.ports p fun q => { q with probe := none, queue := q.queue.tail } := by
      rw [hx]
      simp only [tell, modPort, modAt_modAt]
    rw [eq, agenda, ports, hx]
    rfl
  cases job with
  | order n asked =>
    obtain ⟨slots, page, traffic, eq, state⟩ := ordered n
    refine ⟨slots, page, traffic, ?_, fun m hm => ?_, fun hj => by cases hj⟩
    · rw [reportEnd, ← hx]
      exact eq
    · obtain ⟨_, hm⟩ | hm := hm
      · cases hm; exact state
      · cases hm
  | learn n =>
    obtain ⟨slots, page, traffic, eq, state⟩ := ordered n
    refine ⟨slots, page, traffic, ?_, fun m hm => ?_, fun hj => by cases hj⟩
    · rw [reportEnd, ← hx]
      exact eq
    · obtain ⟨_, hm⟩ | hm := hm
      · cases hm
      · cases hm; exact state
  | auto =>
    refine ⟨e.slots, e.page, e.traffic, ?_, fun m hm => ?_, fun _ => rfl⟩
    · rw [reportEnd, ← hx]
      change removeHead p (startCooldown p x) = _
      have ports : modAt (startCooldown p x).ports p (fun q => { q with queue := q.queue.tail }) =
          modAt e.ports p (PortState.probeOver .auto e.clock) := by
        rw [hx]
        simp only [startCooldown, modFaults, tell, modPort, modAt_modAt]
        rfl
      rw [removeHead_marksOnly (by exact only), startCooldown_agenda, agenda, ports, hx]
      rfl
    · obtain ⟨_, hm⟩ | hm := hm
      · cases hm
      · cases hm

end

/-- A probe without a trace ends whose link is not HUSH. -/
theorem abortProbe_marksOnly {p : Port} {r : ProbeRun} {e : Event} (h : e.marksOnly p) (hr : (e.port p).probe = some r)
    (ht : r.trace = .unasked) (hl : (e.port p).link.state ≠ .hush) (st : SlotState) (why : Reason) :
    ∃ slots page traffic pool free, abortProbe p st why e = .marking p (e.agenda ++ [.owed p, .lens p, .begin p]) { e.toState with
        slots := slots, page := page, traffic := traffic, pool := pool, free := free
        ports := modAt e.ports p (PortState.probeOver r.job e.clock) } ∧
      (∀ n, ((∃ asked, r.job = .order n asked) ∨ r.job = .learn n) → (slots.get n).state = st ∧ (slots.get n).reason = why) ∧
      (r.job = .auto → slots = e.slots) := by
  have unresumed : resume p e = e := if_neg hl
  have untraced : deliverTrace r.trace false e = e := by rw [ht]; rfl
  obtain ⟨x, hx⟩ : ∃ x : Event, x = { e with pool := { e.pool with claims := e.pool.claims.map fun c =>
      if c.port == p && c.requester == .trace then { c with status := .dropped } else c } } := ⟨_, rfl⟩
  obtain ⟨free, hf⟩ := pathField_eq r.path x
  have ends : abortProbe p st why e =
      reportEnd p r.job st why (earlyResults r.job r.trace (pathField r.path x).1) { x with free := free } := by
    unfold abortProbe
    rw [hr]
    dsimp only
    rw [unresumed, untraced, ← hx, hf]
  have only : ({ x with free := free } : Event).marksOnly p := by rw [hx]; exact h
  obtain ⟨slots, page, traffic, eq, final, kept⟩ := reportEnd_marksOnly only r.job st why
    (earlyResults r.job r.trace (pathField r.path x).1)
  refine ⟨slots, page, traffic, x.pool, free, ?_, fun n hn => ?_, fun hj => (kept hj).trans (by rw [hx])⟩
  · rw [ends, eq, hx]
  · obtain ⟨state, reason, -⟩ := final n hn
    exact ⟨state, reason⟩

/-- The tasks that a probe's end tells find nothing to do on a port that owes nothing, holds no other entry and has no lens to be tested. -/
theorem finish_probeOver {p : Port} {job : ProbeJob} {clock : Nat} {q : PortState} {u : State}
    (hu : u.ports.get p = q.probeOver job clock) (ho : q.power.owed = false)
    (hq : q.queue.length ≤ 1) (hl : q.lens.state ≠ .staged ∨ q.link.state ≠ .talk) :
    (finish (.marking p [.owed p, .lens p, .begin p] u)).toState = u.reported [p] := by
  refine finish_marking fun t ht x hx => ?_
  have port : x.port p = q.probeOver job clock := by rw [Event.port, hx, hu]
  simp only [List.mem_cons, List.not_mem_nil, or_false] at ht
  rcases ht with rfl | rfl | rfl
  · exact perform_owed_idle (by rw [port]; exact ho)
  · refine if_neg fun test => ?_
    rw [port] at test
    exact hl.elim (fun hs => hs test.1) fun hn => hn test.2.1
  · refine perform_begin_idle ?_
    rw [port]
    exact List.length_eq_zero_iff.mp (List.length_tail.trans (by omega))

/-! ### The ready limit (R154) -/

section
variable {p : Port} {r : ProbeRun} {s : State}

theorem exec_probeReadyTimeout_early (hr : (s.ports.get p).probe = some r) (hd : due r.readyBy s = false) :
    exec (.probeReadyTimeout p) s = .next s := by
  refine act_idle ?_
  rw [port_of, hr]
  exact if_neg (Bool.eq_false_iff.mp hd)

theorem exec_probeReadyTimeout (h : live s = true) (hr : (s.ports.get p).probe = some r) (hd : due r.readyBy s = true)
    (hl : (s.ports.get p).link.state ≠ .hush) (ho : (s.ports.get p).power.owed = false) (hs : (s.ports.get p).lens.state ≠ .staged)
    (ht : r.trace = .unasked) (hq : (s.ports.get p).queue.length ≤ 1) : ∃ t, exec (.probeReadyTimeout p) s = .next t ∧
      (∃ c, t.ports.get p = { (s.ports.get p).probeOver r.job s.clock with reportCount := c }) ∧ t.faults = s.faults ∧
      (∀ n, ((∃ asked, r.job = .order n asked) ∨ r.job = .learn n) →
        (t.slots.get n).state = .aborted ∧ (t.slots.get n).reason = .timeout) ∧
      (r.job = .auto → t.slots = s.slots) := by
  obtain ⟨slots, page, traffic, pool, free, eq, final, kept⟩ :=
    abortProbe_marksOnly (e := Event.of s) (.inl rfl) hr ht hl .aborted .timeout
  obtain ⟨u, hu⟩ : ∃ u : State, u = { s with
      slots := slots, page := page, traffic := traffic, pool := pool, free := free
      ports := modAt s.ports p (PortState.probeOver r.job s.clock) } := ⟨_, rfl⟩
  have ended : abortProbe p .aborted .timeout (Event.of s) = .marking p [.owed p, .lens p, .begin p] u := by
    rw [eq, hu]
    rfl
  have event : exec (.probeReadyTimeout p) s = .next (u.reported [p]) := by
    refine (act_live h).trans (congrArg Host.Outcome.next ?_)
    unfold after
    dsimp only
    rw [port_of, hr]
    dsimp only
    rw [if_pos (by exact hd), ended]
    exact finish_probeOver (by rw [hu]; exact get_modAt_self ..) ho hq (.inl hs)
  obtain ⟨count, flags, shown, reported⟩ := reported_eq p u
  refine ⟨_, event, ⟨count, ?_⟩, ?_, fun n hn => ?_, fun hj => ?_⟩
  · rw [reported, hu]
    dsimp only
    rw [get_modAt_self, get_modAt_self]
  · rw [reported, hu]
  · rw [reported, hu]
    exact final n hn
  · rw [reported, hu]
    exact kept hj

end

end Sys2Proof.Machine

namespace Sys2Proof.Machine

/-! ## A completed probe's findings (R163, R176 to R180) -/

theorem attend_eq (bits : BitVec 14) (e : Event) : ∃ page traffic, attend bits e = { e with page := page, traffic := traffic } := by
  unfold attend
  split
  · rw [raiseFlags_eq]
    exact ⟨_, _, rfl⟩
  · exact ⟨e.page, e.traffic, rfl⟩

theorem writeMirror_eq (n : Fin 16) (e : Event) : ∃ page traffic, writeMirror n e = { e with page := page, traffic := traffic } := by
  unfold writeMirror
  split
  · exact ⟨_, _, rfl⟩
  · exact ⟨e.page, e.traffic, rfl⟩

theorem forNumbers_writeMirror_eq (ns : List (Fin 16)) : ∀ e : Event, ∃ page traffic,
    forNumbers ns writeMirror e = { e with page := page, traffic := traffic } := by
  induction ns with
  | nil => exact fun e => ⟨e.page, e.traffic, rfl⟩
  | cons n ns ih =>
    intro e
    obtain ⟨page, traffic, one⟩ := writeMirror_eq n e
    obtain ⟨page', traffic', rest⟩ := ih (writeMirror n e)
    refine ⟨page', traffic', ?_⟩
    change forNumbers ns writeMirror (writeMirror n e) = _
    rw [rest, one]

/-- Taking an updated log changes the page and the Fault Unit's log (R180). -/
theorem takeLog_eq (g : LogEvent) (e : Event) : ∃ page traffic faults, takeLog g e =
    { e with page := page, traffic := traffic, faults := faults } ∧ faults.log = g.log := by
  obtain ⟨page, traffic, mirrored⟩ := forNumbers_writeMirror_eq (allNumbers.filter fun n => g.changed.contains n.val)
    { e with faults := { e.faults with log := g.log } }
  obtain ⟨page', traffic', signalled⟩ : ∃ page traffic, (if g.changed.isEmpty then
      forNumbers (allNumbers.filter fun n => g.changed.contains n.val) writeMirror { e with faults := { e.faults with log := g.log } }
    else attend flagBreaks (forNumbers (allNumbers.filter fun n => g.changed.contains n.val) writeMirror
      { e with faults := { e.faults with log := g.log } })) =
      { e with page := page, traffic := traffic, faults := { e.faults with log := g.log } } := by
    rw [mirrored]
    split
    · exact ⟨_, _, rfl⟩
    · obtain ⟨page', traffic', attended⟩ := attend_eq flagBreaks
        { e with page := page, traffic := traffic, faults := { e.faults with log := g.log } }
      exact ⟨page', traffic', attended⟩
  unfold takeLog
  dsimp only
  rw [signalled]
  split
  · exact ⟨_, _, _, rfl, rfl⟩
  · obtain ⟨page'', traffic'', written⟩ := writeHeader_eq { e with
      page := page', traffic := traffic'
      faults := { e.faults with log := g.log, logFull := e.faults.logFull + BitVec.ofNat 32 g.unrecorded } }
    exact ⟨page'', traffic'', _, written, rfl⟩

section
variable {p : Port} {e : Event}

/-- A fault that starts no probe marks its own port only. -/
theorem handleFault_marksOnly {k : FaultKind} (h : e.marksOnly p) (hk : k.probes = false) : (handleFault p k e).marksOnly p := by
  have touched : ∀ x : Event, x.marksOnly p → (touch p x).marksOnly p := fun x hx => by
    rw [touch_marksOnly hx]
    exact .inr rfl
  have routed : ∀ (r : Route) (x : Event), x.marksOnly p → (routeFault r p x).marksOnly p := fun r x hx => by
    cases r with
    | nothing => exact hx
    | attention => exact touched x hx
    | attentionStop =>
      obtain ⟨page, traffic, stopped⟩ := setStop_eq (touch p x)
      rw [routeFault, stopped]
      exact touched x hx
  obtain ⟨marks, posted, how⟩ := handleFault_posts p k e
  have noted : ({ postFault p k e with touched := marks } : Event).marksOnly p := by
    rcases how with same | marked
    · rw [same]
      exact h
    · exact (touched e h).imp marked.trans marked.trans
  rw [posted, posted_unprobed (.inl hk)]
  exact routed _ _ noted

/-- One kind raised a number of times, none of them considered for auto-probe: it is noted so often (R178). -/
theorem raiseEach_eq {k : FaultKind} (hk : k.probes = false) (n : Nat) : ∀ {e : Event}, e.marksOnly p → ∃ page traffic faults touched,
    raiseEach p k n e = { modFaults p (PortFaults.note k)^[n] e with
      page := page, traffic := traffic, faults := faults, touched := touched } ∧
    faults.log = e.faults.log ∧ (raiseEach p k n e).marksOnly p := by
  induction n with
  | zero =>
    intro e h
    have same : modFaults p (PortFaults.note k)^[0] e = e := modPort_self rfl
    exact ⟨e.page, e.traffic, e.faults, e.touched, by rw [same]; rfl, rfl, h⟩
  | succ n ih =>
    intro e h
    obtain ⟨page, traffic, touched, noted, -⟩ := handleFault_eq (p := p) (e := e) (.inl hk)
    obtain ⟨page', traffic', faults, touched', rest, log, only⟩ := ih (handleFault_marksOnly h hk)
    refine ⟨page', traffic', faults, touched', ?_, log.trans (by rw [noted]; rfl), only⟩
    rw [raiseEach, rest, noted]
    simp only [modFaults, modPort, modAt_modAt, Function.iterate_succ_apply]

/-- A kind noted n times is counted n times, up to 255. -/
theorem counts_note_iterate (k : FaultKind) (n : Nat) (f : PortFaults) : ((PortFaults.note k)^[n] f).counts =
    modAt f.counts k.index fun c => if n = 0 then c else min 255 (c + n) := by
  induction n generalizing f with
  | zero => exact (modAt_self rfl).symm
  | succ n ih =>
    have counted : (f.note k).counts = modAt f.counts k.index fun c => min 255 (c + 1) := rfl
    rw [Function.iterate_succ_apply, ih, counted]
    refine (modAt_modAt f.counts k.index _ _).trans (congrArg (modAt f.counts k.index) (funext fun c => ?_))
    split
    · next hn => simp [hn]
    · rw [if_neg (Nat.succ_ne_zero n)]
      omega

end

end Sys2Proof.Machine

namespace Sys2Proof.Machine

/-! ## The end of a probe's pulsing (R157, R163, R172) -/

/-- A port whose probe has found n breaks that are new. -/
def PortState.broken (n : Nat) (q : PortState) : PortState := { q with faults := (PortFaults.note .breakFound)^[n] q.faults }

/-- What a completed probe's findings make of the break log. -/
def findingsOf (p : Port) (r : ProbeRun) (echoes : List Echo) (s : State) : LogEvent :=
  probeUpdate p (cellTime s) s.trigger.motion (!r.baseline.isEmpty) r.length.isSome (judgeEchoes r echoes).1 s.faults.log

/-- The results of a probe that has asked for no trace, or was given none. -/
def resultsOf (p : Port) (r : ProbeRun) (asked : Bool) (echoes : List Echo) (s : State) : List Byte :=
  probeResults r.velocity echoes ((judgeEchoes r echoes).1.zip (findingsOf p r echoes s).answers) none asked
    (r.baseline.isEmpty && r.length.isNone) (match r.path with | some x => x.code | none => 0) r.velocity (judgeEchoes r echoes).2

section
variable {p : Port} {r : ProbeRun} {echoes : List Echo} {e : Event}

/-- Its findings are logged, and BREAK_FOUND counted once for each new record. -/
theorem completeProbe_eq (h : e.marksOnly p) (ht : r.trace = .unasked) (asked : Bool) : ∃ page traffic faults touched,
    completeProbe p r asked echoes e = (resultsOf p r asked echoes e.toState,
      { modPort p (PortState.broken (findingsOf p r echoes e.toState).made.length) e with
        page := page, traffic := traffic, faults := faults, touched := touched }) ∧
    faults.log = (findingsOf p r echoes e.toState).log ∧ (completeProbe p r asked echoes e).2.marksOnly p := by
  obtain ⟨g, hg⟩ : ∃ g, g = findingsOf p r echoes e.toState := ⟨_, rfl⟩
  obtain ⟨page, traffic, faults, taken, log⟩ := takeLog_eq g e
  have only : (takeLog g e).marksOnly p := by rw [taken]; exact h
  obtain ⟨page', traffic', faults', touched, raised, log', only'⟩ := raiseEach_eq (k := .breakFound) rfl g.made.length only
  have fields : completeProbe p r asked echoes e = (probeResults r.velocity echoes ((judgeEchoes r echoes).1.zip g.answers)
      r.trace.buffer (asked && r.trace.buffer.isNone) (!r.hasReference) (match r.path with | some x => x.code | none => 0)
      r.velocity (judgeEchoes r echoes).2, raiseEach p .breakFound g.made.length (takeLog g e)) := by
    rw [hg]
    rfl
  have untraced : r.trace.buffer = none := by rw [ht]; rfl
  have unreferred : (!r.hasReference) = (r.baseline.isEmpty && r.length.isNone) := by
    rw [ProbeRun.hasReference]
    cases r.baseline.isEmpty <;> cases r.length <;> rfl
  refine ⟨page', traffic', faults', touched, ?_, ?_, by rw [fields]; exact only'⟩
  · rw [fields, raised, taken, untraced, unreferred, Option.isNone_none, Bool.and_true, hg]
    rfl
  · rw [log', taken, ← hg]
    exact log

/-- A PROBE or internal probe is reported ended behind its findings. -/
theorem finishProbe_marksOnly {x : Event} (hx : resume p e = x) (h : x.marksOnly p) (ht : r.trace = .unasked)
    (hj : ∀ n, r.job ≠ .learn n) : ∃ slots page traffic faults,
      finishProbe p r [echoes] e = .marking p (x.agenda ++ [.owed p, .lens p, .begin p]) { x.toState with
        slots := slots, page := page, traffic := traffic, faults := faults
        ports := modAt x.ports p fun q =>
          (q.broken (findingsOf p r echoes x.toState).made.length).probeOver r.job x.clock } ∧
      faults.log = (findingsOf p r echoes x.toState).log ∧
      (∀ n asked, r.job = .order n asked → (slots.get n).state = .done ∧ (slots.get n).results = resultsOf p r asked echoes x.toState) ∧
      (r.job = .auto → slots = x.slots) := by
  have untraced : deliverTrace r.trace true (resume p e) = x := by rw [ht]; exact hx
  obtain ⟨asked, hasked⟩ : ∃ asked, asked = match r.job with
      | .order _ asked => asked
      | .learn _ | .auto => false := ⟨_, rfl⟩
  obtain ⟨page, traffic, faults, touched, completed, log, only⟩ := completeProbe_eq (echoes := echoes) h ht asked
  obtain ⟨slots, page', traffic', ended, final, kept⟩ := reportEnd_marksOnly only r.job .done .none (resultsOf p r asked echoes x.toState)
  have steps : finishProbe p r [echoes] e =
      reportEnd p r.job .done .none (resultsOf p r asked echoes x.toState) (completeProbe p r asked echoes x).2 := by
    rw [completed]
    unfold finishProbe
    rw [untraced]
    cases job : r.job with
    | order n given =>
      rw [job] at hasked
      subst hasked
      dsimp only [List.headD]
      rw [completed]
    | learn n => exact absurd job (hj n)
    | auto =>
      rw [job] at hasked
      subst hasked
      dsimp only [List.headD]
      rw [completed]
  refine ⟨slots, page', traffic', faults, ?_, log, fun n given job => ?_, fun job => ?_⟩
  · rw [steps, ended, completed]
    simp only [modPort, modAt_modAt]
  · obtain ⟨state, -, results⟩ := final n (.inl ⟨given, job⟩)
    rw [job] at hasked
    subst hasked
    exact ⟨state, results⟩
  · rw [kept job, completed]
    rfl

end

end Sys2Proof.Machine

namespace Sys2Proof.Machine

section
variable {p : Port} {r : ProbeRun} {samples : Vector (List Int) 16} {s : State}

/-- The one set of a PROBE or internal probe completes it (R156). -/
theorem exec_pulseSetEnd_completes (h : live s = true) (hr : (s.ports.get p).probe = some r) (hf : r.phase = .pulsing)
    (hj : ∀ n, r.job ≠ .learn n) (ht : r.trace = .unasked) : exec (.pulseSetEnd p samples) s =
      .next (finish (finishProbe p r [echoesOf r.echoThreshold (averaged r.window samples.toList)] (Event.of s))).toState := by
  have written : ∀ a, writeTrace r a (Event.of s) = Event.of s := fun a => by
    rw [writeTrace, ht]
    rfl
  have taken : ∀ echoes, takeSet p r echoes (Event.of s) = finishProbe p r [echoes] (Event.of s) := fun echoes => by
    unfold takeSet
    cases job : r.job with
    | order n asked => rfl
    | learn n => exact absurd job (hj n)
    | auto => rfl
  refine (act_live h).trans (congrArg Host.Outcome.next ?_)
  unfold after
  dsimp only
  rw [port_of, hr]
  dsimp only
  rw [if_pos hf, written, taken]

/-- On the dark path it ends in the same event, its findings logged. -/
theorem exec_pulseSetEnd_dark (h : live s = true) (hr : (s.ports.get p).probe = some r) (hf : r.phase = .pulsing)
    (hj : ∀ n, r.job ≠ .learn n) (ht : r.trace = .unasked) (hq : (s.ports.get p).queue.length ≤ 1)
    (hl : (s.ports.get p).link.state = .dark) (ho : (s.ports.get p).power.owed = false)
    {echoes : List Echo} (he : echoes = echoesOf r.echoThreshold (averaged r.window samples.toList)) :
    ∃ t, exec (.pulseSetEnd p samples) s = .next t ∧ t.faults.log = (findingsOf p r echoes s).log ∧
      (∃ c, t.ports.get p = { ((s.ports.get p).broken (findingsOf p r echoes s).made.length).probeOver r.job s.clock with
        reportCount := c }) ∧
      (∀ n asked, r.job = .order n asked → (t.slots.get n).state = .done ∧ (t.slots.get n).results = resultsOf p r asked echoes s) ∧
      (r.job = .auto → t.slots = s.slots) := by
  have unresumed : resume p (Event.of s) = Event.of s := if_neg (by rw [port_of, hl]; decide)
  obtain ⟨slots, page, traffic, faults, eq, log, final, kept⟩ := finishProbe_marksOnly (echoes := echoes) unresumed (.inl rfl) ht hj
  obtain ⟨u, hu⟩ : ∃ u : State, u = { s with
      slots := slots, page := page, traffic := traffic, faults := faults
      ports := modAt s.ports p fun q => (q.broken (findingsOf p r echoes s).made.length).probeOver r.job s.clock } := ⟨_, rfl⟩
  have ended : finishProbe p r [echoes] (Event.of s) = .marking p [.owed p, .lens p, .begin p] u := by
    rw [eq, hu]
    rfl
  have event : exec (.pulseSetEnd p samples) s = .next (u.reported [p]) := by
    rw [exec_pulseSetEnd_completes h hr hf hj ht, ← he, ended]
    refine congrArg Host.Outcome.next (finish_probeOver (job := r.job) (clock := s.clock)
      (q := (s.ports.get p).broken (findingsOf p r echoes s).made.length) ?_ ho hq (.inr (by rw [PortState.broken, hl]; decide)))
    rw [hu]
    exact get_modAt_self ..
  obtain ⟨count, flags, shown, reported⟩ := reported_eq p u
  refine ⟨_, event, ?_, ⟨count, ?_⟩, fun n asked hn => ?_, fun auto => ?_⟩
  · rw [reported, hu]
    exact log
  · rw [reported, hu]
    dsimp only
    rw [get_modAt_self, get_modAt_self]
  · rw [reported, hu]
    exact final n asked hn
  · rw [reported, hu]
    exact kept auto

end

/-! ### The end of a probe that hushed its link (R74, R77, R97, R140, R157) -/

theorem enqueue_idle {l : PortLink} (k : Packet) (h : l.sending = none) : enqueue k l = { l with sending := some k } := by
  unfold enqueue
  rw [h]

theorem enqueue_busy {l : PortLink} {j : Packet} (k : Packet) (h : l.sending = some j) :
    enqueue k l = { l with waiting := l.waiting ++ [k] } := by
  unfold enqueue
  rw [h]

/-- A port whose link has been resumed, with neither SETUP nor SLEEP owed. -/
def PortState.resumed (clock : Nat) (q : PortState) : PortState := { q with link := { q.link with
  state := .talk, sending := some .resume, silenceAt := some (clock + 100000), motionWindow := 0, restWindow := 0
  owedSetup := false, owedSleep := false } }

section
variable {p : Port} {r : ProbeRun} {s : State}

theorem modPort_of (f : PortState → PortState) : modPort p f (Event.of s) = Event.of { s with ports := modAt s.ports p f } := rfl

/-- The link of a probe that holds it in HUSH is resumed; a change of power that is owed stays owed (R77, R97). -/
theorem resume_of (hl : (s.ports.get p).link.state = .hush) (hr : (s.ports.get p).probe = some r)
    (hs : (s.ports.get p).link.sending = none) (hsetup : (s.ports.get p).link.owedSetup = false)
    (hsleep : (s.ports.get p).link.owedSleep = false) (ho : (s.ports.get p).power.owed = true) :
    resume p (Event.of s) = .marking p [.probe p] { s with ports := modAt s.ports p (PortState.resumed s.clock) } := by
  obtain ⟨u, hu⟩ : ∃ u : State, u = { s with ports := modAt s.ports p fun q => { q.resumed s.clock with
      link := { (q.resumed s.clock).link with state := q.link.state } } } := ⟨_, rfl⟩
  have port : u.ports.get p = { (s.ports.get p).resumed s.clock with
      link := { ((s.ports.get p).resumed s.clock).link with state := (s.ports.get p).link.state } } := by
    rw [hu]
    exact get_modAt_self ..
  have sent : modLink p (enqueue .resume) (modLink p (fun x => { x with
      silenceAt := timer Config.silenceTime (Event.of s), motionWindow := 0, restWindow := 0, owedSetup := false,
      owedSleep := false }) (Event.of s)) = Event.of u := by
    simp only [modLink, modPort, modAt_modAt]
    rw [hu]
    refine congrArg (fun v => Event.of { s with ports := v }) (modAt_congr ?_)
    rw [enqueue_idle .resume (by exact hs)]
    rfl
  have owing : (if (s.ports.get p).power.state = .on ∧ wantOf (s.ports.get p) = .standby then
      modPower p (fun w => { w with owed := true }) (Event.of u) else Event.of u) = Event.of u := by
    split
    · refine modPort_self ?_
      have same : ({ (s.ports.get p).power with owed := true } : PortPower) = (s.ports.get p).power := by rw [← ho]
      rw [port_of, port]
      exact congrArg (fun w => { (s.ports.get p).resumed s.clock with
        power := w, link := { ((s.ports.get p).resumed s.clock).link with state := (s.ports.get p).link.state } }) same
    · rfl
  unfold resume
  dsimp only
  rw [if_pos (by exact hl)]
  simp only [port_of, hsetup, hsleep, Bool.false_eq_true, if_false, List.append_nil, List.foldl_nil]
  refine Eq.trans (congrArg (setLink p .talk) (Eq.trans ?_ owing)) ?_
  · exact sent.symm ▸ rfl
  · have moved : modLink p (fun l => { l with state := .talk }) (Event.of u) = Event.of { s with
        ports := modAt s.ports p (PortState.resumed s.clock) } := by
      rw [hu, modLink, modPort_of]
      dsimp only
      rw [modAt_modAt]
      rfl
    unfold setLink
    rw [if_neg (by rw [port_of, port, hl]; decide), moved, touch_first rfl]
    have runs : ((modAt s.ports p (PortState.resumed s.clock)).get p).probe = some r := by rw [get_modAt_self]; exact hr
    exact if_pos (by exact Option.isSome_iff_exists.mpr ⟨r, runs⟩)

end

end Sys2Proof.Machine

namespace Sys2Proof.Machine

/-! ## Standby and lens moves behind other tasks of an event (R63, R74, R140, R141) -/

/-- The room of two states with one budget, whose ports hold the same (R61). -/
theorem room_congr {s t : State} (hb : s.budget = t.budget) (h : ∀ q, (s.ports.get q).power.held = (t.ports.get q).power.held) :
    room s = room t := by
  rw [room, room, allotted_eq_sum, allotted_eq_sum, hb, Finset.sum_congr rfl fun q _ => h q]

/-- The allotment reads the port's cable and the sheet copy (R60). -/
theorem allotment_congr {s t : State} {p : Port} (power : Nat) (hc : (s.ports.get p).cable = (t.ports.get p).cable)
    (hs : s.cell = t.cell) : allotment p power s = allotment p power t := by
  unfold allotment loopOf
  rw [hc, hs]

/-- A port that has entered STANDBY. -/
def PortState.stoodBy (base : Nat) (q : PortState) : PortState := { q with
  power := { q.power with state := .standby, base := base }, link := enqueue .sleep q.link }

section
variable {p : Port} {ts : List Task} {s : State}

/-- SLEEP, the standby allotment and the state; then a walk (R74). -/
theorem enterStandby_marking (hr : (s.ports.get p).probe = none) (hl : (s.ports.get p).link.state = .talk) :
    enterStandby p (.marking p ts s) = walk (.marking p ts { s with
      ports := modAt s.ports p (PortState.stoodBy (min (allotment p (standbyPower (s.ports.get p)) s) (s.ports.get p).power.full)) }) := by
  obtain ⟨a, ha⟩ : ∃ a, a = allotment p (standbyPower (s.ports.get p)) s := ⟨_, rfl⟩
  have entered : enterStandby p (.marking p ts s) =
      walk (setPower p .standby (modPower p (fun w => { w with base := min a w.full }) (give p .sleep (.marking p ts s)))) := by
    rw [ha]
    rfl
  rw [entered, ← ha, give_marking (by exact hl), modPower, modPort_marking]
  dsimp only
  rw [modAt_modAt, setPower_marking (by rw [get_modAt_self]; exact hr)]
  dsimp only
  rw [modAt_modAt]
  clear ha entered
  exact congrArg (fun v => walk (.marking p ts { s with ports := v })) (modAt_congr rfl)

theorem tryStandby_marking (hs : (s.ports.get p).power.state = .on) (hw : wantOf (s.ports.get p) = .standby)
    (hr : (s.ports.get p).probe = none) (hl : (s.ports.get p).link.state = .talk) :
    tryStandby p (.marking p ts s) = enterStandby p (.marking p ts s) := by
  unfold tryStandby
  dsimp only
  rw [port_marking, if_pos ⟨hs, hl, hw⟩, probeRuns, port_marking, hr]
  rfl

/-- A change of power that is owed to a want of STANDBY (R77). -/
theorem actOnOwed_standby (ho : (s.ports.get p).power.owed = true) (hs : (s.ports.get p).power.state = .on)
    (hw : wantOf (s.ports.get p) = .standby) (hr : (s.ports.get p).probe = none) (hl : (s.ports.get p).link.state = .talk)
    (hb : s.budget.waitList = []) {base : Nat}
    (hbase : base = min (allotment p (standbyPower (s.ports.get p)) s) (s.ports.get p).power.full) :
    perform (.owed p) (.marking p ts s) = .marking p ts { s with
      ports := modAt s.ports p fun q => PortState.stoodBy base { q with power := { q.power with owed := false } } } := by
  obtain ⟨u, hu⟩ : ∃ u : State, u = { s with
      ports := modAt s.ports p fun q => { q with power := { q.power with owed := false } } } := ⟨_, rfl⟩
  have port : u.ports.get p = { s.ports.get p with power := { (s.ports.get p).power with owed := false } } := by
    rw [hu]
    exact get_modAt_self ..
  have wants : actOnWant p (.marking p ts u) = tryStandby p (.marking p ts u) := by
    have on : (u.ports.get p).power.state = .on := by rw [port]; exact hs
    have want : wantOf (u.ports.get p) = .standby := by rw [port]; exact hw
    unfold actOnWant
    dsimp only
    rw [port_marking, on, want]
  have owed : perform (.owed p) (.marking p ts s) = actOnWant p (.marking p ts u) := by
    rw [hu]
    exact if_pos ho
  have entered := enterStandby_marking (ts := ts) (s := u) (p := p) (by rw [port]; exact hr) (by rw [port]; exact hl)
  have same : min (allotment p (standbyPower (u.ports.get p)) u) (u.ports.get p).power.full = base := by
    have cable : (u.ports.get p).cable = (s.ports.get p).cable := by rw [port]
    rw [allotment_congr _ cable (by rw [hu]), port, hbase]
    rfl
  rw [owed, wants, tryStandby_marking (by rw [port]; exact hs) (by rw [port]; exact hw) (by rw [port]; exact hr)
    (by rw [port]; exact hl), entered, same, walk_none (by rw [hu]; exact hb), hu]
  dsimp only
  rw [modAt_modAt]

/-! ### A lens move -/

theorem claimMotion_marking_granted (hs : (s.ports.get p).lens.state ≠ .waitPower) (hl : (s.ports.get p).link.state = .talk)
    (hb : s.budget.waitList = []) (fits : (lensMotionClaim s p).amount ≤ room s) : claimMotion p (.marking p ts s) =
      .marking p ts { s with ports := modAt s.ports p fun q => q.lensWaits.moving (lensMotionClaim s p).amount s.clock } := by
  have waits : (modAt s.ports p PortState.lensWaits).get p = (s.ports.get p).lensWaits := get_modAt_self ..
  have claimed : claimMotion p (.marking p ts s) =
      arrive (lensMotionClaim s p) (.marking p ts { s with ports := modAt s.ports p PortState.lensWaits }) := by
    rw [claimMotion, lensClaim_eq, setLens_marking hs]
    rfl
  rw [claimed, arrive_alone hb (by exact fits.trans_eq room_lensWaits.symm)]
  refine (grant_marking_lens (p := p) (d := lensMotionClaim s p) rfl rfl (by rw [waits]; exact hl) (by rw [waits]; rfl)).trans ?_
  dsimp only
  rw [modAt_modAt]

/-- A claim that stands for the walk of its arrival only, and is granted in it. -/
theorem claimOnce_marking_granted (hl : (s.ports.get p).link.state = .talk)
    (hb : s.budget.waitList = []) (fits : (lensMotionClaim s p).amount ≤ room s) : claimOnce p (.marking p ts s) =
      .marking p ts { s with ports := modAt s.ports p fun q => q.lensWaits.moving (lensMotionClaim s p).amount s.clock } := by
  have waits : (modAt s.ports p PortState.lensWaits).get p = (s.ports.get p).lensWaits := get_modAt_self ..
  have granted : arrive (lensClaim p (.marking p ts s)) (modLens p (fun r => { r with state := .waitPower }) (.marking p ts s)) =
      .marking p ts { s with ports := modAt s.ports p fun q => q.lensWaits.moving (lensMotionClaim s p).amount s.clock } := by
    rw [lensClaim_eq]
    refine (arrive_alone hb (by exact fits.trans_eq room_lensWaits.symm)).trans ?_
    refine (grant_marking_lens (p := p) (d := lensMotionClaim s p) (s := { s with ports := modAt s.ports p PortState.lensWaits })
      rfl rfl (by rw [waits]; exact hl) (by rw [waits]; rfl)).trans ?_
    dsimp only
    rw [modAt_modAt]
    rfl
  unfold claimOnce
  dsimp only
  rw [granted]
  refine if_neg ?_
  rw [port_marking, get_modAt_self]
  exact fun hx => by cases hx

/-- A STAGED lens that holds no frames, tested in a gap, moves at once when its claim fits (R140). -/
theorem lensTest_marking_granted (hs : (s.ports.get p).lens.state = .staged) (hl : (s.ports.get p).link.state = .talk)
    (hr : (s.ports.get p).probe = none) (hw : (s.ports.get p).sweep = none) (hh : holdsFrames (s.ports.get p) = false)
    (hg : frameGap p s = true) (hb : s.budget.waitList = []) (fits : (lensMotionClaim s p).amount ≤ room s) :
    perform (.lens p) (.marking p ts s) = .marking p ts { s with
      ports := modAt s.ports p fun q => q.lensWaits.moving (lensMotionClaim s p).amount s.clock } := by
  have unheld : heldBack (s.ports.get p) = false := by rw [heldBack, hw]; rfl
  change lensTest p (.marking p ts s) = _
  unfold lensTest
  dsimp only
  rw [port_marking, if_pos ⟨hs, hl, by rw [probeRuns, port_marking, hr]; rfl, unheld⟩, hh, if_neg (by decide)]
  split
  · exact claimMotion_marking_granted (by rw [hs]; decide) hl hb fits
  · exact (if_pos hg).trans (claimOnce_marking_granted hl hb fits)

theorem finish_of_drained {e : Event} (h : drain agendaBound e = .marking p [] s) : (finish e).toState = s.reported [p] := by
  rw [← finish_marking (p := p) (ts := []) (s := s) (fun _ ht => by cases ht), finish, h, finish, drain_empty rfl]
  rfl

end

end Sys2Proof.Machine

namespace Sys2Proof.Machine

/-! ## The end of a probe that hushed its link (R74, R77, R97, R140, R157) -/

/-- A port whose hushed probe has ended with n new breaks. -/
def PortState.unhushed (n clock : Nat) (job : ProbeJob) (q : PortState) : PortState := ((q.resumed clock).broken n).probeOver job clock

section
variable {p : Port} {r : ProbeRun} {s : State}

theorem drain_step {n : Nat} {t : Task} {ts : List Task} {u : State} {x : Event} (h : perform t (.marking p ts u) = x) :
    drain (n + 1) (.marking p (t :: ts) u) = drain n x := by
  rw [← h]
  rfl

theorem perform_probe_idle {e : Event} (h : (e.port p).probe = none) : perform (.probe p) e = e := by
  change advanceProbe p e = e
  rw [advanceProbe, h]

/-- The owed change is made, and the lens then tested in the room it leaves; both are granted at once. -/
theorem drain_unhushed {base amount : Nat} {u : State} (ho : (u.ports.get p).power.owed = true)
    (hs : (u.ports.get p).power.state = .on) (hw : wantOf (u.ports.get p) = .standby) (hr : (u.ports.get p).probe = none)
    (hl : (u.ports.get p).link.state = .talk) (hq : (u.ports.get p).queue = []) (hlens : (u.ports.get p).lens.state = .staged)
    (hsweep : (u.ports.get p).sweep = none) (hh : holdsFrames (u.ports.get p) = false) (hg : frameGap p u = true)
    (hb : u.budget.waitList = []) (hbase : base = min (allotment p (standbyPower (u.ports.get p)) u) (u.ports.get p).power.full)
    (hamount : amount = (lensMotionClaim u p).amount)
    (fits : amount ≤ room { u with ports := modAt u.ports p fun q => { q with power := { q.power with base := base } } }) :
    drain agendaBound (.marking p [.probe p, .owed p, .lens p, .begin p] u) = .marking p [] { u with
      ports := modAt u.ports p fun q =>
        (PortState.stoodBy base { q with power := { q.power with owed := false } }).lensWaits.moving amount u.clock } := by
  obtain ⟨v, hv⟩ : ∃ v : State, v = { u with
      ports := modAt u.ports p fun q => PortState.stoodBy base { q with power := { q.power with owed := false } } } := ⟨_, rfl⟩
  have port : v.ports.get p = PortState.stoodBy base { u.ports.get p with power := { (u.ports.get p).power with owed := false } } := by
    rw [hv]
    exact get_modAt_self ..
  have claim : (lensMotionClaim v p).amount = amount := by
    have kept : (enqueue .sleep (u.ports.get p).link).identity = (u.ports.get p).link.identity := by
      unfold enqueue
      split <;> rfl
    rw [hamount, lensMotionClaim, lensMotionClaim, port]
    dsimp only [PortState.stoodBy]
    rw [kept]
  have held : room v = room { u with ports := modAt u.ports p fun q => { q with power := { q.power with base := base } } } := by
    refine room_congr (by rw [hv]) fun q => ?_
    rw [hv]
    dsimp only
    rw [get_modAt, get_modAt]
    split
    · rfl
    · rfl
  obtain ⟨w, hw'⟩ : ∃ w : State, w = { v with ports := modAt v.ports p fun q => q.lensWaits.moving amount v.clock } := ⟨_, rfl⟩
  have standby : perform (.owed p) (.marking p [.lens p, .begin p] u) = .marking p [.lens p, .begin p] v := by
    rw [hv]
    exact actOnOwed_standby ho hs hw hr hl hb hbase
  have moves : perform (.lens p) (.marking p [.begin p] v) = .marking p [.begin p] w := by
    rw [hw', ← claim]
    exact lensTest_marking_granted (by rw [port]; exact hlens) (by rw [port]; exact (enqueue_state _ _).trans hl)
      (by rw [port]; exact hr) (by rw [port]; exact hsweep) (by rw [port]; exact hh) (by rw [hv]; exact hg) (by rw [hv]; exact hb)
      (by rw [claim, held]; exact fits)
  have empty : (w.ports.get p).queue = [] := by
    rw [hw', get_modAt_self, port]
    exact hq
  change drain (9996 + 1 + 1 + 1 + 1) _ = _
  rw [drain_step (perform_probe_idle (by exact hr)), drain_step standby, drain_step moves,
    drain_step (perform_begin_idle (by exact empty)), drain_empty rfl, hw', hv]
  dsimp only
  rw [modAt_modAt]
  rfl

theorem exec_pulseSetEnd_hushed {n : SlotNo} {samples : Vector (List Int) 16} {base amount : Nat} {q : PortState} (hlive : live s = true)
    (hport : q = s.ports.get p)
    (hr : q.probe = some r) (hf : r.phase = .pulsing) (hj : ∃ asked, r.job = .order n asked) (ht : r.trace = .unasked)
    (hq : q.queue = [.order n]) (hsweep : q.sweep = none) (hl : q.link.state = .hush) (hsend : q.link.sending = none)
    (hsetup : q.link.owedSetup = false) (hsleep : q.link.owedSleep = false) (ho : q.power.owed = true) (hs : q.power.state = .on)
    (hw : wantOf q = .standby) (hlens : q.lens.state = .staged) (hh : holdsFrames q = false) (hg : frameGap p s = true)
    (hb : s.budget.waitList = []) (hbase : base = min (allotment p (standbyPower q) s) q.power.full)
    (hamount : amount = (lensMotionClaim s p).amount)
    (fits : amount ≤ room { s with ports := modAt s.ports p fun q => { q with power := { q.power with base := base } } }) :
    ∃ t m c, exec (.pulseSetEnd p samples) s = .next t ∧ (t.slots.get n).state = .done ∧
      t.ports.get p = { (PortState.stoodBy base { q.unhushed m s.clock r.job with
        power := { q.power with owed := false } }).lensWaits.moving amount s.clock with reportCount := c } := by
  subst hport
  obtain ⟨asked, job⟩ := hj
  obtain ⟨x, hx⟩ : ∃ x : State, x = { s with ports := modAt s.ports p (PortState.resumed s.clock) } := ⟨_, rfl⟩
  have resumes : resume p (Event.of s) = .marking p [.probe p] x := by
    rw [hx]
    exact resume_of hl hr hsend hsetup hsleep ho
  obtain ⟨echoes, hechoes⟩ : ∃ echoes, echoes = echoesOf r.echoThreshold (averaged r.window samples.toList) := ⟨_, rfl⟩
  obtain ⟨slots, page, traffic, faults, ended, -, final, -⟩ := finishProbe_marksOnly (echoes := echoes) resumes (.inr rfl) ht
    fun m hm => by rw [job] at hm; cases hm
  obtain ⟨m, hm⟩ : ∃ m, m = (findingsOf p r echoes x).made.length := ⟨_, rfl⟩
  obtain ⟨u, hu⟩ : ∃ u : State, u = { s with
      slots := slots, page := page, traffic := traffic, faults := faults
      ports := modAt s.ports p (PortState.unhushed m s.clock r.job) } := ⟨_, rfl⟩
  have completed : finishProbe p r [echoes] (Event.of s) = .marking p [.probe p, .owed p, .lens p, .begin p] u := by
    have ports : modAt x.ports p (fun q => (q.broken m).probeOver r.job x.clock) = modAt s.ports p (PortState.unhushed m s.clock r.job) := by
      rw [hx]
      dsimp only
      rw [modAt_modAt]
      rfl
    rw [ended, hu, ← ports, hm, hx]
    rfl
  have port : u.ports.get p = (s.ports.get p).unhushed m s.clock r.job := by
    rw [hu]
    exact get_modAt_self ..
  have cable : (u.ports.get p).cable = (s.ports.get p).cable := by rw [port]; rfl
  have cell : u.cell = s.cell := by rw [hu]
  have worked := drain_unhushed (u := u) (p := p) (base := base) (amount := amount) (by rw [port]; exact ho) (by rw [port]; exact hs)
    (by rw [port]; exact hw) (by rw [port]; rfl) (by rw [port]; rfl)
    (by rw [port]; exact congrArg List.tail hq) (by rw [port]; exact hlens) (by rw [port]; exact hsweep) (by rw [port]; exact hh)
    (by rw [hu]; exact hg) (by rw [hu]; exact hb)
    (by rw [hbase, allotment_congr _ cable cell, port]; rfl)
    (by rw [hamount, lensMotionClaim, lensMotionClaim, port]; rfl)
    (by
      refine fits.trans_eq (room_congr (by rw [hu]) fun o => ?_)
      rw [hu]
      dsimp only
      rw [modAt_modAt, get_modAt, get_modAt]
      split
      · rfl
      · rfl)
  obtain ⟨t, hT⟩ : ∃ t : State, t = { u with ports := modAt u.ports p fun q =>
      (PortState.stoodBy base { q with power := { q.power with owed := false } }).lensWaits.moving amount u.clock } := ⟨_, rfl⟩
  have event : exec (.pulseSetEnd p samples) s = .next (t.reported [p]) := by
    rw [exec_pulseSetEnd_completes hlive hr hf (fun m hm => by rw [job] at hm; cases hm) ht, ← hechoes, completed, hT]
    exact congrArg Host.Outcome.next (finish_of_drained worked)
  obtain ⟨count, flags, shown, reported⟩ := reported_eq p t
  refine ⟨_, m, count, event, ?_, ?_⟩
  · obtain ⟨state, -⟩ := final n asked job
    rw [reported, hT, hu]
    exact state
  · rw [reported]
    dsimp only
    rw [get_modAt_self, hT]
    dsimp only
    rw [get_modAt_self, port, hu]
    rfl

end

end Sys2Proof.Machine

namespace Sys2Proof.Machine

/-! ## A removal of power that ends a probe (R54, R78, R158) -/

/-- What x tells besides e: at most n tasks, of p's gap or to p's probe. What runs on the ports is the same. -/
structure Nudged (p : Port) (n : Nat) (e x : Event) : Prop where
  runs : runs x = runs e
  tells : ∃ told, x.agenda = e.agenda ++ told ∧ told.length ≤ n ∧ ∀ t ∈ told, t = .gap p ∨ t = .probe p

theorem Nudged.trans {p : Port} {n m : Nat} {e x y : Event} (h : Nudged p n e x) (h' : Nudged p m x y) : Nudged p (n + m) e y := by
  obtain ⟨told, first, few, kinds⟩ := h.tells
  obtain ⟨told', second, few', kinds'⟩ := h'.tells
  refine ⟨h'.runs.trans h.runs, told ++ told', by rw [second, first, List.append_assoc], ?_, fun t ht => ?_⟩
  · rw [List.length_append]
    omega
  · exact (List.mem_append.mp ht).elim (kinds t) (kinds' t)

theorem Nudged.none {p : Port} {e x : Event} (hr : Machine.runs x = Machine.runs e) (ha : x.agenda = e.agenda) : Nudged p 0 e x :=
  ⟨hr, [], by rw [ha, List.append_nil], Nat.le_refl 0, fun _ ht => by cases ht⟩

theorem Nudged.le {p : Port} {n m : Nat} {e x : Event} (h : Nudged p n e x) (hn : n ≤ m) : Nudged p m e x := by
  obtain ⟨told, tells, few, kinds⟩ := h.tells
  exact ⟨h.runs, told, tells, few.trans hn, kinds⟩

section
variable {p : Port} {e : Event}

theorem Nudged.sweep {n : Nat} {x : Event} (h : Nudged p n e x) (q : Port) : (x.port q).sweep = (e.port q).sweep :=
  congrArg (fun r => (r q).2.2.1) h.runs

theorem Nudged.touch : Nudged p 0 e (Machine.touch p e) := by
  unfold Machine.touch
  split
  · exact .none rfl rfl
  · exact .none rfl rfl

theorem Nudged.tellProbe : Nudged p 1 e (Machine.tellProbe p e) := by
  unfold Machine.tellProbe
  split
  · exact ⟨rfl, [.probe p], rfl, Nat.le_refl 1, fun t ht => .inr (List.mem_singleton.mp ht)⟩
  · exact (Nudged.none rfl rfl).le (Nat.zero_le 1)

theorem Nudged.setPower (st : PowerState) : Nudged p 1 e (Machine.setPower p st e) := by
  unfold Machine.setPower
  split
  · exact (Nudged.none rfl rfl).le (Nat.zero_le 1)
  · exact ((Nudged.none (runs_modPort_same (by exact fun _ => rfl) e) rfl).trans Nudged.touch).trans Nudged.tellProbe

theorem Nudged.setLink (st : LinkState) : Nudged p 1 e (Machine.setLink p st e) := by
  unfold Machine.setLink
  split
  · exact (Nudged.none rfl rfl).le (Nat.zero_le 1)
  · exact ((Nudged.none (runs_modPort_same (by exact fun _ => rfl) e) rfl).trans Nudged.touch).trans Nudged.tellProbe

theorem Nudged.setLens (st : LensState) : Nudged p 0 e (Machine.setLens p st e) := by
  unfold Machine.setLens
  split
  · exact .none rfl rfl
  · exact (Nudged.none (runs_modPort_same (by exact fun _ => rfl) e) rfl).trans Nudged.touch

theorem Nudged.loseFrames : Nudged p 1 e (Machine.loseFrames p e) := by
  have lost : (forEntries (loseFrame p) e).agenda = e.agenda := forEntries_keeps Event.agenda (loseFrame_agenda p) e
  refine ⟨runs_loseFrames p e, ?_⟩
  unfold Machine.loseFrames
  dsimp only
  split
  · exact ⟨[], by rw [lost, List.append_nil], Nat.zero_le 1, fun _ ht => by cases ht⟩
  · unfold tellIfDrained
    split
    · exact ⟨[.gap p], by rw [tell_agenda, lost], Nat.le_refl 1, fun t ht => .inl (List.mem_singleton.mp ht)⟩
    · exact ⟨[], by rw [lost, List.append_nil], Nat.zero_le 1, fun _ ht => by cases ht⟩

/-- A link going DARK, with no sweep on its port. -/
theorem Nudged.linkDark (hw : (e.port p).sweep = Option.none) : Nudged p 2 e (Machine.linkDark p e) := by
  unfold Machine.linkDark
  split
  · exact (Nudged.none rfl rfl).le (Nat.zero_le 2)
  · obtain ⟨x, hx⟩ : ∃ x, x = emptyHistories p (modLink p PortLink.darken e) := ⟨_, rfl⟩
    have first : Nudged p 0 e x := hx ▸ (Nudged.none (runs_modPort_same (by exact fun _ => rfl) e) rfl).trans
      (Nudged.none (runs_modPort_same (by exact fun _ => rfl) _) rfl)
    have second := first.trans (Nudged.setLink .dark)
    have unswept : ((Machine.setLink p .dark x).port p).sweep = Option.none := (second.sweep p).trans hw
    have unspoiled : sweepSpoiled p (Machine.setLink p .dark x) = Machine.setLink p .dark x := by
      unfold sweepSpoiled
      rw [unswept]
    rw [← hx, spoilFrames, unspoiled]
    exact second.trans Nudged.loseFrames

theorem nudged_lensSevered (hw : (e.port p).sweep = none) (st : PowerState) : Nudged p 3 e (lensSevered p st e) := by
  obtain ⟨x, hx⟩ : ∃ x, x = leaveInrush p (withdrawAll p (modPower p PortPower.cut e)) := ⟨_, rfl⟩
  have cut : Nudged p 0 e x := hx ▸ .none (runs_modPort_same (by exact fun _ => rfl) e) rfl
  have unpowered := cut.trans (.setPower st)
  have dark := unpowered.trans (.linkDark ((unpowered.sweep p).trans hw))
  rw [lensSevered, severed, ← hx]
  exact (dark.trans (.none (runs_modPort_same (by exact fun _ => rfl) _) rfl)).trans (.setLens _)

/-- The orders of a port on which neither a SNAP nor a sweep runs, but a probe that began on a powered port. -/
theorem cutOrders_probe {r : ProbeRun} (hs : (e.port p).snap = none) (hw : (e.port p).sweep = none) (hr : (e.port p).probe = some r)
    (hp : r.beganPowered = true) (hf : r.phase ≠ .ending) : cutOrders p e = abortProbe p .aborted .powerLost e := by
  have snap : loseSnap p .powerLost e = e := by unfold loseSnap; rw [hs]
  have sweep : endSweep p .aborted .powerLost e = e := by unfold endSweep; rw [hw]
  rw [cutOrders, snap, sweep]
  unfold cutProbe
  rw [hr]
  dsimp only
  rw [hp]
  cases phase : r.phase with
  | ending => exact absurd phase hf
  | _ => rfl

end

/-- A powered port whose power is removed while a probe of an order runs that began there: what stands in the record then, and what is
still to be told. -/
structure ProbeCut (p : Port) (n : SlotNo) (goes : PowerState × Nat) (e x : Event) : Prop where
  power : ∃ at', (x.port p).power = { ({ (e.port p).power with retry := goes.2 } : PortPower).cut with state := goes.1, retryAt := at' }
  sheet : (x.port p).sheet = (e.port p).sheet
  link : (x.port p).link.state = .dark
  lens : (x.port p).lens.state = .unknown
  probe : (x.port p).probe = none
  queue : (x.port p).queue = (e.port p).queue.tail
  state : (x.slots.get n).state = .aborted
  reason : (x.slots.get n).reason = .powerLost
  told : ∃ told, x.agenda = e.agenda ++ told ++ [.owed p, .lens p, .begin p] ∧ told.length ≤ 3 ∧
    ∀ t ∈ told, t = .gap p ∨ t = .probe p

section
variable {p : Port} {n : SlotNo} {r : ProbeRun} {e : Event} {goes : PowerState × Nat}

theorem removePower_probe (hb : e.budget.waitList = []) (hs : (e.port p).snap = none) (hw : (e.port p).sweep = none)
    (hr : (e.port p).probe = some r) (hp : r.beganPowered = true) (hf : r.phase ≠ .ending) (hj : ∃ asked, r.job = .order n asked)
    (ht : r.trace = .unasked) (hg : goes.2 = (e.port p).power.retry) : ProbeCut p n goes e (removePower p .fault goes.1 e) := by
  obtain ⟨asked, job⟩ := hj
  have shown := faces_lensSevered p goes.1 e
  have nudged := nudged_lensSevered hw goes.1
  have waits := lensSevered_waits (p := p) hb goes.1
  have steps : removePower p .fault goes.1 e = takeStage (if (e.port p).power.held = 0 then cutOrders p (lensSevered p goes.1 e)
      else walk (cutOrders p (lensSevered p goes.1 e))) := by
    rw [← loseLens_severed hb]
    rfl
  rw [steps]
  generalize lensSevered p goes.1 e = y at shown nudged waits
  have mine : faces y p = { faces e p with
      power := { (faces e p).power.cut with state := goes.1 }, link := (faces e p).link.dark
      lens := { (faces e p).lens.lose true with state := .unknown } } := by rw [shown, Function.update_self]
  have dark : (y.port p).link.state = .dark := (congrArg (fun f => f.link.state) mine :).trans (PortLink.dark_state _)
  have runs : (y.port p).probe = some r := (congrArg (fun r => (r p).2.2.2) nudged.runs :).trans hr
  have orders := cutOrders_probe (p := p) (e := y) ((congrArg (fun r => (r p).1) nudged.runs :).trans hs) ((nudged.sweep p).trans hw) runs hp hf
  obtain ⟨slots, page, traffic, touched, pool, free, eq, state, reason, -⟩ :=
    abortProbe_order runs job ht (by rw [dark]; decide) .aborted .powerLost
  rw [orders, walk_none (by rw [eq]; exact waits), ite_self, eq, takeStage_eq]
  have left : ∀ z : Event, z.ports = modAt y.ports p (fun q => { q with probe := none, queue := q.queue.tail }) → z.slots = slots →
      z.agenda = y.agenda ++ [.owed p, .lens p, .begin p] → ProbeCut p n goes e z := fun z hports hslots hagenda => ?_
  · exact left _ rfl rfl rfl
  have port : z.port p = { y.port p with probe := none, queue := (y.port p).queue.tail } := by
    rw [Event.port, hports]
    exact get_modAt_self ..
  obtain ⟨told, tells, few, kinds⟩ := nudged.tells
  exact {
    power := ⟨(e.port p).power.retryAt, by
      rw [port]
      refine (congrArg Face.power mine :).trans ?_
      rw [hg]
      rfl⟩
    sheet := by rw [port]; exact (congrArg Face.sheet mine :)
    link := by rw [port]; exact dark
    lens := by rw [port]; exact (congrArg (fun f => f.lens.state) mine :)
    probe := by rw [port]
    queue := by rw [port]; exact congrArg List.tail (congrArg Face.queue mine :)
    state := by rw [hslots]; exact state
    reason := by rw [hslots]; exact reason
    told := ⟨told, by rw [hagenda, tells], few, kinds⟩ }

end

end Sys2Proof.Machine

namespace Sys2Proof.Machine

section
variable {p : Port} {n : SlotNo} {r : ProbeRun} {e : Event} {goes : PowerState × Nat}

/-- A change of the port's retry timer is no change of what the removal left. -/
theorem ProbeCut.retryAt {x : Event} (h : ProbeCut p n goes e x) (at' : Option Nat) :
    ProbeCut p n goes e (modPower p (fun w => { w with retryAt := at' }) x) := by
  obtain ⟨before, power⟩ := h.power
  have port : (modPower p (fun w => { w with retryAt := at' }) x).port p =
      { x.port p with power := { (x.port p).power with retryAt := at' } } := get_modAt_self ..
  exact {
    power := ⟨at', by rw [port, power]⟩
    sheet := by rw [port]; exact h.sheet
    link := by rw [port]; exact h.link
    lens := by rw [port]; exact h.lens
    probe := by rw [port]; exact h.probe
    queue := by rw [port]; exact h.queue
    state := h.state
    reason := h.reason
    told := h.told }

theorem applyAction_probe {a : Action} (ha : a ≠ .nothing) (hn : (e.port p).power.state.powered = true)
    (hg : goes = actionGoes a (e.port p).power.state (e.port p).power.retry)
    (hb : e.budget.waitList = []) (hs : (e.port p).snap = none) (hw : (e.port p).sweep = none)
    (hr : (e.port p).probe = some r) (hp : r.beganPowered = true) (hf : r.phase ≠ .ending) (hj : ∃ asked, r.job = .order n asked)
    (ht : r.trace = .unasked) : ProbeCut p n goes e (applyAction p a e) := by
  obtain ⟨y, hy⟩ : ∃ y, y = modPower p (fun x => { x with retry := goes.2 }) e := ⟨_, rfl⟩
  have port : y.port p = { e.port p with power := { (e.port p).power with retry := goes.2 } } := by
    rw [hy]
    exact get_modAt_self ..
  have removed := removePower_probe (p := p) (n := n) (r := r) (e := y) (goes := goes) (by rw [hy]; exact hb)
    (by rw [port]; exact hs) (by rw [port]; exact hw) (by rw [port]; exact hr) hp hf hj ht (by rw [port])
  have counted : ProbeCut p n goes e (removePower p .fault goes.1 y) := by
    obtain ⟨at', power⟩ := removed.power
    exact { removed with
      power := ⟨at', by rw [power, port]⟩
      sheet := removed.sheet.trans (by rw [port])
      queue := removed.queue.trans (by rw [port])
      told := by rw [show e.agenda = y.agenda by rw [hy]; rfl]; exact removed.told }
  rw [applyAction_powered ha hn hg, ← hy]
  split
  · exact counted.retryAt _
  · exact counted

end

/-! ### The want that a probe has held back (R77, R79; log 48) -/

/-- A port on which an owed want of OFF is made after an action: RETRY_WAIT is left for OFF, HELD and LOCKED_OUT stay. -/
def PortState.settledOff (q : PortState) : PortState :=
  if q.power.state = .retryWait then { q with power := { q.power with owed := false, state := .off, retryAt := none, retryEnded := false } }
  else { q with power := { q.power with owed := false } }

section
variable {p : Port} {e : Event}

theorem actOnOwed_off (ho : (e.port p).power.owed = true) (hw : wantOf (e.port p) = .off) (hr : (e.port p).probe = none)
    (hs : (e.port p).power.state = .held ∨ (e.port p).power.state = .lockedOut ∨ (e.port p).power.state = .retryWait) :
    ∃ touched, perform (.owed p) e = { modPort p PortState.settledOff e with touched := touched } := by
  obtain ⟨x, hx⟩ : ∃ x, x = modPower p (fun w => { w with owed := false }) e := ⟨_, rfl⟩
  have port : x.port p = { e.port p with power := { (e.port p).power with owed := false } } := by
    rw [hx]
    exact get_modAt_self ..
  have owed : perform (.owed p) e = actOnWant p x := by
    rw [hx]
    exact if_pos ho
  have state : (x.port p).power.state = (e.port p).power.state := by rw [port]
  have want : wantOf (x.port p) = .off := by rw [port]; exact hw
  have stays : (e.port p).power.state ≠ .retryWait → x = modPort p PortState.settledOff e := fun hn => by
    have settled : modAt e.ports p PortState.settledOff =
        modAt e.ports p fun q => { q with power := { q.power with owed := false } } := modAt_congr (if_neg hn)
    rw [hx, modPort, settled]
    rfl
  unfold actOnWant at owed
  dsimp only at owed
  rw [want, state] at owed
  rcases hs with held | locked | waits
  · rw [held] at owed
    exact ⟨e.touched, by rw [owed, stays (by rw [held]; decide)]; rfl⟩
  · rw [locked] at owed
    exact ⟨e.touched, by rw [owed, stays (by rw [locked]; decide)]; rfl⟩
  · rw [waits] at owed
    have settled : modAt e.ports p PortState.settledOff = modAt e.ports p fun q => { q with power := { q.power with
        owed := false, state := .off, retryAt := none, retryEnded := false } } := modAt_congr (if_pos waits)
    obtain ⟨touched, marked, -⟩ := touch_eq p (modPower p (fun w => { w with state := .off })
      (modPower p (fun w => { w with retryAt := none, retryEnded := false }) x))
    refine ⟨touched, ?_⟩
    rw [owed]
    change leaveRetry p x = _
    unfold leaveRetry setPower
    have still : ((modPower p (fun w => { w with retryAt := none, retryEnded := false }) x).port p).power.state = .retryWait := by
      rw [port_modPower, if_pos rfl]
      exact state.trans waits
    have quiet : ((touch p (modPower p (fun w => { w with state := .off })
        (modPower p (fun w => { w with retryAt := none, retryEnded := false }) x))).port p).probe = none := by
      rw [port_touch, port_modPower, if_pos rfl, port_modPower, if_pos rfl, port]
      exact hr
    rw [if_neg (by rw [still]; decide), tellProbe_none quiet, marked, hx, modPort, settled]
    simp only [modPower, modPort, modAt_modAt]

/-- Tasks at the front that find nothing to do are passed over. -/
theorem drain_front {front rest : List Task} {k : Nat}
    (h : ∀ t ∈ front, ∀ x : Event, x.toState = e.toState → perform t x = x) (ha : e.agenda = front ++ rest) :
    drain (front.length + k) e = drain k { e with agenda := rest } := by
  induction front generalizing e with
  | nil =>
    have same : { e with agenda := rest } = e := by rw [← List.nil_append rest, ← ha]
    rw [same, List.length_nil, Nat.zero_add]
  | cons t ts ih =>
    have idle : perform t { e with agenda := ts ++ rest } = { e with agenda := ts ++ rest } := h t (by simp) _ rfl
    have next := ih (e := { e with agenda := ts ++ rest }) (fun t ht => h t (List.mem_cons_of_mem _ ht)) rfl
    have first : drain (ts.length + k + 1) e = drain (ts.length + k) (perform t { e with agenda := ts ++ rest }) := by
      rw [drain, ha]
      rfl
    rw [List.length_cons, Nat.add_right_comm, first, idle, next]

/-- The end of an event in which a probe was cut: of what it told, the owed want of OFF alone acts. -/
theorem drain_probeCut {told : List Task} (ha : e.agenda = told ++ [.owed p, .lens p, .begin p]) (few : told.length ≤ 3)
    (kinds : ∀ t ∈ told, t = .gap p ∨ t = .probe p) (ho : (e.port p).power.owed = true) (hw : wantOf (e.port p) = .off)
    (hr : (e.port p).probe = none)
    (hs : (e.port p).power.state = .held ∨ (e.port p).power.state = .lockedOut ∨ (e.port p).power.state = .retryWait)
    (hl : (e.port p).lens.state ≠ .staged) (hq : (e.port p).queue = []) :
    ∃ touched, drain agendaBound e = { modPort p PortState.settledOff e with touched := touched, agenda := [] } := by
  have front := drain_front (e := e) (front := told) (rest := [.owed p, .lens p, .begin p]) (k := agendaBound - told.length)
    (fun t ht x hx => by
      have port : x.port p = e.port p := congrArg (fun s : State => s.ports.get p) hx
      rcases kinds t ht with rfl | rfl
      · exact perform_gap_idle (by rw [port]; exact hl) (by rw [port]; exact hr)
      · exact perform_probe_idle (by rw [port]; exact hr)) ha
  have bound : told.length + (agendaBound - told.length) = agendaBound := by
    have : agendaBound = 10000 := rfl
    omega
  obtain ⟨k, hk⟩ : ∃ k, agendaBound - told.length = k + 1 := ⟨agendaBound - told.length - 1, by
    have : agendaBound = 10000 := rfl
    omega⟩
  obtain ⟨touched, acted⟩ := actOnOwed_off (e := { e with agenda := [.lens p, .begin p] }) (p := p) ho hw hr hs
  rw [bound, hk] at front
  refine ⟨touched, front.trans ?_⟩
  have first : drain (k + 1) { e with agenda := [.owed p, .lens p, .begin p] } =
      drain k (perform (.owed p) { e with agenda := [.lens p, .begin p] }) := rfl
  rw [first, acted]
  refine drain_idle (fun t ht x hx => ?_) k
  have port : x.port p = (e.port p).settledOff := (congrArg (fun s : State => s.ports.get p) hx).trans (get_modAt_self ..)
  have kept : (e.port p).settledOff.lens = (e.port p).lens ∧ (e.port p).settledOff.queue = (e.port p).queue := by
    unfold PortState.settledOff
    split
    · exact ⟨rfl, rfl⟩
    · exact ⟨rfl, rfl⟩
  have tasks : t ∈ [Task.lens p, Task.begin p] := ht
  simp only [List.mem_cons, List.not_mem_nil, or_false] at tasks
  rcases tasks with rfl | rfl
  · exact perform_lens_idle (by rw [port, kept.1]; exact hl)
  · exact perform_begin_idle (by rw [port, kept.2]; exact hq)

end

end Sys2Proof.Machine

namespace Sys2Proof.Machine

/-! ## The events that end a probe (R154, R156, R157, R163) -/

theorem PortState.settledOff_eq (q : PortState) : q.settledOff = { q with power := { q.power with
    owed := false
    state := if q.power.state = .retryWait then .off else q.power.state
    retryAt := if q.power.state = .retryWait then none else q.power.retryAt
    retryEnded := if q.power.state = .retryWait then false else q.power.retryEnded } } := by
  unfold PortState.settledOff
  split <;> rfl

/-- Where an action takes a powered port, unless it is none. -/
theorem actionGoes_ends {a : Action} {st : PowerState} (ha : a ≠ .nothing) (h : st.powered = true) (retry : Nat) :
    (actionGoes a st retry).1 = .held ∨ (actionGoes a st retry).1 = .lockedOut ∨ (actionGoes a st retry).1 = .retryWait := by
  rw [actionGoes_powered a retry h]
  cases a with
  | nothing => exact absurd rfl ha
  | cut => exact .inl rfl
  | cutLock => exact .inr (.inl rfl)
  | cutRetry =>
    dsimp only
    split
    · exact .inr (.inl rfl)
    · exact .inr (.inr rfl)

section
variable {p : Port} {n : SlotNo} {r : ProbeRun} {k : FaultKind} {s : State}

/-- The action of a power fault ends the probe, and a want of OFF that the probe held back is then made. -/
theorem powerFault_probe {goes : PowerState × Nat} (hk : autoProbeOn s = false) (ha : (reactionOf k s).action ≠ .nothing)
    (hn : (s.ports.get p).power.state.powered = true)
    (hg : goes = actionGoes (reactionOf k s).action (s.ports.get p).power.state (s.ports.get p).power.retry)
    (hb : s.budget.waitList = []) (hs : (s.ports.get p).snap = none) (hw : (s.ports.get p).sweep = none)
    (hr : (s.ports.get p).probe = some r) (hp : r.beganPowered = true) (hf : r.phase ≠ .ending) (hj : ∃ asked, r.job = .order n asked)
    (ht : r.trace = .unasked) (hq : (s.ports.get p).queue = [.order n]) (ho : (s.ports.get p).power.owed = true)
    (hwant : wantOf (s.ports.get p) = .off) : ∃ (x : Event) (q : PortState) (c : Word), ProbeCut p n goes (Event.of s) x ∧
      q.power = (x.port p).power ∧ q.link = (x.port p).link ∧ q.probe = none ∧ q.queue = [] ∧
      (after (powerFault p k) s).ports.get p = { q.settledOff with reportCount := c } ∧ (after (powerFault p k) s).slots = x.slots := by
  have cut := applyAction_probe (e := Event.of s) ha hn hg hb hs hw hr hp hf hj ht
  obtain ⟨x, hx⟩ : ∃ x, x = applyAction p (reactionOf k s).action (Event.of s) := ⟨_, rfl⟩
  have unprobed : autoProbeOn x.toState = false := by
    rw [hx, autoProbeOn_applyAction]
    exact hk
  obtain ⟨page, traffic, touched, noted, -⟩ := handleFault_eq (p := p) (k := k) (.inr unprobed)
  obtain ⟨y, hy⟩ : ∃ y, y = handleFault p k x := ⟨_, rfl⟩
  rw [← hx] at cut
  have port : y.port p = { x.port p with faults := (x.port p).faults.note k } := by
    rw [hy, noted]
    exact get_modAt_self ..
  obtain ⟨at', power⟩ := cut.power
  obtain ⟨told, tells, few, kinds⟩ := cut.told
  have sheet : wantOf (y.port p) = .off := by
    rw [port]
    refine Eq.trans ?_ hwant
    unfold wantOf
    dsimp only
    rw [cut.sheet, port_of]
  have queue : (y.port p).queue = [] := by
    rw [port]
    exact cut.queue.trans (congrArg List.tail hq)
  have ended := actionGoes_ends ha hn (s.ports.get p).power.retry
  rw [← hg] at ended
  obtain ⟨touched', worked⟩ := drain_probeCut (p := p) (e := y) (told := told) (by rw [hy, noted]; exact tells) few kinds
    (by rw [port]; exact (congrArg PortPower.owed power).trans ho) sheet (by rw [port]; exact cut.probe)
    (by
      have state : (y.port p).power.state = goes.1 := by
        rw [port]
        exact congrArg PortPower.state power
      rw [state]
      exact ended) (by rw [port, cut.lens]; decide) queue
  have steps : powerFault p k (Event.of s) = y := by
    rw [hy, hx]
    rfl
  have shown : (after (powerFault p k) s).bare = (modPort p PortState.settledOff y).bare := by
    unfold after
    rw [steps]
    exact (bare_finish_of_drain worked).trans rfl
  obtain ⟨c, mine⟩ := port_of_bare shown p
  refine ⟨x, y.port p, c, cut, by rw [port], by rw [port], by rw [port]; exact cut.probe, queue, ?_, ?_⟩
  · rw [mine]
    exact congrArg (fun q : PortState => { q with reportCount := c }) (get_modAt_self ..)
  · refine (slots_of_bare shown).trans ?_
    change y.slots = _
    rw [hy, noted]
    rfl

end

/-- Settles O49: each end of a probe by the event that reports it, with the tasks that this event tells. -/
theorem probeEnds : Obligations.ProbeEnds := by
  refine ⟨fun p r s hlive hr => ⟨exec_probeReadyTimeout_early hr, fun hd hl ho hs ht hq => ?_⟩,
    fun p r samples s hlive hr hf hj hq ht hpath hl ho echoes he found hfound g hg => ?_,
    fun p r n samples s hlive q hport hr hf hpath hj ht hq hsweep hl hsend hsetup hsleep ho hs hw hmotion hlens hh hgap hb base hbase
      amount hamount fits => ?_,
    fun p r n s hlive q hport w hpower hr hp hf hj ht hq hsnap hsweep ho hw hs hd hb hk a ha hacts => ?_⟩
  · obtain ⟨t, event, ⟨c, port⟩, faults, final, kept⟩ := exec_probeReadyTimeout hlive hr hd hl ho hs ht hq
    refine ⟨t, event, fun n hn queue => ?_, fun job queue => ?_, by rw [port]; rfl, by rw [port]; rfl, by rw [faults], by rw [port]; rfl⟩
    · obtain ⟨state, reason⟩ := final n (hn.imp (fun h => ⟨false, h⟩) id)
      refine ⟨state, reason, by rw [port]; exact congrArg List.tail queue, ?_⟩
      rw [port]
      rcases hn with job | job
      · rw [job]; rfl
      · rw [job]; rfl
    · refine ⟨by rw [port]; exact congrArg List.tail queue, kept job, ?_⟩
      rw [port, job]
      rfl
  · subst hg hfound
    obtain ⟨t, event, log, ⟨c, port⟩, final, kept⟩ := exec_pulseSetEnd_dark hlive hr hf hj ht hq hl ho he
    have counts : ∀ (m : Nat) (job : ProbeJob) (clock : Nat) (q : PortState), ((q.broken m).probeOver job clock).faults.counts =
        ((PortFaults.note .breakFound)^[m] q.faults).counts := fun m job clock q => by cases job <;> rfl
    refine ⟨t, event, log, by rw [port]; rfl, ?_, by rw [port]; rfl, ?_, fun n job queue => ?_, fun job queue => ⟨kept job, ?_⟩⟩
    · rw [port]
      exact List.length_eq_zero_iff.mp (List.length_tail.trans (by
        change (s.ports.get p).queue.length - 1 = 0
        omega))
    · rw [port]
      refine (counts _ _ _ _).trans ((counts_note_iterate _ _ _).trans ?_)
      refine congrArg (modAt (s.ports.get p).faults.counts 8) (funext fun k => if_congr ?_ rfl rfl)
      exact List.length_eq_zero_iff
    · obtain ⟨state, results⟩ := final n false job
      refine ⟨state, results.trans ?_⟩
      unfold resultsOf
      rw [hpath]
      rfl
    · rw [port, job]
      rfl
  · subst hport hamount
    obtain ⟨t, m, c, event, state, port⟩ := exec_pulseSetEnd_hushed hlive rfl hr hf hj ht hq hsweep hl hsend hsetup hsleep ho hs hw hlens hh
      hgap hb hbase rfl fits
    have moved : (t.ports.get p).link = enqueue (.lensMove (s.ports.get p).lens.staged)
        (enqueue .sleep ((s.ports.get p).resumed s.clock).link) := by
      rw [port]
      rfl
    have sent : enqueue (.lensMove (s.ports.get p).lens.staged) (enqueue .sleep ((s.ports.get p).resumed s.clock).link) =
        { ((s.ports.get p).resumed s.clock).link with
          waiting := (s.ports.get p).link.waiting ++ [.sleep] ++ [.lensMove (s.ports.get p).lens.staged] } := by
      rw [enqueue_busy (j := .resume) .sleep rfl, enqueue_busy (j := .resume) _ rfl]
      rfl
    refine ⟨t, event, state, ?_, ?_, by rw [port]; rfl, by rw [port]; rfl⟩
    · rw [moved, sent]
      rfl
    · rw [moved, sent, List.append_assoc]
      rfl
  · subst hport hpower ha
    have powered : (s.ports.get p).power.state.powered = true := by rw [hs]; rfl
    obtain ⟨x, q, c, cut, power, link, probe, queue, port, slots⟩ :=
      powerFault_probe (k := .overload) hk hacts powered rfl hb hsnap hsweep hr hp hf hj ht hq ho hw
    obtain ⟨at', left⟩ := cut.power
    have goes := actionGoes_powered (reactionOf .overload s).action (s.ports.get p).power.retry powered
    rw [goes] at left
    rw [← power] at left
    refine ⟨_, exec_limitTimerExpiry hlive hs hd, by rw [slots]; exact cut.state, by rw [slots]; exact cut.reason, ?_⟩
    rw [port, q.settledOff_eq]
    refine ⟨probe, queue, (congrArg PortLink.state link).trans cut.link, rfl, (congrArg PortPower.base left).trans rfl, ?_, ?_⟩
    · refine (congrArg PortPower.retry left).trans ?_
      cases action : (reactionOf .overload s).action with
      | nothing => exact absurd action hacts
      | cut => rfl
      | cutLock => rfl
      | cutRetry => rfl
    · have state := congrArg PortPower.state left
      dsimp only at state ⊢
      rw [state]
      cases action : (reactionOf .overload s).action with
      | nothing => exact absurd action hacts
      | cut => rfl
      | cutLock => rfl
      | cutRetry =>
        dsimp only
        split
        · rfl
        · rfl

end Sys2Proof.Machine

namespace Sys2Proof.Machine

/-! ## A take that removes power from a DARK port (R78, R94) -/

/-- A record whose values are read without an error, with the check of its body behind it and spares that are zero, is accepted (R8). -/
theorem judge_record {α : Type} {body : List Byte} {hand : Byte} {reader : Read α} {x : α} {r : Rd}
    (hr : reader.run { pos := 0, rest := body, sparesOk := true, bad := none, live := true } = (x, r))
    (hs : (r.sparesOk && r.rest.all (fun b => b == 0)) = true) (hb : r.bad = none) :
    judge body.length (body ++ (leBytes 2 (crc16 body).toNat ++ [hand])) reader = .ok x := by
  have sized : (leBytes 2 (crc16 body).toNat).length = 2 := rfl
  have front : (body ++ (leBytes 2 (crc16 body).toNat ++ [hand])).take body.length = body := List.take_left
  have check : leNat (((body ++ (leBytes 2 (crc16 body).toNat ++ [hand])).drop body.length).take 2) = (crc16 body).toNat := by
    rw [List.drop_left, List.take_left' sized, leNat_leBytes]
    exact Nat.mod_eq_of_lt (crc16 body).isLt
  unfold judge
  dsimp only
  rw [front, check, if_neg (not_not.mpr rfl), hr]
  dsimp only
  rw [hs, hb]
  rfl

/-- The fields of a Port Sheet: want OFF, 5 W, 5 × 10 ms, 8000 µs, 8 bits. -/
def offFields : List Byte := [0, 50, 5, 0, 0x40, 0x1F, 0, 0, 0, 15, 0] ++ List.replicate 370 0

/-- A new Port Sheet record that holds them. -/
def offRecord : List Byte := offFields ++ (leBytes 2 (crc16 offFields).toNat ++ [9])

/-- The sheet it holds. -/
def offSheet : PortSheet where
  want := .off
  declared := 50
  wakeSettle := 5
  exposure := 8000
  depth := .bits8
  members := 15
  hold := false
  lens := Axes.none
  region := none

/-- The camera that port 0 has not forgotten. -/
def oldCamera : Identity :=
  { serial := 7, camClass := 0, lensKind := .none, maxPower := 50, standbyPower := 5, motionPower := 0 }

/-- Port 0 is SETTLING, its link DARK with an identity left in its record, and its Port Sheet is being read. -/
def settlingOffer : State := { State.reset with
  page := { PageIf.reset with areas := putAt PageIf.reset.areas (Area.index (.portSheet 0)) (.sweeping false 0 (some 0)) }
  ports := putAt State.reset.ports 0 { PortState.reset CableRec.absent with
    power := { PortPower.reset with state := .settling, base := 50 }
    link := { PortLink.reset with state := .dark, identity := some oldCamera } } }

theorem offFields_length : offFields.length = 381 := by
  rw [offFields, List.length_append, List.length_replicate]
  rfl

theorem read_offFields : (readPortSheet.run { pos := 0, rest := offFields, sparesOk := true, bad := none, live := true }).1 = offSheet ∧
    ∀ r, r = (readPortSheet.run { pos := 0, rest := offFields, sparesOk := true, bad := none, live := true }).2 →
      (r.sparesOk && r.rest.all (fun b => b == 0)) = true ∧ r.bad = none := by
  refine ⟨by decide +kernel, ?_⟩
  rintro _ rfl
  decide +kernel

theorem judge_offRecord : judgePortSheet offRecord = .ok offSheet := by
  obtain ⟨sheet, rest⟩ := read_offFields
  have sized : offRecord.length = 0x180 := by simp [offRecord, offFields_length, leBytes]
  generalize hx : readPortSheet.run { pos := 0, rest := offFields, sparesOk := true, bad := none, live := true } = x at sheet rest
  obtain ⟨spares, values⟩ := rest _ rfl
  have judged := judge_record (hand := 9) hx spares values
  rw [offFields_length, sheet] at judged
  rw [judgePortSheet, fit_length sized]
  exact judged

/-- The hand of the record. -/
theorem hand_offRecord : handOf 0x180 offRecord = 9 := by
  have last : offRecord.drop 383 = [9] := by
    rw [offRecord, ← List.append_assoc]
    exact List.drop_left' (by simp [offFields_length, leBytes])
  rw [handOf, last]
  rfl

/-- A new Port Sheet record that is accepted is TAKEN, the sweep going on behind it (R12, R26). -/
theorem exec_sweepRecordRead_portSheet_taken {p : Port} {bytes : List Byte} {sheet : PortSheet} {n : Nat} {s : State} (h : live s = true)
    (ho : outstanding (.portSheet p) s = some n) (hnew : handOf 0x180 bytes ≠ (s.ports.get p).take.hand)
    (hj : judgePortSheet bytes = .ok sheet) : exec (.sweepRecordRead (.portSheet p) ⟨readNumber (.area (.portSheet p)) s, bytes⟩) s =
      .next (after (fun e => nextRecord (.portSheet p) (touch p (takePortSheet p sheet (modPort p (fun q => { q with
        take := { hand := handOf 0x180 bytes, verdict := .taken, reason := .none, field := 0 } }) e)))) s) := by
  have dealt : dealPortSheet p bytes (Event.of s) = touch p (takePortSheet p sheet (modPort p (fun q => { q with
      take := { hand := handOf 0x180 bytes, verdict := .taken, reason := .none, field := 0 } }) (Event.of s))) := by
    refine (if_neg hnew).trans ?_
    rw [hj]
  refine (act_live h).trans (congrArg (fun e => Host.Outcome.next (finish e).toState) ?_)
  rw [completes_recordRead ho, afterRecord_other (by simp)]
  exact congrArg (nextRecord (.portSheet p)) dealt

/-- The take of the record in that state. -/
def takesOff (hand : Byte) : State := after (fun e => nextRecord (.portSheet 0) (touch 0 (takePortSheet 0 offSheet (modPort 0 (fun q =>
  { q with take := { hand := hand, verdict := .taken, reason := .none, field := 0 } }) e)))) settlingOffer

/-- The link that is DARK already is left as it is, its identity with it. -/
theorem identity_takesOff : ((takesOff 9).ports.get 0).link.identity = some oldCamera := by decide +kernel

/-- Refutes O5 at a take with a want of OFF on a powered port whose link is DARK: the removal of power clears the identity only where it
darkens the link, so that one which stands in the record of a DARK link, as the statement allows, is still there. -/
theorem not_portSheetActs : ¬ Obligations.PortSheetActs := by
  unfold Obligations.PortSheetActs
  rintro ⟨takes, -⟩
  have alive : live settlingOffer = true := by decide +kernel
  have read : outstanding (.portSheet 0) settlingOffer = some 0 := by decide +kernel
  have new : handOf 0x180 offRecord ≠ (settlingOffer.ports.get 0).take.hand := by
    rw [hand_offRecord]
    decide +kernel
  obtain ⟨-, -, removes⟩ := takes 0 offRecord 0 offSheet settlingOffer alive read new judge_offRecord _ rfl _ rfl _ rfl _ rfl _ rfl _ rfl _
    rfl _ rfl
  obtain ⟨t, event, -, -, -, -, -, -, -, identity, -⟩ := removes (by decide +kernel) rfl (by decide +kernel) (by decide +kernel)
    (by decide +kernel) (by decide +kernel)
  rw [exec_sweepRecordRead_portSheet_taken alive read new judge_offRecord, hand_offRecord] at event
  injection event with same
  rw [← same] at identity
  exact absurd (identity_takesOff.symm.trans identity) (by decide)

end Sys2Proof.Machine
